-- ==== Sys2Proof/Word.lean ====
section
/-!
DEFINITION. The two word types of the station's frames and configuration block.
Characters of the pack link and bytes of the block are 8 bits wide (R156, R197); two-byte fields are 16 bits (R158, R197).
-/
namespace Sys2Proof

/-- A byte of a frame or of the configuration block (R158, R197). -/
abbrev Byte := BitVec 8

/-- A two-byte field, most significant byte first where it is laid out (R158, R197). -/
abbrev Half := BitVec 16

end Sys2Proof
end

