-- ==== Sys2Proof/Syntax.lean ====
section
/-!
DEFINITION. The station's commands: one constructor for each row of spec/opcode_table.json, with what the row's rule
says the event brings as its operands.
-/
namespace Sys2Proof

/-- The two paths of a module (00, Paths and pack level). -/
inductive Path where
  | charge
  | discharge
  deriving DecidableEq, Repr

/-- The fourteen condition kinds, codes 1 to 14 (R28). -/
inductive Kind where
  | cellHigh
  | cellLow
  | chargeOvercurrent
  | dischargeOvercurrent
  | short
  | moduleHot
  | moduleCold
  | dieHot
  | imbalance
  | senseMismatch
  | switchFault
  | memberLost
  | hold
  | unexplainedStop
  deriving DecidableEq, Repr

/-- One character as received: a byte, or a character damaged (its stop bit missing, R157). -/
inductive LineChar where
  | byte (b : Byte)
  | damaged
  deriving DecidableEq, Repr

/-- What CHARACTER_RECEIVED brings: a start bit alone, or a whole character (R157, R168). -/
inductive LineEvent where
  | startBit
  | character (c : LineChar)
  deriving DecidableEq, Repr

/-- What stands at the loader and at the pins when LOADING ends: the bytes the one-time storage was written with, which
count at the first load alone (R197, R201; log entry 8), the straps (R199, R200), the two gate feedback inputs (R146),
the stop line (R155) and the shunt the comparator is enabled on, in microvolts, positive in charge (R68, R69). -/
structure LoadInputs where
  block             : Vector Byte 64
  strap             : BitVec 4
  feedbackCharge    : Bool
  feedbackDischarge : Bool
  stopLine          : Bool
  shunt             : Int
  deriving DecidableEq, Repr

/-- What one scan meets at the pins: the tap differences in mV from cell 1 on, the codes of the thermistor inputs, the
die temperature in degrees C, all before the clamping of R58, R60 and R61. -/
structure ScanInputs where
  taps  : List Int
  codes : List Nat
  die   : Int
  deriving DecidableEq, Repr

/-- The four bytes of a record entry (R165). -/
structure EntryBytes where
  kind    : Byte
  subject : Byte
  tripId  : Byte
  state   : Byte
  deriving DecidableEq, Repr

/-- The fields of a BEAT payload as carried (R164). -/
structure BeatFields where
  phase          : Byte
  listFull       : Byte
  seq            : Half
  digest         : Half
  chargeState    : Byte
  dischargeState : Byte
  voltage        : Half
  current        : Half
  epoch          : Byte
  count          : Byte
  lastRound      : Byte
  lastCloser     : Byte
  watch          : Half
  records        : List EntryBytes
  deriving DecidableEq, Repr

/-- What every REQUEST carries before its arguments: source, destination and tag (R158, R179). -/
structure ReqHead where
  src : Byte
  dst : Byte
  tag : Byte
  deriving DecidableEq, Repr

/-- The commands. Names are those of spec/opcode_table.json. In the frame rows `src` is the frame's source; the argument
bytes of a request row are its payload from byte 2 on (R179), pad included. -/
inductive Instr where
  | supplyReset
  | supplyResetEnd
  | loadingEnd (i : LoadInputs)
  | checkIntervalExpiry
  | scanResult (m : ScanInputs)
  | currentSample (shunt : Int)
  | comparatorAssertion (shunt : Int)
  | comparatorRelease (shunt : Int)
  | shortDelayExpiry
  | recoveryTimerExpiry (k : Kind)
  | releaseTimerExpiry
  | beatPeriodEvent
  | haltedBeat
  | silenceTimerExpiry (rank : Nat)
  | formationTimeout
  | holdOffExpiry (p : Path)
  | windowTimerExpiry
  | listFullTimerExpiry
  | quietTimerExpiry
  | feedbackOn (p : Path)
  | feedbackOff (p : Path)
  | closeLimitExpiry (p : Path)
  | openLimitExpiry (p : Path)
  | stopLineGoingAsserted
  | stopLineGoingReleased
  | minimumTimerExpiry
  | driverLimitExpiry
  | explanationWindowExpiry
  | stuckTimerExpiry
  | mediumIdle
  | frameStart
  | collision (matched : Nat) (echo : LineChar)
  | frameSent
  | beat (src : Byte) (b : BeatFields)
  | notice (src : Byte) (e : EntryBytes)
  | propose (src round paths closer count crc : Byte)
  | answer (src dst round answer reason : Byte)
  | proceed (src round : Byte)
  | closed (src round : Byte)
  | complete (src round : Byte)
  | abandon (src round : Byte)
  | reply (src dst : Byte) (payload : List Byte)
  | readStatus (h : ReqHead) (args : List Byte)
  | readList (h : ReqHead) (args : List Byte)
  | readRoster (h : ReqHead) (args : List Byte)
  | readMeasurements (h : ReqHead) (args : List Byte)
  | readCounters (h : ReqHead) (args : List Byte)
  | clearCounters (h : ReqHead) (args : List Byte)
  | readConfiguration (h : ReqHead) (args : List Byte)
  | placeHold (h : ReqHead) (args : List Byte)
  | releaseHold (h : ReqHead) (args : List Byte)
  | clearTripped (h : ReqHead) (args : List Byte)
  | resetBudget (h : ReqHead) (args : List Byte)
  | restart (h : ReqHead) (args : List Byte)
  | unknownRequest (src dst : Byte) (payload : List Byte)
  | characterReceived (e : LineEvent)
  deriving DecidableEq, Repr

end Sys2Proof
end

