-- ==== Sys2Proof/Decode.lean ====
section
/-!
DEFINITION. Commands spelt by the bits of spec/opcode_table.json: none. The station is a block whose table gives no row
bits or fields, so no word spells a command.
-/
namespace Sys2Proof

/-- The command a word spells by the table's bits: no row of the table has bits. -/
def decodeTableWord (_nbits _w : Nat) : Option Instr := none

end Sys2Proof
end

