-- ==== Sys2Proof/Config.lean ====
section
/-!
DEFINITION. The values the manual leaves open. None has a body, so no proof can lean on a value of it.
-/
namespace Sys2Proof

/-- Free: which of the allowed orders the blocks take one event in, for each use of the counter `freeCount`
(R77, R82, R129, R155, R163; log entry 1). -/
opaque Config.freeOrder : Nat → Nat

/-- Free: the order in which several own conditions that trip at one event reach the trip list
(R62, R90: no order is given; log entry 2). -/
opaque Config.freeTripOrder : Nat → Nat

/-- Free: what a beat's list-full byte means when it is neither 0 nor 1 (R164 gives 0 and 1 only; log entry 12). -/
opaque Config.freeListFull : Byte → Bool

/-- Free: whether a silence time left that is no whole number of ms is shown rounded up
(R186 gives ms and no rounding; log entry 13). -/
opaque Config.freeMsRoundsUp : Nat → Bool

end Sys2Proof
end

