-- ==== Sys2Proof/Machine/State.lean ====
section
/-!
DEFINITION. The station's state as plain data: every piece of state the spec gives the part, one structure per block,
the reasons a step can stop, and the state right after reset. Times are in microseconds.
-/
namespace Sys2Proof.Machine

/-- A timer: stopped, or running with the time left. At 0 left its expiry is due. -/
inductive Timer where
  | stopped
  | running (left : Nat)
  deriving DecidableEq, Repr

/-- A timer whose expiry is remembered: the minimum timer (R147) and the hold-off timers (R100, `expired` = elapsed). -/
inductive LatchTimer where
  | stopped
  | running (left : Nat)
  | expired
  deriving DecidableEq, Repr

/-- The station phases (R202). While the station is held in reset (R204) the phase is LOADING. -/
inductive Phase where
  | LOADING
  | HALTED
  | FORMING
  | OPERATING
  | CONFINED
  deriving DecidableEq, Repr

/-- A set of paths. -/
structure PathSet where
  charge    : Bool
  discharge : Bool
  deriving DecidableEq, Repr

/-- The configured values of R197, in the units the block stores them in. All are 0 while no configuration is in force
(LOADING and HALTED, R201, R203). -/
structure Cfg where
  memberCount         : Nat
  beatPeriod          : Nat
  lossLimit           : Nat
  holdOff             : Nat
  quietTime           : Nat
  latchLimit          : Nat
  ocThreshold         : Nat
  ocDelay             : Nat
  odThreshold         : Nat
  odDelay             : Nat
  recoveryTime        : Nat
  shortThreshold      : Nat
  shortDelay          : Nat
  cellHigh            : Nat
  cellHighHyst        : Nat
  cellHighDelay       : Nat
  cellLow             : Nat
  cellLowHyst         : Nat
  cellLowDelay        : Nat
  hotCode             : Nat
  hotRecovery         : Nat
  hotDelay            : Nat
  coldCode            : Nat
  coldRecovery        : Nat
  coldDelay           : Nat
  dieThreshold        : Nat
  dieRecovery         : Nat
  dieDelay            : Nat
  imbalanceThreshold  : Nat
  imbalanceHyst       : Nat
  mismatchThreshold   : Nat
  imbalanceConfirm    : Nat
  mismatchConfirm     : Nat
  cellCount           : Nat
  thermistors         : Nat
  checkInterval       : Nat
  deriving DecidableEq, Repr

/-- No configuration in force (R201). -/
def Cfg.none : Cfg :=
  { memberCount := 0, beatPeriod := 0, lossLimit := 0, holdOff := 0, quietTime := 0, latchLimit := 0,
    ocThreshold := 0, ocDelay := 0, odThreshold := 0, odDelay := 0, recoveryTime := 0, shortThreshold := 0,
    shortDelay := 0, cellHigh := 0, cellHighHyst := 0, cellHighDelay := 0, cellLow := 0, cellLowHyst := 0,
    cellLowDelay := 0, hotCode := 0, hotRecovery := 0, hotDelay := 0, coldCode := 0, coldRecovery := 0,
    coldDelay := 0, dieThreshold := 0, dieRecovery := 0, dieDelay := 0, imbalanceThreshold := 0,
    imbalanceHyst := 0, mismatchThreshold := 0, imbalanceConfirm := 0, mismatchConfirm := 0, cellCount := 0,
    thermistors := 0, checkInterval := 0 }

/-- The one-time storage of the configuration block (R197): written once, before the part is fitted, and the same at every
read (R201). `written` is false until the first load brings the bytes it was written with (log entry 8). -/
structure Store where
  block   : Vector Byte 64
  written : Bool
  deriving DecidableEq, Repr

/-- What the configuration loader holds (R198, R199, R200). -/
structure Load where
  timer     : Timer
  strap     : BitVec 4
  digest    : Half
  haltCause : Nat
  deriving DecidableEq, Repr

/-- A scan result (R62); the module voltage is the sum of the readings (R59). -/
structure ScanResult where
  cells : List Nat
  codes : List Nat
  die   : Int
  deriving DecidableEq, Repr

/-- The measurement unit (R57, R60, R71). -/
structure Meas where
  scanTimer   : Timer
  checkTimer  : Timer
  sampleTimer : Timer
  bias        : Bool
  scan        : Option ScanResult
  sample      : Option Int
  sum         : Int
  number      : Nat
  average     : Option Int
  comparator  : Bool
  deriving DecidableEq, Repr

/-- The condition states (R29). -/
inductive CondState where
  | QUIET
  | WATCH
  | TRIPPED
  | SETTLING
  deriving DecidableEq, Repr

/-- One condition (R29). -/
structure Cond where
  state : CondState
  count : Nat
  timer : Timer
  deriving DecidableEq, Repr

/-- QUIET, count 0, no timer running (R29). -/
def Cond.quiet : Cond := { state := .QUIET, count := 0, timer := .stopped }

/-- A condition named by its kind and, for MEMBER LOST, its subject (R28). -/
structure CondId where
  kind    : Kind
  subject : Option Nat
  deriving DecidableEq, Repr

/-- A MEMBER LOST condition and its subject (R48). -/
structure LostCond where
  subject : Nat
  cond    : Cond
  deriving DecidableEq, Repr

/-- The condition monitor (R28, R29). `imbalanceEval` is the deviation of the latest evaluation since the trip as a
fraction (numerator, denominator) in mV; `mismatchEval` the difference in 10 microvolt units (R52). -/
structure Conds where
  cellHigh             : Cond
  cellLow              : Cond
  chargeOvercurrent    : Cond
  dischargeOvercurrent : Cond
  short                : Cond
  moduleHot            : Cond
  moduleCold           : Cond
  dieHot               : Cond
  imbalance            : Cond
  senseMismatch        : Cond
  switchFault          : Cond
  hold                 : Cond
  unexplainedStop      : Cond
  lost                 : List LostCond
  holdPaths            : Option PathSet
  imbalanceEval        : Option (Nat × Nat)
  mismatchEval         : Option Nat
  deriving DecidableEq, Repr

/-- Every condition QUIET, no MEMBER LOST condition formed (R29, R54, R55). -/
def Conds.reset : Conds :=
  { cellHigh := .quiet, cellLow := .quiet, chargeOvercurrent := .quiet, dischargeOvercurrent := .quiet,
    short := .quiet, moduleHot := .quiet, moduleCold := .quiet, dieHot := .quiet, imbalance := .quiet,
    senseMismatch := .quiet, switchFault := .quiet, hold := .quiet, unexplainedStop := .quiet, lost := [],
    holdPaths := .none, imbalanceEval := .none, mismatchEval := .none }

/-- The phases of a trip record (R1). -/
inductive RecPhase where
  | ACTIVE
  | CLEARED
  deriving DecidableEq, Repr

/-- A trip record (R1). -/
structure Record where
  origin  : Nat
  kind    : Kind
  subject : Option Nat
  tripId  : Nat
  paths   : PathSet
  phase   : RecPhase
  stale   : Bool
  counted : Bool
  deriving DecidableEq, Repr

/-- The trip list (R5, R6, R24, R33). -/
structure TripList where
  records   : List Record
  full      : Bool
  fullTimer : Timer
  nextId    : Nat
  deriving DecidableEq, Repr

/-- A roster entry's status (R74). -/
inductive EntryStatus where
  | EXPECTED
  | PRESENT
  | LOST
  deriving DecidableEq, Repr

/-- A switch machine's states (R137). -/
inductive SwState where
  | OPEN
  | CLOSING
  | CLOSED
  | OPENING
  | FAULTED
  deriving DecidableEq, Repr

/-- The last beat sequence and the beat values of a roster entry, absent together (R74, R186). -/
structure BeatValues where
  seq            : Half
  phase          : Phase
  digestMatch    : Bool
  voltage        : Nat
  current        : Int
  chargeState    : SwState
  dischargeState : SwState
  watch          : Half
  listFull       : Bool
  epoch          : Byte
  count          : Nat
  lastRound      : Nat
  lastCloser     : Nat
  deriving DecidableEq, Repr

/-- A roster entry (R74). -/
structure Entry where
  rank     : Nat
  status   : EntryStatus
  beat     : Option BeatValues
  missed   : Nat
  restarts : Nat
  silence  : Timer
  deriving DecidableEq, Repr

/-- The beat builder's own sequence and the beat timer (R76, R78). -/
structure Beats where
  seq   : Half
  timer : Timer
  deriving DecidableEq, Repr

/-- The retry budget (R125). -/
structure Budget where
  epoch  : Byte
  count  : Nat
  joined : Bool
  quiet  : Timer
  deriving DecidableEq, Repr

/-- The round states other than IDLE (R101). -/
inductive Stage where
  | COLLECTING
  | ANSWERED
  | CLOSING
  | CLOSED_WAIT
  | GATHERING
  | FINISHING
  deriving DecidableEq, Repr

/-- A station's role in its round (R98, R184). -/
inductive Role where
  | member
  | closer
  | coordinatorMember
  | coordinatorCloser
  deriving DecidableEq, Repr

/-- A member of a retirement set: a record's key and trip id (R20, R98). -/
structure RetireKey where
  origin  : Nat
  kind    : Kind
  subject : Option Nat
  tripId  : Nat
  deriving DecidableEq, Repr

/-- The round record of a station that is in a round (R98). -/
structure Round where
  stage       : Stage
  number      : Nat
  paths       : PathSet
  coordinator : Nat
  closer      : Nat
  role        : Role
  retire      : List RetireKey
  digestCount : Nat
  digestCrc   : Byte
  accepts     : List Nat
  closedHeld  : List Nat
  closedSet   : PathSet
  window      : Timer
  deriving DecidableEq, Repr

/-- The reclose controller (R98, R99, R100). No round record is IDLE. `leftRound` is number and coordinator. -/
structure Reclose where
  round         : Option Round
  leftRound     : Option (Nat × Nat)
  lastRound     : Nat
  lastCloser    : Nat
  holdCharge    : LatchTimer
  holdDischarge : LatchTimer
  deriving DecidableEq, Repr

/-- A switch machine (R137). -/
structure Switch where
  state    : SwState
  gate     : Bool
  feedback : Bool
  limit    : Timer
  deriving DecidableEq, Repr

/-- OPEN, gate off, no limit running (R146). -/
def Switch.reset : Switch := { state := .OPEN, gate := false, feedback := false, limit := .stopped }

/-- The stop-line state (R147). The window is open while its timer runs. -/
structure StopLine where
  driving   : Bool
  minTimer  : LatchTimer
  limit     : Timer
  awaited   : Option Nat
  confirmed : Bool
  sense     : Bool
  window    : Timer
  stuck     : Timer
  deriving DecidableEq, Repr

/-- The driver RELEASED, the sense released, nothing running (R155); notice confirmed is no (log entry 33). -/
def StopLine.reset : StopLine :=
  { driving := false, minTimer := .stopped, limit := .stopped, awaited := .none, confirmed := false,
    sense := false, window := .stopped, stuck := .stopped }

/-- The contents of a frame, by type (R160, R164 to R166, R179, R182). -/
inductive Content where
  | beat (b : BeatFields)
  | notice (e : EntryBytes)
  | propose (round paths closer count crc : Byte)
  | answer (round answer reason : Byte)
  | proceed (round : Byte)
  | closed (round : Byte)
  | complete (round : Byte)
  | abandon (round : Byte)
  | request (payload : List Byte)
  | reply (payload : List Byte)
  deriving DecidableEq, Repr

/-- A frame waiting in a transmit queue, with its collision count (R172). Its source is the own rank. -/
structure TxFrame where
  dst        : Byte
  content    : Content
  collisions : Nat
  deriving DecidableEq, Repr

/-- A received frame (R158). -/
structure RxFrame where
  src     : Byte
  dst     : Byte
  content : Content
  deriving DecidableEq, Repr

/-- The four transmit queues, by class (R160, R172). -/
inductive TxClass where
  | urgent
  | round
  | beat
  | service
  deriving DecidableEq, Repr

/-- The eleven link counters (R177). -/
structure Counters where
  framesGood      : Nat
  crcErrors       : Nat
  badFrames       : Nat
  collisions      : Nat
  dropped16       : Nat
  noticesDropped  : Nat
  roundsReplaced  : Nat
  requestsDropped : Nat
  roundsLapsed    : Nat
  roundsAbandoned : Nat
  restarts        : Nat
  deriving DecidableEq, Repr

/-- Every counter 0 (R177). -/
def Counters.zero : Counters :=
  { framesGood := 0, crcErrors := 0, badFrames := 0, collisions := 0, dropped16 := 0, noticesDropped := 0,
    roundsReplaced := 0, requestsDropped := 0, roundsLapsed := 0, roundsAbandoned := 0, restarts := 0 }

/-- The link controller (R157, R162, R172, R177). `discarding`: what is heard is discarded until the next idle (R157).
`cut`: an own frame was cut off in the present burst (R172). `echo`: the present burst is an own frame sent whole with
every echo matching (R162). `midCharacter`: a character is on the pair, its start bit past and its stop bit not.
`quiet`: time since the reference point, the end of the last stop bit (R157). -/
structure Link where
  notices      : List TxFrame
  rounds       : List TxFrame
  beat         : Option TxFrame
  reply        : Option TxFrame
  sending      : Option TxClass
  busy         : Bool
  discarding   : Bool
  burst        : List LineChar
  cut          : Bool
  echo         : Bool
  midCharacter : Bool
  quiet        : Nat
  counters     : Counters
  deriving DecidableEq, Repr

/-- The whole station. `freeCount` and `pending` are the model's own (INVENTORY.md). -/
structure State where
  supplyLow      : Bool
  phase          : Phase
  store          : Store
  load           : Load
  cfg            : Cfg
  conflict       : Bool
  meas           : Meas
  conds          : Conds
  trips          : TripList
  roster         : List Entry
  formation      : Timer
  beats          : Beats
  budget         : Budget
  reclose        : Reclose
  charge         : Switch
  discharge      : Switch
  stop           : StopLine
  link           : Link
  restartPending : Bool
  freeCount      : Nat
  pending        : List Instr
  deriving DecidableEq, Repr

/-- Why the machine stops with a fault. The spec gives no command that stops the station: what it calls a fault is a
condition, a phase or a reply. So there is no reason, none raises one, and nothing is lost (safe). -/
inductive Fault where
  deriving DecidableEq, Repr

/-- Why a command is refused a meaning. -/
inductive Refusal where
  /-- A command whose meaning is not written yet. No arm of `exec` raises it; refusing would be safe (the model stops
  where the hardware goes on). -/
  | notModelled (mnemonic : String)
  deriving DecidableEq, Repr

/-- No run: no value held, nothing running (R56, R71). -/
def Meas.reset : Meas :=
  { scanTimer := .stopped, checkTimer := .stopped, sampleTimer := .stopped, bias := false, scan := .none,
    sample := .none, sum := 0, number := 0, average := .none, comparator := false }

/-- Empty, flag clear, timer stopped, own trip-id counter 1 (R27, R33). -/
def TripList.reset : TripList := { records := [], full := false, fullTimer := .stopped, nextId := 1 }

/-- Epoch 0, count 0, joined clear, quiet timer stopped (R125). -/
def Budget.reset : Budget := { epoch := 0, count := 0, joined := false, quiet := .stopped }

/-- IDLE, no left round, last round 0, hold-off timers stopped (R124); the last closer is 16 while no member count is in
force (R203). -/
def Reclose.reset : Reclose :=
  { round := .none, leftRound := .none, lastRound := 0, lastCloser := 16, holdCharge := .stopped,
    holdDischarge := .stopped }

/-- Every queue empty, no burst, every counter 0 (R177, R178). -/
def Link.reset : Link :=
  { notices := [], rounds := [], beat := .none, reply := .none, sending := .none, busy := false,
    discarding := false, burst := [], cut := false, echo := false, midCharacter := false, quiet := 0,
    counters := .zero }

/-- The station as a supply reset ends: LOADING has begun, with its 2 ms (R200, R204; log entries 3 and 4). -/
def State.reset : State :=
  { supplyLow := false, phase := .LOADING,
    store := { block := Vector.replicate 64 0, written := false },
    load := { timer := .running 2000, strap := 0, digest := 0, haltCause := 0 },
    cfg := .none, conflict := false, meas := .reset, conds := .reset, trips := .reset, roster := [],
    formation := .stopped, beats := { seq := 0, timer := .stopped }, budget := .reset, reclose := .reset,
    charge := .reset, discharge := .reset, stop := .reset, link := .reset, restartPending := false,
    freeCount := 0, pending := [] }

end Sys2Proof.Machine
end

