-- ==== Sys2Proof/Machine/Operands.lean ====
section
/-!
DEFINITION. What bytes and pin values mean: codes of kinds, paths, phases and switch states; two-byte fields; the two
CRCs; frame payloads and the receive checks; the configuration block; the clamping of measured values.
-/
namespace Sys2Proof.Machine

/-! ### Path sets -/

def PathSet.empty : PathSet := { charge := false, discharge := false }
def PathSet.both : PathSet := { charge := true, discharge := true }
def PathSet.has (p : PathSet) : Path → Bool
  | .charge => p.charge
  | .discharge => p.discharge
def PathSet.add (p : PathSet) : Path → PathSet
  | .charge => { p with charge := true }
  | .discharge => { p with discharge := true }
def PathSet.isEmpty (p : PathSet) : Bool := !p.charge && !p.discharge
/-- The two sets share a path. -/
def PathSet.meets (p q : PathSet) : Bool := (p.charge && q.charge) || (p.discharge && q.discharge)
/-- Every path of `p` is in `q`. -/
def PathSet.within (p q : PathSet) : Bool := (!p.charge || q.charge) && (!p.discharge || q.discharge)
/-- The path-set code of R165. -/
def PathSet.code (p : PathSet) : Nat := (if p.charge then 1 else 0) + (if p.discharge then 2 else 0)
/-- The path set of a code's two least significant bits (R165). -/
def PathSet.ofCode (n : Nat) : PathSet := { charge := n % 2 == 1, discharge := n / 2 % 2 == 1 }

end Sys2Proof.Machine

namespace Sys2Proof

open Machine (PathSet)

/-! ### Kinds (R28) -/

def Kind.code : Kind → Nat
  | .cellHigh => 1
  | .cellLow => 2
  | .chargeOvercurrent => 3
  | .dischargeOvercurrent => 4
  | .short => 5
  | .moduleHot => 6
  | .moduleCold => 7
  | .dieHot => 8
  | .imbalance => 9
  | .senseMismatch => 10
  | .switchFault => 11
  | .memberLost => 12
  | .hold => 13
  | .unexplainedStop => 14

def Kind.ofCode : Nat → Option Kind
  | 1 => some .cellHigh
  | 2 => some .cellLow
  | 3 => some .chargeOvercurrent
  | 4 => some .dischargeOvercurrent
  | 5 => some .short
  | 6 => some .moduleHot
  | 7 => some .moduleCold
  | 8 => some .dieHot
  | 9 => some .imbalance
  | 10 => some .senseMismatch
  | 11 => some .switchFault
  | 12 => some .memberLost
  | 13 => some .hold
  | 14 => some .unexplainedStop
  | _ => none

/-- The paths a kind blocks; HOLD's come from the request (R28). -/
def Kind.fixedPaths : Kind → Option PathSet
  | .cellHigh => some { charge := true, discharge := false }
  | .cellLow => some { charge := false, discharge := true }
  | .chargeOvercurrent => some { charge := true, discharge := false }
  | .dischargeOvercurrent => some { charge := false, discharge := true }
  | .short => some .both
  | .moduleHot => some .both
  | .moduleCold => some { charge := true, discharge := false }
  | .dieHot => some .both
  | .imbalance => some .both
  | .senseMismatch => some .both
  | .switchFault => some .both
  | .memberLost => some .both
  | .hold => none
  | .unexplainedStop => some .both

/-- Kinds 3, 4 and 5 (R28). -/
def Kind.currentClass : Kind → Bool
  | .chargeOvercurrent => true
  | .dischargeOvercurrent => true
  | .short => true
  | _ => false

/-- The four bytes of an entry in their order (R165). -/
def EntryBytes.bytes (e : EntryBytes) : List Byte := [e.kind, e.subject, e.tripId, e.state]

end Sys2Proof

namespace Sys2Proof.Machine

/-- The ten kinds that can be in WATCH, in code order (R32, R164). -/
def watchKinds : List Kind :=
  [.cellHigh, .cellLow, .chargeOvercurrent, .dischargeOvercurrent, .short, .moduleHot, .moduleCold, .dieHot,
   .imbalance, .senseMismatch]

/-! ### Codes of phases, switch states, round states and roles (R164, R184, R186) -/

def Phase.code : Phase → Nat
  | .LOADING => 0
  | .FORMING => 1
  | .OPERATING => 2
  | .CONFINED => 3
  | .HALTED => 4

def Phase.ofCode : Nat → Option Phase
  | 1 => some .FORMING
  | 2 => some .OPERATING
  | 3 => some .CONFINED
  | 4 => some .HALTED
  | _ => none

def SwState.code : SwState → Nat
  | .OPEN => 1
  | .CLOSING => 2
  | .CLOSED => 3
  | .OPENING => 4
  | .FAULTED => 5

def SwState.ofCode : Nat → Option SwState
  | 1 => some .OPEN
  | 2 => some .CLOSING
  | 3 => some .CLOSED
  | 4 => some .OPENING
  | 5 => some .FAULTED
  | _ => none

def EntryStatus.code : EntryStatus → Nat
  | .EXPECTED => 1
  | .PRESENT => 2
  | .LOST => 3

def Stage.code : Stage → Nat
  | .COLLECTING => 1
  | .ANSWERED => 2
  | .CLOSING => 3
  | .CLOSED_WAIT => 4
  | .GATHERING => 5
  | .FINISHING => 6

def Role.code : Role → Nat
  | .member => 1
  | .closer => 2
  | .coordinatorMember => 3
  | .coordinatorCloser => 4

def boolCode (b : Bool) : Nat := if b then 1 else 0

/-! ### Two-byte fields, most significant byte first (R158) -/

def byteOf (n : Nat) : Byte := BitVec.ofNat 8 n
def halfHi (h : Half) : Byte := BitVec.ofNat 8 (h.toNat / 256)
def halfLo (h : Half) : Byte := BitVec.ofNat 8 (h.toNat % 256)
def halfBytes (h : Half) : List Byte := [halfHi h, halfLo h]
def halfOf (hi lo : Byte) : Half := BitVec.ofNat 16 (hi.toNat * 256 + lo.toNat)
def natBytes (n : Nat) : List Byte := halfBytes (BitVec.ofNat 16 n)
def intBytes (i : Int) : List Byte := halfBytes (BitVec.ofInt 16 i)

/-! ### The CRCs -/

/-- `f` applied `n` times. -/
def iterate {α : Type} (f : α → α) : Nat → α → α
  | 0, x => x
  | n + 1, x => iterate f n (f x)

/-- One bit of the 16-bit CRC, polynomial x^16 + x^12 + x^5 + 1 (R159). -/
def crc16Shift (r : Nat) : Nat := if 32768 ≤ r then Nat.xor (r * 2 % 65536) 4129 else r * 2

/-- The 16-bit CRC: register from 65535, most significant bit first, no final inversion (R159, R197). -/
def crc16 (bs : List Byte) : Half :=
  BitVec.ofNat 16 (bs.foldl (fun r b => iterate crc16Shift 8 (Nat.xor r (b.toNat * 256))) 65535)

/-- One bit of the 8-bit CRC, polynomial x^8 + x^2 + x + 1 (R104). -/
def crc8Shift (r : Nat) : Nat := if 128 ≤ r then Nat.xor (r * 2 % 256) 7 else r * 2

/-- The 8-bit CRC from 0, most significant bit first (R104). -/
def crc8 (bs : List Byte) : Byte :=
  BitVec.ofNat 8 (bs.foldl (fun r b => iterate crc8Shift 8 (Nat.xor r b.toNat)) 0)

/-! ### Frames -/

/-- The frame type codes (R160). -/
def Content.code : Content → Nat
  | .beat _ => 1
  | .notice _ => 2
  | .propose _ _ _ _ _ => 3
  | .answer _ _ _ => 4
  | .proceed _ => 5
  | .closed _ => 6
  | .complete _ => 7
  | .abandon _ => 8
  | .request _ => 9
  | .reply _ => 10

/-- The payload of a frame, pad bytes included (R164, R165, R166, R179, R182). -/
def Content.payload : Content → List Byte
  | .beat b =>
      [b.phase, b.listFull, halfHi b.seq, halfLo b.seq, halfHi b.digest, halfLo b.digest, b.chargeState,
       b.dischargeState, halfHi b.voltage, halfLo b.voltage, halfHi b.current, halfLo b.current, b.epoch, b.count,
       b.lastRound, b.lastCloser, halfHi b.watch, halfLo b.watch] ++ b.records.flatMap EntryBytes.bytes
  | .notice e => e.bytes
  | .propose r p c n x => [r, p, c, n, x, 0]
  | .answer r a x => [r, a, x, 0]
  | .proceed r => [r, 0]
  | .closed r => [r, 0]
  | .complete r => [r, 0]
  | .abandon r => [r, 0]
  | .request p => p
  | .reply p => p

/-- The record entries of a beat, four bytes each (R164). -/
def entriesOf : List Byte → Option (List EntryBytes)
  | [] => some []
  | a :: b :: c :: d :: rest => (entriesOf rest).map (⟨a, b, c, d⟩ :: ·)
  | _ => none

/-- The contents of a payload by its type code; none where the type or its length is not of R160 (pad bytes are not
read). -/
def Content.ofPayload (code : Nat) (p : List Byte) : Option Content :=
  match code, p with
  | 1, ph :: lf :: s1 :: s0 :: d1 :: d0 :: cs :: ds :: v1 :: v0 :: a1 :: a0 :: e :: n :: lr :: lc :: w1 :: w0 :: rest =>
      (entriesOf rest).map fun rs =>
        .beat { phase := ph, listFull := lf, seq := halfOf s1 s0, digest := halfOf d1 d0, chargeState := cs,
                dischargeState := ds, voltage := halfOf v1 v0, current := halfOf a1 a0, epoch := e, count := n,
                lastRound := lr, lastCloser := lc, watch := halfOf w1 w0, records := rs }
  | 2, [k, s, i, x] => some (.notice ⟨k, s, i, x⟩)
  | 3, [r, ps, c, n, x, _] => some (.propose r ps c n x)
  | 4, [r, a, x, _] => some (.answer r a x)
  | 5, [r, _] => some (.proceed r)
  | 6, [r, _] => some (.closed r)
  | 7, [r, _] => some (.complete r)
  | 8, [r, _] => some (.abandon r)
  | 9, p => some (.request p)
  | 10, p => some (.reply p)
  | _, _ => none

/-- The destination R160 gives the type. -/
def Content.dstOk (dst : Nat) : Content → Bool
  | .answer _ _ _ => decide (1 ≤ dst ∧ dst ≤ 16)
  | .request _ => decide (1 ≤ dst ∧ dst ≤ 20)
  | .reply _ => decide (1 ≤ dst ∧ dst ≤ 20)
  | _ => decide (dst = 0)

/-- The payload's length and the beat's codes, as check 5 of R161 judges them. -/
def Content.bodyOk : Content → Bool
  | .beat b => (Phase.ofCode b.phase.toNat).isSome && (SwState.ofCode b.chargeState.toNat).isSome &&
      (SwState.ofCode b.dischargeState.toNat).isSome && decide (b.records.length ≤ 28)
  | .request p => decide (p.length % 2 = 0 ∧ p.length ≤ 192)
  | .reply p => decide (p.length % 2 = 0 ∧ p.length ≤ 192)
  | _ => true

/-- Checks 4 and 5 of R161 on a frame read. -/
def RxFrame.valid (f : RxFrame) : Bool :=
  decide (1 ≤ f.src.toNat ∧ f.src.toNat ≤ 20) && f.content.dstOk f.dst.toNat && f.content.bodyOk

/-- The characters of a frame, from the start byte to the second CRC byte (R158, R159). -/
def RxFrame.bytes (f : RxFrame) : List Byte :=
  let body := [f.src, byteOf f.content.code, f.dst, byteOf (f.content.payload.length / 2)] ++ f.content.payload
  [165] ++ body ++ halfBytes (crc16 body)

/-- The bytes of a burst; none when a character of it is damaged. -/
def burstBytes : List LineChar → Option (List Byte)
  | [] => some []
  | .byte b :: rest => (burstBytes rest).map (b :: ·)
  | .damaged :: _ => none

/-- What the receive checks make of a burst (R161). -/
inductive Judgement where
  | badFrame
  | crcError
  | valid (f : RxFrame)
  deriving DecidableEq, Repr

/-- Checks 4 and 5 of R161 on the bytes of a burst that passed checks 1 to 3. -/
def judgeFields (src typ dst : Byte) (payload : List Byte) : Judgement :=
  match Content.ofPayload typ.toNat payload with
  | none => .badFrame
  | some c => if RxFrame.valid ⟨src, dst, c⟩ then .valid ⟨src, dst, c⟩ else .badFrame

/-- The receive checks of R161, in order. -/
def judgeBytes : List Byte → Judgement
  | start :: src :: typ :: dst :: len :: rest =>
      let l := len.toNat
      if start.toNat ≠ 165 then .badFrame
      else if 96 < l ∨ rest.length ≠ 2 + 2 * l then .badFrame
      else
        let payload := rest.take (2 * l)
        if halfBytes (crc16 ([src, typ, dst, len] ++ payload)) ≠ rest.drop (2 * l) then .crcError
        else judgeFields src typ dst payload
  | _ => .badFrame

/-- A burst with a damaged character fails check 1 (R161). -/
def judgeBurst (cs : List LineChar) : Judgement :=
  match burstBytes cs with
  | none => .badFrame
  | some bs => judgeBytes bs

/-! ### The configuration block (R197) -/

def blockByte (b : List Byte) (i : Nat) : Nat := (b.getD i 0).toNat
def blockHalf (b : List Byte) (i : Nat) : Nat := blockByte b i * 256 + blockByte b (i + 1)

/-- The fields of R197. -/
def Cfg.ofBlock (b : List Byte) : Cfg :=
  { memberCount := blockByte b 0, beatPeriod := blockByte b 1, lossLimit := blockByte b 2, holdOff := blockHalf b 3,
    quietTime := blockByte b 5, latchLimit := blockByte b 6, ocThreshold := blockByte b 7, ocDelay := blockHalf b 8,
    odThreshold := blockByte b 10, odDelay := blockHalf b 11, recoveryTime := blockHalf b 13,
    shortThreshold := blockByte b 15, shortDelay := blockByte b 16, cellHigh := blockHalf b 17,
    cellHighHyst := blockByte b 19, cellHighDelay := blockByte b 20, cellLow := blockHalf b 21,
    cellLowHyst := blockByte b 23, cellLowDelay := blockByte b 24, hotCode := blockHalf b 25,
    hotRecovery := blockHalf b 27, hotDelay := blockByte b 29, coldCode := blockHalf b 30,
    coldRecovery := blockHalf b 32, coldDelay := blockByte b 34, dieThreshold := blockByte b 35,
    dieRecovery := blockByte b 36, dieDelay := blockByte b 37, imbalanceThreshold := blockByte b 38,
    imbalanceHyst := blockHalf b 39, mismatchThreshold := blockByte b 41, imbalanceConfirm := blockByte b 42,
    mismatchConfirm := blockByte b 43, cellCount := blockByte b 44, thermistors := blockByte b 45,
    checkInterval := blockByte b 46 }

def inRange (lo hi n : Nat) : Bool := decide (lo ≤ n ∧ n ≤ hi)

/-- The hysteresis settings of R34, R35 and R197. -/
def hystOk (n : Nat) : Bool := n == 0 || n == 25 || n == 50 || n == 100 || n == 200

/-- The latch limits of R125 and R197. -/
def latchLimitOk (n : Nat) : Bool :=
  n == 0 || n == 2 || n == 3 || n == 4 || n == 6 || n == 8 || n == 12 || n == 16

/-- Every field in its required range (R197). -/
def Cfg.rangesOk (c : Cfg) : Bool :=
  inRange 2 16 c.memberCount && inRange 2 20 c.beatPeriod && inRange 2 8 c.lossLimit && inRange 2 600 c.holdOff &&
  inRange 1 60 c.quietTime && latchLimitOk c.latchLimit && inRange 2 250 c.ocThreshold && inRange 1 2000 c.ocDelay &&
  inRange 2 250 c.odThreshold && inRange 1 2000 c.odDelay && inRange 0 600 c.recoveryTime &&
  inRange 1 32 c.shortThreshold && inRange 0 7 c.shortDelay &&
  inRange 2000 5000 c.cellHigh && c.cellHigh % 5 == 0 && hystOk c.cellHighHyst && inRange 1 255 c.cellHighDelay &&
  inRange 1000 4000 c.cellLow && c.cellLow % 5 == 0 && hystOk c.cellLowHyst && inRange 1 255 c.cellLowDelay &&
  inRange 0 1023 c.hotCode && inRange 0 1023 c.hotRecovery && inRange 1 255 c.hotDelay &&
  inRange 0 1023 c.coldCode && inRange 0 1023 c.coldRecovery && inRange 1 255 c.coldDelay &&
  inRange 60 150 c.dieThreshold && inRange 40 149 c.dieRecovery && inRange 1 255 c.dieDelay &&
  inRange 2 255 c.imbalanceThreshold && inRange 10 500 c.imbalanceHyst && inRange 1 255 c.mismatchThreshold &&
  inRange 1 63 c.imbalanceConfirm && inRange 1 63 c.mismatchConfirm &&
  inRange 4 16 c.cellCount && inRange 0 2 c.thermistors && inRange 1 6 c.checkInterval

/-- The five relations of R197. -/
def Cfg.relationsOk (c : Cfg) : Bool :=
  decide (c.hotCode < c.hotRecovery) && decide (c.coldRecovery < c.coldCode) && decide (c.hotRecovery < c.coldCode) &&
  decide (c.dieRecovery < c.dieThreshold) && decide (c.imbalanceHyst < c.imbalanceThreshold * 10)

/-- Every fill byte is 0 (R197). -/
def fillOk (b : List Byte) : Bool := ((b.drop 47).take 15).all (· == 0)

/-- The halt cause of R200: 0 when every check passes. -/
def haltCauseOf (b : List Byte) (rank : Nat) : Nat :=
  if halfBytes (crc16 (b.take 62)) ≠ b.drop 62 then 1
  else if !((Cfg.ofBlock b).rangesOk && fillOk b && (Cfg.ofBlock b).relationsOk) then 2
  else if (Cfg.ofBlock b).memberCount < rank then 3
  else 0

/-- The pack digest (R198). -/
def packDigest (b : List Byte) : Half := crc16 (b.take 44)

/-! ### Configured times in microseconds, and settings -/

def Cfg.tBeat (c : Cfg) : Nat := c.beatPeriod * 10000
/-- Loss limit times T_beat (R80). -/
def Cfg.silenceTime (c : Cfg) : Nat := c.lossLimit * c.tBeat
def Cfg.holdOffTime (c : Cfg) : Nat := c.holdOff * 100000
def Cfg.quietTimeUs (c : Cfg) : Nat := c.quietTime * 1000000
def Cfg.recoveryTimeUs (c : Cfg) : Nat := c.recoveryTime * 100000
/-- The eight settings of R41. -/
def Cfg.shortDelayUs (c : Cfg) : Nat := [0, 16, 32, 64, 125, 250, 500, 1000].getD c.shortDelay 0
/-- The six settings of R57. -/
def Cfg.checkIntervalUs (c : Cfg) : Nat := [0, 50000, 100000, 250000, 500000, 1000000, 2000000].getD c.checkInterval 0

/-! ### Measured values -/

/-- A tap difference as a reading: 0 to 5000 mV (R58). -/
def clampCell (mV : Int) : Nat := if mV ≤ 0 then 0 else if 5000 < mV then 5000 else mV.toNat

/-- The die temperature, -40 to 150 degrees C (R61). -/
def clampDie (t : Int) : Int := if t < -40 then -40 else if 150 < t then 150 else t

/-- A shunt voltage in microvolts as a sample of 10 microvolt units: rounded toward zero, at most full scale (R64). -/
def sampleOf (uV : Int) : Int :=
  let q := uV.tdiv 10
  if q < -32000 then -32000 else if 32000 < q then 32000 else q

/-- The scan result: one reading per configured cell, one code per thermistor input in use, an open input 1023
(R58, R60, R61, R62). -/
def scanOf (c : Cfg) (m : ScanInputs) : ScanResult :=
  { cells := (List.range c.cellCount).map fun i => clampCell (m.taps.getD i 0)
    codes := (List.range c.thermistors).map fun i => min (m.codes.getD i 1023) 1023
    die := clampDie m.die }

/-- The comparator asserts above the threshold in the discharge direction (R68). -/
def comparatorRises (c : Cfg) (shunt : Int) : Bool := decide ((c.shortThreshold : Int) * 20000 < -shunt)

/-- An asserted comparator releases at or below the threshold less 10 mV (R68). -/
def comparatorFalls (c : Cfg) (shunt : Int) : Bool := decide (-shunt ≤ (c.shortThreshold : Int) * 20000 - 10000)

/-- Module voltage in mV (R59). -/
def ScanResult.moduleVoltage (r : ScanResult) : Nat := r.cells.sum
/-- Module voltage in 2 mV units, rounded down (R59). -/
def ScanResult.moduleUnits (r : ScanResult) : Nat := r.moduleVoltage / 2
def ScanResult.highest (r : ScanResult) : Nat := r.cells.foldl max 0
def ScanResult.lowest (r : ScanResult) : Nat :=
  match r.cells with
  | [] => 0
  | c :: cs => cs.foldl min c

/-! ### Orderings -/

/-- Insert into a list kept in ascending order. -/
def insertInt (x : Int) : List Int → List Int
  | [] => [x]
  | y :: ys => if x ≤ y then x :: y :: ys else y :: insertInt x ys

def sortInt : List Int → List Int
  | [] => []
  | x :: xs => insertInt x (sortInt xs)

/-- The value at position k / 2, rounded up, of the k values in ascending order (R45). -/
def lowerMedian (l : List Int) : Int := (sortInt l).getD ((l.length + 1) / 2 - 1) 0

/-- A rank joins a set of ranks, kept ascending. -/
def insertRank (r : Nat) : List Nat → List Nat
  | [] => [r]
  | y :: ys => if r = y then y :: ys else if r < y then r :: y :: ys else y :: insertRank r ys

/-- Epoch a is newer than epoch b (00, Serial comparison; R125). -/
def newer (a b : Byte) : Bool := decide (1 ≤ (a - b).toNat ∧ (a - b).toNat ≤ 127)

end Sys2Proof.Machine
end

