-- ==== Sys2Proof/Machine/Flags.lean ====
section
/-!
DEFINITION. The station's derived values, each computed from its one home in State: rank and roster ranks, blocked and
held paths, watch set, coordinator, pack level, latching, room in the list, eligibility of a path, retirement sets.
-/
namespace Sys2Proof.Machine

/-- The own rank (R199). -/
def State.rank (s : State) : Nat := s.load.strap.toNat + 1

/-- The phases that measure, evaluate and take frames: FORMING, OPERATING, CONFINED (R54, R56, R75). -/
def Phase.working : Phase → Bool
  | .FORMING => true
  | .OPERATING => true
  | .CONFINED => true
  | .HALTED => false
  | .LOADING => false

def State.working (s : State) : Bool := s.phase.working

/-- The switch of a path (R137). -/
def State.switch (s : State) : Path → Switch
  | .charge => s.charge
  | .discharge => s.discharge

/-! ### Conditions -/

/-- The condition named; QUIET where it does not exist. -/
def Conds.get (c : Conds) (id : CondId) : Cond :=
  match id.kind with
  | .cellHigh => c.cellHigh
  | .cellLow => c.cellLow
  | .chargeOvercurrent => c.chargeOvercurrent
  | .dischargeOvercurrent => c.dischargeOvercurrent
  | .short => c.short
  | .moduleHot => c.moduleHot
  | .moduleCold => c.moduleCold
  | .dieHot => c.dieHot
  | .imbalance => c.imbalance
  | .senseMismatch => c.senseMismatch
  | .switchFault => c.switchFault
  | .hold => c.hold
  | .unexplainedStop => c.unexplainedStop
  | .memberLost =>
      match c.lost.find? (fun l => some l.subject == id.subject) with
      | some l => l.cond
      | none => .quiet

/-- The condition named takes a value. -/
def Conds.set (c : Conds) (id : CondId) (v : Cond) : Conds :=
  match id.kind with
  | .cellHigh => { c with cellHigh := v }
  | .cellLow => { c with cellLow := v }
  | .chargeOvercurrent => { c with chargeOvercurrent := v }
  | .dischargeOvercurrent => { c with dischargeOvercurrent := v }
  | .short => { c with short := v }
  | .moduleHot => { c with moduleHot := v }
  | .moduleCold => { c with moduleCold := v }
  | .dieHot => { c with dieHot := v }
  | .imbalance => { c with imbalance := v }
  | .senseMismatch => { c with senseMismatch := v }
  | .switchFault => { c with switchFault := v }
  | .hold => { c with hold := v }
  | .unexplainedStop => { c with unexplainedStop := v }
  | .memberLost =>
      { c with lost := c.lost.map fun l => if some l.subject == id.subject then { l with cond := v } else l }

/-- A condition of any kind but MEMBER LOST. -/
def ownCond (k : Kind) : CondId := { kind := k, subject := none }

/-- The MEMBER LOST condition of a subject. -/
def lostCond (r : Nat) : CondId := { kind := .memberLost, subject := some r }

/-- The paths a condition's record blocks: the kind's, or the hold's (R1). -/
def Conds.paths (c : Conds) (id : CondId) : PathSet :=
  match id.kind.fixedPaths with
  | some p => p
  | none => c.holdPaths.getD .empty

/-- A kind is in WATCH (R32). -/
def Conds.watching (c : Conds) (k : Kind) : Bool := (c.get (ownCond k)).state == .WATCH

/-- The watch set (R32). -/
def Conds.watchSet (c : Conds) : List Kind := watchKinds.filter c.watching

/-- The bits of a set of kinds: bit k - 1 for kind k (R164). -/
def watchBits (ks : List Kind) : Nat := (ks.map fun k => 2 ^ (k.code - 1)).sum

/-- A kind is in a watch set as carried; bits of no kind 1 to 10 are not read (R164). -/
def watchHas (w : Half) (k : Kind) : Bool := w.getLsbD (k.code - 1)

/-- A watch set as a half with only the bits of kinds 1 to 10 (R164). -/
def watchMask (w : Half) : Half := BitVec.ofNat 16 (w.toNat % 1024)

/-! ### The trip list -/

/-- The record has the key (R5). -/
def Record.hasKey (o : Nat) (k : Kind) (sj : Option Nat) (r : Record) : Bool :=
  r.origin == o && r.kind == k && r.subject == sj

def findRecord (o : Nat) (k : Kind) (sj : Option Nat) (l : List Record) : Option Record := l.find? (Record.hasKey o k sj)

/-- The record is ACTIVE and its path set includes the path. -/
def Record.blocks (p : Path) (r : Record) : Bool := r.phase == .ACTIVE && r.paths.has p

/-- The path is blocked by the list (R2). -/
def blockedBy (l : List Record) (p : Path) : Bool := l.any (Record.blocks p)

def State.blocked (s : State) (p : Path) : Bool := blockedBy s.trips.records p

/-- The number of own records. -/
def ownCount (own : Nat) (l : List Record) : Nat := (l.filter fun r => r.origin == own).length

/-- The own reserve: own conditions (12 + N) without a record (R8). -/
def ownReserve (n own : Nat) (l : List Record) : Nat := (12 + n) - ownCount own l

/-- The room test for a record of another origin (R8). -/
def hasRoom (n own : Nat) (l : List Record) : Bool := decide (l.length + 1 + ownReserve n own l ≤ 64)

/-! ### Holding the paths open -/

/-- Some hold cause of the path is in force: blocked, list-full, stop line or phase (R139). -/
def State.held (s : State) (p : Path) : Bool :=
  s.blocked p || s.trips.full || s.stop.sense || !(s.phase == .OPERATING)

/-! ### Roster, coordinator, pack level -/

/-- The roster ranks: 1 to n without the own (R73). -/
def rosterRanks (n own : Nat) : List Nat := ((List.range n).map (· + 1)).filter (· != own)

def State.entry (s : State) (r : Nat) : Option Entry := s.roster.find? fun e => e.rank == r

def State.isRosterRank (s : State) (r : Nat) : Bool := (s.entry r).isSome

/-- PRESENT and reporting OPERATING (R87). -/
def Entry.candidate (e : Entry) : Bool :=
  e.status == .PRESENT && (match e.beat with | some b => b.phase == .OPERATING | none => false)

/-- The lowest of the ranks. -/
def lowestRank : List Nat → Option Nat
  | [] => none
  | r :: rs =>
      match lowestRank rs with
      | none => some r
      | some m => some (min r m)

/-- The candidates in the station's view (R87). -/
def State.candidates (s : State) : List Nat :=
  (if s.phase == .OPERATING then [s.rank] else []) ++ (s.roster.filter Entry.candidate).map (·.rank)

/-- The coordinator in the station's view, or none (R87). -/
def State.coordinator (s : State) : Option Nat := lowestRank s.candidates

def State.isCoordinator (s : State) : Bool := s.coordinator == some s.rank

/-- The entry's latest beat reported the path's switch CLOSED (R88). -/
def Entry.closed (p : Path) (e : Entry) : Bool :=
  match e.beat with
  | some b =>
      match p with
      | .charge => b.chargeState == .CLOSED
      | .discharge => b.dischargeState == .CLOSED
  | none => false

/-- The path is closed at pack level in the station's view (R88). -/
def State.packClosed (s : State) (p : Path) : Bool := (s.switch p).state == .CLOSED && s.roster.all (Entry.closed p)

/-- PRESENT with digest match YES (R91). -/
def Entry.formed (e : Entry) : Bool :=
  e.status == .PRESENT && (match e.beat with | some b => b.digestMatch | none => false)

/-- PRESENT with digest match NO (R94). -/
def Entry.mismatched (e : Entry) : Bool :=
  e.status == .PRESENT && (match e.beat with | some b => !b.digestMatch | none => false)

/-- What the start test asks of every entry (R102). -/
def Entry.ready (e : Entry) : Bool :=
  e.status == .PRESENT &&
    (match e.beat with | some b => b.phase == .OPERATING && b.digestMatch && !b.listFull | none => false)

/-- The beat values of a reporting member (R43). -/
def Entry.reporting (e : Entry) : Option BeatValues :=
  match e.status, e.beat with
  | .PRESENT, some b => if b.phase.working then some b else none
  | _, _ => none

/-! ### The retry budget -/

/-- The bound of the count (R126). -/
def countBound (limit : Nat) : Nat := if limit = 0 then 255 else limit

/-- Latched (R126). -/
def State.latched (s : State) : Bool := s.cfg.latchLimit != 0 && s.budget.count == s.cfg.latchLimit

/-- The four conditions of the quiet timer (R132). -/
def State.quietHolds (s : State) : Bool :=
  s.isCoordinator && decide (0 < s.budget.count) && s.packClosed .charge && s.packClosed .discharge &&
    s.trips.records.all fun r => !r.kind.currentClass

/-! ### Rounds -/

/-- The order of R7: origin, kind, subject, an absent subject first. -/
def RetireKey.le (a b : RetireKey) : Bool :=
  if a.origin = b.origin then
    if a.kind = b.kind then decide (a.subject.getD 0 ≤ b.subject.getD 0)
    else decide (a.kind.code ≤ b.kind.code)
  else decide (a.origin ≤ b.origin)

def insertKey (x : RetireKey) : List RetireKey → List RetireKey
  | [] => [x]
  | y :: ys => if x.le y then x :: y :: ys else y :: insertKey x ys

def sortKeys : List RetireKey → List RetireKey
  | [] => []
  | x :: xs => insertKey x (sortKeys xs)

def Record.retireKey (r : Record) : RetireKey :=
  { origin := r.origin, kind := r.kind, subject := r.subject, tripId := r.tripId }

/-- The CLEARED records whose path set lies within the round's (R104). -/
def retirementRecords (l : List Record) (ps : PathSet) : List Record :=
  l.filter fun r => r.phase == .CLEARED && r.paths.within ps

/-- The retirement set, in sorted order (R7, R104). -/
def retirementSet (l : List Record) (ps : PathSet) : List RetireKey :=
  sortKeys ((retirementRecords l ps).map Record.retireKey)

/-- The CRC of a retirement set: origin, kind, subject (0 when absent), trip id of each (R104). -/
def retirementCrc (ks : List RetireKey) : Byte :=
  crc8 (ks.flatMap fun k => [byteOf k.origin, byteOf k.kind.code, byteOf (k.subject.getD 0), byteOf k.tripId])

def LatchTimer.isExpired : LatchTimer → Bool
  | .expired => true
  | _ => false

/-- The path's hold-off timer (R100). -/
def Reclose.holdOff (r : Reclose) : Path → LatchTimer
  | .charge => r.holdCharge
  | .discharge => r.holdDischarge

/-- Some kind in WATCH, here or at a roster entry's latest report, has a path set that includes the path (R103). -/
def State.watched (s : State) (p : Path) : Bool :=
  watchKinds.any fun k =>
    (match k.fixedPaths with | some ps => ps.has p | none => false) &&
      (s.conds.watching k || s.roster.any fun e => match e.beat with | some b => watchHas b.watch k | none => false)

/-- A CLEARED current-class record has the path in its path set (R103). -/
def clearedCurrent (l : List Record) (p : Path) : Bool :=
  l.any fun r => r.phase == .CLEARED && r.kind.currentClass && r.paths.has p

/-- The path is eligible for a round (R103). -/
def State.eligible (s : State) (p : Path) : Bool :=
  !s.packClosed p && !s.blocked p && !s.watched p && (s.reclose.holdOff p).isExpired &&
    (!s.latched || !clearedCurrent s.trips.records p)

/-- The set of eligible paths (R103). -/
def State.eligiblePaths (s : State) : PathSet :=
  { charge := s.eligible .charge, discharge := s.eligible .discharge }

/-- The start test of R102. -/
def State.mayStart (s : State) : Bool :=
  s.isCoordinator && s.phase == .OPERATING && s.reclose.round.isNone && s.roster.all Entry.ready && !s.trips.full &&
    !s.stop.sense && !s.eligiblePaths.isEmpty

/-- Every switch of a path of the set is CLOSED (R112, R114). -/
def State.allClosed (s : State) (ps : PathSet) : Bool :=
  (!ps.charge || s.charge.state == .CLOSED) && (!ps.discharge || s.discharge.state == .CLOSED)

def Role.coordinates : Role → Bool
  | .coordinatorMember => true
  | .coordinatorCloser => true
  | _ => false

def Role.closes : Role → Bool
  | .closer => true
  | .coordinatorCloser => true
  | _ => false

/-- The set holds every roster rank (R112, R113). -/
def State.coversRoster (s : State) (held : List Nat) : Bool := s.roster.all fun e => held.contains e.rank

/-! ### The inputs of the start test -/

/-- The inputs whose change makes the reclose controller test R102 again, as R102 lists them; they are also those the
quiet timer (R132) and the hold-off (R100) watch. The round is seen by its state, a beat by its values. -/
structure StartInputs where
  phase         : Phase
  coordinator   : Option Nat
  stage         : Option Stage
  roster        : List (Nat × EntryStatus × Option BeatValues)
  records       : List Record
  full          : Bool
  sense         : Bool
  packCharge    : Bool
  packDischarge : Bool
  holdCharge    : Bool
  holdDischarge : Bool
  epoch         : Byte
  count         : Nat
  joined        : Bool
  deriving DecidableEq, Repr

def State.startInputs (s : State) : StartInputs :=
  { phase := s.phase, coordinator := s.coordinator, stage := s.reclose.round.map (·.stage)
    roster := s.roster.map fun e => (e.rank, e.status, e.beat.map fun b => { b with seq := 0 })
    records := s.trips.records, full := s.trips.full, sense := s.stop.sense
    packCharge := s.packClosed .charge, packDischarge := s.packClosed .discharge
    holdCharge := s.reclose.holdCharge.isExpired, holdDischarge := s.reclose.holdDischarge.isExpired
    epoch := s.budget.epoch, count := s.budget.count, joined := s.budget.joined }

end Sys2Proof.Machine
end

