-- ==== Sys2Proof/Machine/Ops.lean ====
section
/-!
DEFINITION. The named operations every meaning is built from: updates of one block's state, counters, the four transmit
queues, the free orders, and the passing of one microsecond.
-/
namespace Sys2Proof.Machine

/-! ### Updates of one block -/

def State.withPhase (s : State) (v : Phase) : State := { s with phase := v }
def State.withStore (s : State) (v : Store) : State := { s with store := v }
def State.withConflict (s : State) (v : Bool) : State := { s with conflict := v }
def State.withMeas (s : State) (v : Meas) : State := { s with meas := v }
def State.withConds (s : State) (v : Conds) : State := { s with conds := v }
def State.withTrips (s : State) (v : TripList) : State := { s with trips := v }
def State.withRoster (s : State) (v : List Entry) : State := { s with roster := v }
def State.withFormation (s : State) (v : Timer) : State := { s with formation := v }
def State.withBeats (s : State) (v : Beats) : State := { s with beats := v }
def State.withBudget (s : State) (v : Budget) : State := { s with budget := v }
def State.withReclose (s : State) (v : Reclose) : State := { s with reclose := v }
def State.withStop (s : State) (v : StopLine) : State := { s with stop := v }
def State.withLink (s : State) (v : Link) : State := { s with link := v }
def State.withRestartPending (s : State) (v : Bool) : State := { s with restartPending := v }
def State.withFreeCount (s : State) (v : Nat) : State := { s with freeCount := v }

/-- The switch of a path takes a value. -/
def State.setSwitch (s : State) (p : Path) (w : Switch) : State :=
  match p with
  | .charge => { s with charge := w }
  | .discharge => { s with discharge := w }

/-- The hold-off timer of a path takes a value (R100). -/
def Reclose.setHoldOff (r : Reclose) (p : Path) (t : LatchTimer) : Reclose :=
  match p with
  | .charge => { r with holdCharge := t }
  | .discharge => { r with holdDischarge := t }

/-- The path's hold-off starts, or restarts, at the full hold-off (R100). -/
def startHoldOff (p : Path) (s : State) : State :=
  s.withReclose (s.reclose.setHoldOff p (.running s.cfg.holdOffTime))

/-- Do `f` for the paths of a set. -/
def forPaths (ps : PathSet) (f : Path → State → State) (s : State) : State :=
  let s1 := if ps.charge then f .charge s else s
  if ps.discharge then f .discharge s1 else s1

/-! ### Counters (00, Counters; R177) -/

/-- A rise that saturates at 65535. -/
def satAdd (a b : Nat) : Nat := min (a + b) 65535

def State.count (s : State) (f : Counters → Counters) : State :=
  s.withLink { s.link with counters := f s.link.counters }

def Counters.good (c : Counters) : Counters := { c with framesGood := satAdd c.framesGood 1 }
def Counters.crc (c : Counters) : Counters := { c with crcErrors := satAdd c.crcErrors 1 }
def Counters.bad (c : Counters) : Counters := { c with badFrames := satAdd c.badFrames 1 }
def Counters.collided (c : Counters) : Counters := { c with collisions := satAdd c.collisions 1 }
def Counters.drop16 (c : Counters) : Counters := { c with dropped16 := satAdd c.dropped16 1 }
def Counters.noticeDropped (c : Counters) : Counters := { c with noticesDropped := satAdd c.noticesDropped 1 }
def Counters.roundReplaced (c : Counters) : Counters := { c with roundsReplaced := satAdd c.roundsReplaced 1 }
def Counters.requestDropped (c : Counters) : Counters := { c with requestsDropped := satAdd c.requestsDropped 1 }
def Counters.lapsed (c : Counters) : Counters := { c with roundsLapsed := satAdd c.roundsLapsed 1 }
def Counters.abandoned (c : Counters) : Counters := { c with roundsAbandoned := satAdd c.roundsAbandoned 1 }
def Counters.restarted (c : Counters) : Counters := { c with restarts := satAdd c.restarts 1 }

/-! ### Transmit queues (R172 to R176) -/

def TxFrame.new (dst : Byte) (c : Content) : TxFrame := { dst := dst, content := c, collisions := 0 }

/-- A NOTICE joins the tail, or is dropped and counted when the queue holds 8 (R173). -/
def Link.queueNotice (l : Link) (c : Content) : Link :=
  if l.notices.length < 8 then { l with notices := l.notices ++ [TxFrame.new 0 c] }
  else { l with counters := l.counters.noticeDropped }

/-- The frame of a class being sent, if any, is cut off: its burst falls short of its length, and the character in progress
still goes out (R172). -/
def Link.cutOff (l : Link) (k : TxClass) : Link :=
  if l.sending = some k then { l with sending := none, cut := true, midCharacter := true, quiet := 0 } else l

/-- A round frame joins the tail; a full slot first loses the older of its two, cut off if it is being sent (R174). -/
def Link.queueRound (l : Link) (dst : Byte) (c : Content) : Link :=
  if l.rounds.length < 2 then { l with rounds := l.rounds ++ [TxFrame.new dst c] }
  else
    let l1 := l.cutOff .round
    { l1 with rounds := l1.rounds.drop 1 ++ [TxFrame.new dst c], counters := l1.counters.roundReplaced }

/-- The beat slot takes a beat in place of any unsent one, cut off if it is being sent (R175). -/
def Link.placeBeat (l : Link) (c : Content) : Link :=
  let l1 := if l.beat.isSome then l.cutOff .beat else l
  { l1 with beat := some (TxFrame.new 0 c) }

/-- The reply slot takes a reply (R176, R182). -/
def Link.placeReply (l : Link) (dst : Byte) (c : Content) : Link := { l with reply := some (TxFrame.new dst c) }

def queueNotice (c : Content) (s : State) : State := s.withLink (s.link.queueNotice c)
def queueRound (dst : Byte) (c : Content) (s : State) : State := s.withLink (s.link.queueRound dst c)

/-- The frame at the head of a class's queue. -/
def Link.head (l : Link) : TxClass → Option TxFrame
  | .urgent => l.notices.head?
  | .round => l.rounds.head?
  | .beat => l.beat
  | .service => l.reply

/-- The head of a class's queue leaves it. -/
def Link.dropHead (l : Link) : TxClass → Link
  | .urgent => { l with notices := l.notices.drop 1 }
  | .round => { l with rounds := l.rounds.drop 1 }
  | .beat => { l with beat := none }
  | .service => { l with reply := none }

/-- The head of a class's queue takes a collision count (R169). -/
def Link.setHeadCollisions (l : Link) (k : TxClass) (n : Nat) : Link :=
  match k with
  | .urgent => { l with notices := (l.notices.take 1).map (fun f => { f with collisions := n }) ++ l.notices.drop 1 }
  | .round => { l with rounds := (l.rounds.take 1).map (fun f => { f with collisions := n }) ++ l.rounds.drop 1 }
  | .beat => { l with beat := l.beat.map fun f => { f with collisions := n } }
  | .service => { l with reply := l.reply.map fun f => { f with collisions := n } }

/-- The class of the frame the station offers: its highest-class queue that holds one (R167). -/
def Link.offered (l : Link) : Option TxClass :=
  if l.notices ≠ [] then some .urgent
  else if l.rounds ≠ [] then some .round
  else if l.beat.isSome then some .beat
  else if l.reply.isSome then some .service
  else none

/-- The base of a class's gap in microseconds (R167). -/
def TxClass.base : TxClass → Nat
  | .urgent => 16
  | .round => 112
  | .beat => 208
  | .service => 304

/-- The gap of a class at a rank (R167). -/
def TxClass.gap (k : TxClass) (rank : Nat) : Nat := k.base + 4 * rank

/-! ### Free orders (log entries 1 and 2) -/

def insertEverywhere {α : Type} (x : α) : List α → List (List α)
  | [] => [[x]]
  | y :: ys => (x :: y :: ys) :: (insertEverywhere x ys).map (y :: ·)

def permutations {α : Type} : List α → List (List α)
  | [] => [[]]
  | x :: xs => (permutations xs).flatMap (insertEverywhere x)

def runAll (acts : List (State → State)) (s : State) : State := acts.foldl (fun s f => f s) s

/-- The blocks take one event in an order the spec leaves open: where every order gives the same state, that state;
else the state of a free order (R82, R163; log entry 1). -/
def inAnyOrder (acts : List (State → State)) (s : State) : State :=
  let outs := (permutations acts).map fun order => runAll order s
  let first := runAll acts s
  if outs.all (· == first) then first
  else
    let pick := outs.getD (Config.freeOrder s.freeCount % outs.length) first
    pick.withFreeCount (s.freeCount + 1)

/-- One of the orders of a list, by a number. -/
def orderBy {α : Type} (n : Nat) : List α → List α
  | [] => []
  | x :: xs =>
      let i := n % (xs.length + 1)
      let rest := orderBy (n / (xs.length + 1)) xs
      rest.take i ++ x :: rest.drop i

/-- Conditions that trip at one event reach the list in a free order; one alone needs none (log entry 2). -/
def freeTripOrder (ids : List CondId) (s : State) : List CondId × State :=
  match ids with
  | [] => ([], s)
  | [i] => ([i], s)
  | ids => (orderBy (Config.freeTripOrder s.freeCount) ids, s.withFreeCount (s.freeCount + 1))

/-! ### Time (log entry 5) -/

def Timer.tick : Timer → Timer
  | .stopped => .stopped
  | .running n => .running (n - 1)

def LatchTimer.tick : LatchTimer → LatchTimer
  | .stopped => .stopped
  | .running n => .running (n - 1)
  | .expired => .expired

def Timer.isRunning : Timer → Bool
  | .running _ => true
  | .stopped => false

def LatchTimer.isRunning : LatchTimer → Bool
  | .running _ => true
  | _ => false

def Cond.tick (c : Cond) : Cond := { c with timer := c.timer.tick }

/-- The conditions that hold a timer: SHORT, the overcurrent kinds, UNEXPLAINED STOP (R29). -/
def Conds.tick (c : Conds) : Conds :=
  { c with chargeOvercurrent := c.chargeOvercurrent.tick, dischargeOvercurrent := c.dischargeOvercurrent.tick,
           short := c.short.tick, unexplainedStop := c.unexplainedStop.tick }

/-- One microsecond of quiet on the pair; none passes while a character is on it (R157). -/
def Link.tick (l : Link) : Link := { l with quiet := if l.midCharacter then 0 else l.quiet + 1 }

/-- One microsecond passes: every running timer has one less left, and the medium has been quiet one longer. -/
def State.tick (s : State) : State :=
  { s with
    load := { s.load with timer := s.load.timer.tick }
    meas := { s.meas with scanTimer := s.meas.scanTimer.tick, checkTimer := s.meas.checkTimer.tick,
                          sampleTimer := s.meas.sampleTimer.tick }
    conds := s.conds.tick
    trips := { s.trips with fullTimer := s.trips.fullTimer.tick }
    roster := s.roster.map fun e => { e with silence := e.silence.tick }
    formation := s.formation.tick
    beats := { s.beats with timer := s.beats.timer.tick }
    budget := { s.budget with quiet := s.budget.quiet.tick }
    reclose := { s.reclose with
      round := s.reclose.round.map fun r => { r with window := r.window.tick }
      holdCharge := s.reclose.holdCharge.tick, holdDischarge := s.reclose.holdDischarge.tick }
    charge := { s.charge with limit := s.charge.limit.tick }
    discharge := { s.discharge with limit := s.discharge.limit.tick }
    stop := { s.stop with minTimer := s.stop.minTimer.tick, limit := s.stop.limit.tick, window := s.stop.window.tick,
                          stuck := s.stop.stuck.tick }
    link := s.link.tick }

end Sys2Proof.Machine
end

