-- ==== Sys2Proof/Machine/Switches.lean ====
section
/-!
DEFINITION. The switch machine of one path (R137 to R144) and the driver and explanation window of the stop line
(R147 to R149, R152), as operations on their own state.
-/
namespace Sys2Proof.Machine

/-- The open limit, 1 ms (R137). -/
def openLimitUs : Nat := 1000
/-- The close limit, 4 ms (R137). -/
def closeLimitUs : Nat := 4000

/-- Entry to OPENING: gate off, open limit started; with the feedback off, straight on to OPEN (R138). -/
def Switch.enterOpening (w : Switch) : Switch :=
  if w.feedback then { w with state := .OPENING, gate := false, limit := .running openLimitUs }
  else { w with state := .OPEN, gate := false, limit := .stopped }

/-- An open command (R140). -/
def Switch.openCommand (w : Switch) : Switch :=
  match w.state with
  | .OPEN => w
  | .CLOSING => w.enterOpening
  | .CLOSED => w.enterOpening
  | .OPENING => w
  | .FAULTED => w

/-- A close command, for a path that is held or not (R141). -/
def Switch.closeCommand (held : Bool) (w : Switch) : Switch :=
  match w.state with
  | .OPEN => if held then w else { w with state := .CLOSING, gate := true, limit := .running closeLimitUs }
  | .CLOSING => w
  | .CLOSED => w
  | .OPENING => w
  | .FAULTED => w

/-- A feedback-on (R142). -/
def Switch.feedbackOn (w : Switch) : Switch :=
  let w1 := { w with feedback := true }
  match w.state with
  | .OPEN => w1.enterOpening
  | .CLOSING => { w1 with state := .CLOSED, limit := .stopped }
  | .CLOSED => w1
  | .OPENING => w1
  | .FAULTED => w1

/-- A feedback-off, and whether it is a switch fault (R142). -/
def Switch.feedbackOff (w : Switch) : Switch × Bool :=
  let w1 := { w with feedback := false }
  match w.state with
  | .OPEN => (w1, false)
  | .CLOSING => (w1, false)
  | .CLOSED => (w1.enterOpening, true)
  | .OPENING => ({ w1 with state := .OPEN, limit := .stopped }, false)
  | .FAULTED => ({ w1 with state := .OPEN, limit := .stopped }, false)

/-- The close limit's expiry, and whether it is a switch fault (R143). With the feedback off the switch is OPEN at once, and a
feedback-on that raced the expiry then finds it OPEN (R138; log entry 36). -/
def Switch.closeLimit (w : Switch) : Switch × Bool :=
  match w.state with
  | .CLOSING => if w.limit.isRunning then (w.enterOpening, true) else (w, false)
  | _ => (w, false)

/-- The open limit's expiry, and whether it is a switch fault (R144). -/
def Switch.openLimit (w : Switch) : Switch × Bool :=
  match w.state with
  | .OPENING =>
      if w.limit.isRunning then ({ w with state := .FAULTED, limit := .stopped }, true) else (w, false)
  | _ => (w, false)

/-! ### The stop line -/

/-- The own SHORT trip pulls the line: both timers start and its notice is awaited (R148); an open window is satisfied
by it (R152). -/
def StopLine.pull (awaited : Option Nat) (l : StopLine) : StopLine :=
  { l with driving := true, minTimer := .running 1000, limit := .running 10000, awaited := awaited,
           confirmed := false, window := .stopped }

/-- The release of the line (R149); notice confirmed goes back to no (log entry 33). -/
def StopLine.release (l : StopLine) : StopLine :=
  { l with driving := false, minTimer := .stopped, limit := .stopped, awaited := none, confirmed := false }

/-- An open window closes (R152). -/
def StopLine.closeWindow (l : StopLine) : StopLine := { l with window := .stopped }

/-- The line is sensed going asserted (R150): the stuck timer starts; a window opens unless one is open, and one opened
while the station itself drives is satisfied at once unless `unexplained` (R152, R155). -/
def StopLine.assertedSense (unexplained : Bool) (l : StopLine) : StopLine :=
  { l with sense := true, stuck := .running 100000
           window := if l.window.isRunning then l.window
                     else if l.driving && !unexplained then .stopped else .running 20000 }

/-- The line is sensed going released (R151). -/
def StopLine.releasedSense (l : StopLine) : StopLine := { l with sense := false, stuck := .stopped }

end Sys2Proof.Machine
end

