-- ==== Sys2Proof/Machine/Reclose.lean ====
section
/-!
DEFINITION. The reclose controller: entering and leaving a round, the commands it gives the switches, completion, the
start test, and what it does with each round frame (R98 to R124).
-/
namespace Sys2Proof.Machine

/-! ### The round record -/

def State.round (s : State) : Option Round := s.reclose.round

/-- The round record takes a value. -/
def setRound (r : Option Round) (s : State) : State := s.withReclose { s.reclose with round := r }

/-- A frame of a round to all stations. -/
def sendRound (c : Content) (s : State) : State := queueRound 0 c s

/-- The reclose controller opens each switch of its closed set that is CLOSING or CLOSED (R116, R140). -/
def openClosedSet (r : Round) (s : State) : State :=
  forPaths r.closedSet (fun p t => t.setSwitch p (t.switch p).openCommand) s

/-- Back to IDLE other than by completion: the closed set opens, the hold-off of the round's paths restarts (R100), the
round record is absent. -/
def endRound (r : Round) (s : State) : State :=
  setRound none (forPaths r.paths startHoldOff (openClosedSet r s))

/-- The left round becomes the round left from ANSWERED (R118). -/
def rememberLeft (r : Round) (s : State) : State :=
  if r.stage = .ANSWERED then s.withReclose { s.reclose with leftRound := some (r.number, r.coordinator) } else s

/-- The station sends ABANDON on leaving as coordinator, as closer, or in CLOSING or CLOSED-WAIT (R116). -/
def Round.sendsAbandon (r : Round) : Bool :=
  r.role.coordinates || r.role.closes || r.stage == .CLOSING || r.stage == .CLOSED_WAIT

/-- A station in a round leaves it for a cause of its own (R116, R118, R120). -/
def leaveRound (s : State) : State :=
  match s.round with
  | none => s
  | some r =>
      let s1 := if r.sendsAbandon then sendRound (.abandon (byteOf r.number)) s else s
      (endRound r (rememberLeft r s1)).count Counters.abandoned

/-- A round ends with ABANDON queued: a DECLINE, or the window of COLLECTING or GATHERING (R110, R119, R120). -/
def abandonRound (r : Round) (s : State) : State :=
  (endRound r (sendRound (.abandon (byteOf r.number)) s)).count Counters.abandoned

/-- A round ends on an ABANDON taken, or a COMPLETE taken as one (R115, R117, R120). -/
def dropRound (r : Round) (s : State) : State := (endRound r s).count Counters.abandoned

/-- A round lapses on its window (R119, R120). -/
def lapseRound (r : Round) (s : State) : State := (endRound r (rememberLeft r s)).count Counters.lapsed

/-! ### Completion -/

/-- The record is named, CLEARED, with the trip id the set took (R20). -/
def RetireKey.retires (k : RetireKey) (r : Record) : Bool :=
  r.hasKey k.origin k.kind k.subject && r.tripId == k.tripId && r.phase == .CLEARED

/-- Retirement (R20). -/
def retire (ks : List RetireKey) (s : State) : State :=
  s.withTrips { s.trips with records := s.trips.records.filter fun r => !ks.any fun k => k.retires r }

/-- The round completes at this station: its set is retired, last round and last closer move on, IDLE (R114, R115). -/
def completeRound (r : Round) (s : State) : State :=
  let s1 := retire r.retire s
  s1.withReclose { s1.reclose with round := none, lastRound := r.number, lastCloser := r.closer }

/-! ### What the switches report (R145) -/

/-- A switch entered CLOSED: CLOSING and FINISHING may now be done (R112, R114). -/
def afterClosed (s : State) : State :=
  match s.round with
  | none => s
  | some r =>
      if !s.allClosed r.paths then s
      else if r.stage = .CLOSING then
        setRound (some { r with stage := .CLOSED_WAIT, window := .running (3 * s.cfg.tBeat) })
          (sendRound (.closed (byteOf r.number)) s)
      else if r.stage = .FINISHING then completeRound r (sendRound (.complete (byteOf r.number)) s)
      else s

/-- A switch of a path entered OPEN: in CLOSING or FINISHING that ends a round on the path (R116). -/
def afterOpen (p : Path) (s : State) : State :=
  match s.round with
  | none => s
  | some r => if r.paths.has p && (r.stage == .CLOSING || r.stage == .FINISHING) then leaveRound s else s

/-- The switch of a path takes its new state, and an entry to CLOSED or OPEN is reported (R145). -/
def moveSwitch (p : Path) (w : Switch) (s : State) : State :=
  let old := (s.switch p).state
  let s1 := s.setSwitch p w
  if w.state = old then s1
  else if w.state = .CLOSED then afterClosed s1
  else if w.state = .OPEN then afterOpen p s1
  else s1

/-- A hold cause coming into force gives the path's switch an open command (R139, R140). -/
def openPath (p : Path) (s : State) : State := moveSwitch p (s.switch p).openCommand s

/-- A hold cause of both paths comes into force, and the station leaves its round (R116, R139). -/
def holdBoth (s : State) : State := leaveRound (openPath .discharge (openPath .charge s))

/-! ### Closing (R111) -/

/-- The close command for one round path: given if its switch is OPEN, which puts the path in the closed set (R111). -/
def closePath (p : Path) (s : State) : State :=
  if (s.switch p).state = .OPEN then
    let s1 := s.setSwitch p ((s.switch p).closeCommand (s.held p))
    match s1.round with
    | none => s1
    | some r => setRound (some { r with closedSet := r.closedSet.add p }) s1
  else s

/-- Enter CLOSING or FINISHING: the close commands, then on at once if every round path is CLOSED already
(R112, R114). -/
def closeAndEnter (r : Round) (stage : Stage) (s : State) : State :=
  let s1 := setRound (some { r with stage := stage, window := .stopped }) s
  afterClosed (forPaths r.paths closePath s1)

/-- A closer's account of CLOSED is full: it closes its own paths (R113). -/
def gatherCheck (s : State) : State :=
  match s.round with
  | none => s
  | some r =>
      if r.stage = .GATHERING && s.coversRoster r.closedHeld then closeAndEnter r .FINISHING s else s

/-- The station takes up its second role once the round proceeds (R112, R113). -/
def enterProceed (r : Round) (s : State) : State :=
  if r.role.closes then
    setRound (some { r with stage := .GATHERING, window := .running (2 * s.cfg.tBeat) }) s
  else closeAndEnter r .CLOSING s

/-- The coordinator holding every ACCEPT queues PROCEED and goes on (R112). -/
def proceedCheck (s : State) : State :=
  match s.round with
  | none => s
  | some r =>
      if r.stage = .COLLECTING && s.coversRoster r.accepts then
        enterProceed r (sendRound (.proceed (byteOf r.number)) s)
      else s

/-! ### Starting (R102, R105) -/

/-- The number after a round number, 255 to 1 (R105). -/
def nextRound (n : Nat) : Nat := if n = 255 then 1 else n + 1

/-- The closer after a closer, N to 1 (R105). -/
def nextCloser (n last : Nat) : Nat := if last = n then 1 else last + 1

/-- The round the coordinator starts on a path set (R105). -/
def newRound (ps : PathSet) (s : State) : Round :=
  let closer := nextCloser s.cfg.memberCount s.reclose.lastCloser
  let set := retirementSet s.trips.records ps
  { stage := .COLLECTING, number := nextRound s.reclose.lastRound, paths := ps, coordinator := s.rank, closer := closer
    role := if closer = s.rank then .coordinatorCloser else .coordinatorMember
    retire := set, digestCount := set.length, digestCrc := retirementCrc set
    accepts := [], closedHeld := [], closedSet := .empty, window := .running (2 * s.cfg.tBeat) }

/-- The PROPOSE of a round (R105, R166). -/
def Round.proposal (r : Round) : Content :=
  .propose (byteOf r.number) (byteOf r.paths.code) (byteOf r.closer) (byteOf r.digestCount) r.digestCrc

/-- The start of a round on the eligible paths (R105). -/
def startRound (s : State) : State :=
  let r := newRound s.eligiblePaths s
  setRound (some r) (sendRound r.proposal s)

/-- The start test: the round starts if it passes (R102). -/
def startTest (s : State) : State := if s.mayStart then startRound s else s

/-! ### Round frames (R106 to R118) -/

/-- A PROPOSE that is malformed (R106). -/
def proposeMalformed (n round paths closer : Nat) : Bool :=
  round == 0 || paths == 0 || decide (3 < paths) || closer == 0 || decide (n < closer)

/-- The own watch set meets the round's path set (R107 check 7). -/
def State.watchMeets (s : State) (ps : PathSet) : Bool :=
  s.conds.watchSet.any fun k => match k.fixedPaths with | some q => q.meets ps | none => false

/-- Some switch of a round path is OPENING (R107 check 5). -/
def State.anyOpening (s : State) (ps : PathSet) : Bool :=
  (ps.charge && s.charge.state == .OPENING) || (ps.discharge && s.discharge.state == .OPENING)

/-- The nine checks of R107: the code of the first that fails, or 0. -/
def proposeReason (s : State) (src : Nat) (ps : PathSet) (count crc : Byte) : Nat :=
  let set := retirementSet s.trips.records ps
  if s.phase ≠ .OPERATING then 7
  else if s.coordinator ≠ some src then 1
  else if s.stop.sense then 8
  else if s.trips.full then 5
  else if s.charge.state = .FAULTED ∨ s.discharge.state = .FAULTED ∨ s.anyOpening ps then 9
  else if (ps.charge && s.blocked .charge) || (ps.discharge && s.blocked .discharge) then 2
  else if s.watchMeets ps then 3
  else if s.latched && set.any (fun k => k.kind.currentClass) then 6
  else if set.length ≠ count.toNat ∨ retirementCrc set ≠ crc then 4
  else 0

def answerTo (src : Nat) (round : Byte) (answer reason : Nat) (s : State) : State :=
  queueRound (byteOf src) (.answer round (byteOf answer) (byteOf reason)) s

/-- A PROPOSE taken in IDLE: accepted and stored, or declined (R107, R108). -/
def answerPropose (src : Nat) (round paths closer count crc : Byte) (s : State) : State :=
  let ps := PathSet.ofCode paths.toNat
  let reason := proposeReason s src ps count crc
  if reason = 0 then
    let set := retirementSet s.trips.records ps
    let r : Round :=
      { stage := .ANSWERED, number := round.toNat, paths := ps, coordinator := src, closer := closer.toNat
        role := if closer.toNat = s.rank then .closer else .member
        retire := set, digestCount := count.toNat, digestCrc := crc
        accepts := [], closedHeld := [], closedSet := .empty, window := .running (3 * s.cfg.tBeat) }
    setRound (some r) (answerTo src round 1 0 s)
  else answerTo src round 2 reason s

/-- The PROPOSE equals the one the station accepted (R109). -/
def Round.repeats (r : Round) (src : Nat) (paths closer count crc : Byte) : Bool :=
  r.coordinator == src && r.stage == .ANSWERED && r.paths.code == paths.toNat && r.closer == closer.toNat &&
    r.digestCount == count.toNat && r.digestCrc == crc

/-- A PROPOSE taken from a roster rank (R106 to R109). -/
def takePropose (src : Nat) (round paths closer count crc : Byte) (s : State) : State :=
  if proposeMalformed s.cfg.memberCount round.toNat paths.toNat closer.toNat then s
  else
    match s.round with
    | none => answerPropose src round paths closer count crc s
    | some r =>
        if r.number ≠ round.toNat then s
        else if r.repeats src paths closer count crc then answerTo src round 1 0 s
        else answerTo src round 2 10 s

/-- An ANSWER addressed to this station (R110). -/
def takeAnswer (src : Nat) (round answer : Byte) (s : State) : State :=
  match s.round with
  | none => s
  | some r =>
      if r.number ≠ round.toNat ∨ r.stage ≠ .COLLECTING then s
      else if answer.toNat = 1 then
        proceedCheck (setRound (some { r with accepts := insertRank src r.accepts }) s)
      else if answer.toNat = 2 then abandonRound r s
      else s

/-- A PROCEED (R112, R113, R118). -/
def takeProceed (src : Nat) (round : Byte) (s : State) : State :=
  match s.round with
  | none =>
      if s.reclose.leftRound = some (round.toNat, src) then
        let s1 := sendRound (.abandon round) s
        s1.withReclose { s1.reclose with leftRound := none }
      else s
  | some r =>
      if r.number ≠ round.toNat ∨ r.stage ≠ .ANSWERED ∨ r.coordinator ≠ src then s else enterProceed r s

/-- A CLOSED: kept at the closer, in ANSWERED and GATHERING (R113). -/
def takeClosed (src : Nat) (round : Byte) (s : State) : State :=
  match s.round with
  | none => s
  | some r =>
      if r.number ≠ round.toNat ∨ !r.role.closes then s
      else
        let held := insertRank src r.closedHeld
        if r.stage = .ANSWERED then
          gatherCheck (setRound (some { r with stage := .GATHERING, closedHeld := held,
                                               window := .running (2 * s.cfg.tBeat) }) s)
        else if r.stage = .GATHERING then gatherCheck (setRound (some { r with closedHeld := held }) s)
        else s

/-- A COMPLETE from the round's closer: completion in CLOSED-WAIT, an ABANDON in ANSWERED and CLOSING (R115). -/
def takeComplete (src : Nat) (round : Byte) (s : State) : State :=
  match s.round with
  | none => s
  | some r =>
      if r.number ≠ round.toNat ∨ r.closer ≠ src then s
      else if r.stage = .CLOSED_WAIT then completeRound r s
      else if r.stage = .ANSWERED ∨ r.stage = .CLOSING then dropRound r s
      else s

/-- An ABANDON for the station's round (R117). -/
def takeAbandon (round : Byte) (s : State) : State :=
  match s.round with
  | none => s
  | some r => if r.number ≠ round.toNat then s else dropRound r s

/-- What the reclose controller does with a frame from a roster rank (R99, R106); ANSWER only when addressed to this
station (R163). -/
def recloseTakes (f : RxFrame) (s : State) : State :=
  if !s.isRosterRank f.src.toNat then s
  else
    match f.content with
    | .beat b =>
        if s.round.isNone ∧ s.coordinator = some f.src.toNat then
          s.withReclose { s.reclose with lastRound := b.lastRound.toNat, lastCloser := b.lastCloser.toNat }
        else s
    | .propose round paths closer count crc => takePropose f.src.toNat round paths closer count crc s
    | .answer round answer _ => if f.dst.toNat = s.rank then takeAnswer f.src.toNat round answer s else s
    | .proceed round => takeProceed f.src.toNat round s
    | .closed round => takeClosed f.src.toNat round s
    | .complete round => takeComplete f.src.toNat round s
    | .abandon round => takeAbandon round s
    | .notice _ => s
    | .request _ => s
    | .reply _ => s

/-- The window's expiry (R119). -/
def windowExpired (s : State) : State :=
  match s.round with
  | none => s
  | some r =>
      if !r.window.isRunning then s
      else
        match r.stage with
        | .COLLECTING => abandonRound r s
        | .GATHERING => abandonRound r s
        | .ANSWERED => lapseRound r s
        | .CLOSED_WAIT => lapseRound r s
        | .CLOSING => s
        | .FINISHING => s

end Sys2Proof.Machine
end

