-- ==== Sys2Proof/Machine/TripList.lean ====
section
/-!
DEFINITION. The pack trip list: own records, records of other origins, the room test and the list-full flag, and what the
list reports to the other blocks after a change (R1 to R27), with the counting of the retry budget (R126 to R128).
-/
namespace Sys2Proof.Machine

/-! ### Counting (R126, R127) -/

/-- The count rises by `n`, within the bound (R126). -/
def raiseCount (limit count n : Nat) : Nat :=
  if countBound limit ≤ count then count else min (count + n) (countBound limit)

def Budget.raise (limit n : Nat) (b : Budget) : Budget := { b with count := raiseCount limit b.count n }

/-! ### What a change of the list reports (R22, R23) -/

/-- What a change of the list reports on: the records before it, and the own conditions whose records took the next trip
id, which is new even where the counter has come round to the record's old one (R10, R12, R33). -/
structure Change where
  before    : List Record
  activated : List CondId

/-- The record has its key. -/
def CondId.names (own : Nat) (id : CondId) (r : Record) : Bool := r.hasKey own id.kind id.subject

/-- The record has just taken a trip id: it is new in the list, its trip id is another, or it is an own record that took the
next one (R23). -/
def Record.newIn (own : Nat) (ch : Change) (r : Record) : Bool :=
  ch.activated.any (fun id => id.names own r) ||
    (match findRecord r.origin r.kind r.subject ch.before with
     | none => true
     | some o => o.tripId != r.tripId)

/-- The record turned from CLEARED to ACTIVE. -/
def Record.reactivatedIn (before : List Record) (r : Record) : Bool :=
  match findRecord r.origin r.kind r.subject before with
  | none => false
  | some o => o.phase == .CLEARED

/-- The record is ACTIVE and gained that phase or a new trip id (R22, R116). -/
def Record.gainedIn (own : Nat) (ch : Change) (r : Record) : Bool :=
  r.phase == .ACTIVE && (r.newIn own ch || r.reactivatedIn ch.before)

/-- The record is offered to the retry budget (R23). -/
def Record.offeredIn (own : Nat) (ch : Change) (r : Record) : Bool :=
  r.kind.currentClass && !r.counted && r.newIn own ch

/-- The retry budget takes the list's offers, outside FORMING (R127, R128). -/
def takeOffers (ch : Change) (s : State) : State :=
  if s.phase = .OPERATING ∨ s.phase = .CONFINED then
    let offered := Record.offeredIn s.rank ch
    let n := (s.trips.records.filter offered).length
    let rs := s.trips.records.map fun r => if offered r then { r with counted := true } else r
    (s.withTrips { s.trips with records := rs }).withBudget (s.budget.raise s.cfg.latchLimit n)
  else s

/-- The paths blocked now and not before (R22). -/
def newlyBlocked (before after : List Record) : PathSet :=
  { charge := blockedBy after .charge && !blockedBy before .charge
    discharge := blockedBy after .discharge && !blockedBy before .discharge }

/-- A report of the change meets the round's path set: a record that gained ACTIVE phase or a new trip id, or a path just
blocked (R22, R116). -/
def endsRound (own : Nat) (ch : Change) (after : List Record) (ps : PathSet) : Bool :=
  (newlyBlocked ch.before after).meets ps || after.any fun r => r.gainedIn own ch && r.paths.meets ps

/-- The list changed: offers to the budget, open commands for the paths just blocked, departure from a round the change
meets (R22, R23). -/
def listReport (ch : Change) (s : State) : State :=
  let s1 := takeOffers ch s
  let s2 := forPaths (newlyBlocked ch.before s1.trips.records) openPath s1
  match s2.round with
  | none => s2
  | some r => if endsRound s2.rank ch s2.trips.records r.paths then leaveRound s2 else s2

/-! ### Own records (R9 to R14) -/

/-- The next trip id, 255 to 1 (R33). -/
def nextTripId (n : Nat) : Nat := if n = 255 then 1 else n + 1

/-- The record with a key takes a value in place, or one is added at the end (R5, R6). -/
def upsert (r : Record) (l : List Record) : List Record :=
  if (findRecord r.origin r.kind r.subject l).isSome then
    l.map fun o => if o.hasKey r.origin r.kind r.subject then r else o
  else l ++ [r]

/-- The record of an activation of an own condition, with the next trip id (R9, R10, R12). -/
def newOwnRecord (own : Nat) (id : CondId) (ps : PathSet) (t : TripList) : Record :=
  { origin := own, kind := id.kind, subject := id.subject, tripId := t.nextId, paths := ps, phase := .ACTIVE,
    stale := false, counted := false }

/-- The record entry of a record, as a frame carries it (R165). -/
def Record.entry (r : Record) : EntryBytes :=
  { kind := byteOf r.kind.code, subject := byteOf (r.subject.getD 0), tripId := byteOf r.tripId
    state := byteOf (r.paths.code + (if r.phase = .CLEARED then 128 else 0)) }

/-- An own record is added, reactivated or moved, takes the next trip id, and its NOTICE is queued (R9, R10, R12, R13).
The report of the change is the caller's. -/
def activateOwn (id : CondId) (s : State) : State :=
  let r := newOwnRecord s.rank id (s.conds.paths id) s.trips
  queueNotice (.notice r.entry)
    (s.withTrips { s.trips with records := upsert r s.trips.records, nextId := nextTripId s.trips.nextId })

/-- An own record turns CLEARED, keeping trip id, path set and position (R11). -/
def clearOwn (id : CondId) (s : State) : State :=
  let clear := fun r : Record => if r.hasKey s.rank id.kind id.subject then { r with phase := .CLEARED } else r
  s.withTrips { s.trips with records := s.trips.records.map clear }

/-- The own records as entries, in insertion order (R14). -/
def ownEntries (s : State) : List EntryBytes :=
  (s.trips.records.filter fun r => r.origin == s.rank).map Record.entry

/-! ### Records of other origins (R15 to R17) -/

/-- A well-formed entry of a frame. -/
structure OwnEntry where
  kind    : Kind
  subject : Option Nat
  tripId  : Nat
  paths   : PathSet
  phase   : RecPhase
  deriving DecidableEq, Repr

/-- The subject is right for the kind: absent but for MEMBER LOST, whose subject is a rank other than the source (R15). -/
def subjectOk (n src : Nat) (k : Kind) (sj : Nat) : Bool :=
  if k = .memberLost then decide (1 ≤ sj ∧ sj ≤ n ∧ sj ≠ src) else sj == 0

/-- The path set is not empty and, but for HOLD, is the kind's (R15). -/
def pathsOk (k : Kind) (ps : PathSet) : Bool :=
  !ps.isEmpty && (match k.fixedPaths with | some q => ps == q | none => true)

end Sys2Proof.Machine

namespace Sys2Proof

open Machine

/-- An entry read from its bytes; none when it is malformed (R15, R165). -/
def EntryBytes.read (n src : Nat) (e : EntryBytes) : Option OwnEntry :=
  match Kind.ofCode e.kind.toNat with
  | none => none
  | some k =>
      let ps := PathSet.ofCode (e.state.toNat % 4)
      if subjectOk n src k e.subject.toNat && e.tripId.toNat != 0 && pathsOk k ps then
        some { kind := k, subject := if e.subject.toNat = 0 then none else some e.subject.toNat
               tripId := e.tripId.toNat, paths := ps
               phase := if 128 ≤ e.state.toNat then .CLEARED else .ACTIVE }
      else none

end Sys2Proof

namespace Sys2Proof.Machine

/-- The first of the entries of each key (R15). -/
def firstOfKey : List OwnEntry → List OwnEntry
  | [] => []
  | e :: es => e :: (firstOfKey es).filter fun x => !(x.kind == e.kind && x.subject == e.subject)

/-- The entries a beat is taken with (R15). -/
def readEntries (n src : Nat) (es : List EntryBytes) : List OwnEntry := firstOfKey (es.filterMap (EntryBytes.read n src))

def OwnEntry.record (src : Nat) (e : OwnEntry) : Record :=
  { origin := src, kind := e.kind, subject := e.subject, tripId := e.tripId, paths := e.paths, phase := e.phase,
    stale := false, counted := false }

/-- A record of another origin is added at the end if there is room; else the addition is refused (R8, R24). -/
def addForeign (n own : Nat) (r : Record) (l : List Record) : List Record × Bool :=
  if hasRoom n own l then (l ++ [r], false) else (l, true)

/-- The additions of a beat, each with its room test (R17). -/
def addAll (n own : Nat) : List Record → List Record → List Record × Bool
  | [], l => (l, false)
  | r :: rs, l =>
      let (l1, refused) := addForeign n own r l
      let (l2, refused2) := addAll n own rs l1
      (l2, refused || refused2)

/-- A record updated from its origin's beat (R17). -/
def OwnEntry.update (e : OwnEntry) (r : Record) : Record :=
  { r with tripId := e.tripId, paths := e.paths, phase := e.phase, stale := false,
           counted := r.counted && r.tripId == e.tripId }

def OwnEntry.keys (src : Nat) (e : OwnEntry) (r : Record) : Bool := r.hasKey src e.kind e.subject

/-- The three steps of R17, and whether an addition was refused. -/
def replaceRecords (n own src : Nat) (es : List OwnEntry) (l : List Record) : List Record × Bool :=
  let kept := l.filter fun r => r.origin != src || es.any fun e => e.keys src r
  let updated := kept.map fun r =>
    match es.find? (fun e => e.keys src r) with
    | some e => e.update r
    | none => r
  let fresh := es.filter fun e => !(updated.any fun r => e.keys src r)
  addAll n own (fresh.map (OwnEntry.record src)) updated

/-- A record's answer to its origin's NOTICE; the stale flag is the membership unit's to clear (R3, R16; log entry 27). -/
def OwnEntry.notify (e : OwnEntry) (r : Record) : Record :=
  { r with tripId := e.tripId, paths := e.paths, phase := .ACTIVE,
           counted := r.counted && r.tripId == e.tripId }

/-- The list after a NOTICE, and whether its addition was refused (R16). -/
def noticeRecords (n own src : Nat) (e : OwnEntry) (l : List Record) : List Record × Bool :=
  if l.any fun r => e.keys src r then (l.map fun r => if e.keys src r then e.notify r else r, false)
  else addForeign n own { e.record src with phase := .ACTIVE } l

/-! ### The list-full flag (R24, R25) -/

/-- A refused addition sets the flag and restarts its timer; when it was clear, both switches are held open and the
station leaves its round (R24, R25, R116). -/
def refuseAddition (s : State) : State :=
  let s1 := s.withTrips { s.trips with full := true, fullTimer := .running s.cfg.tBeat }
  if s.trips.full then s1 else holdBoth s1

/-- The list takes its new records; a refusal sets the flag; the change is reported. -/
def changeRecords (out : List Record × Bool) (s : State) : State :=
  let s1 := listReport { before := s.trips.records, activated := [] } (s.withTrips { s.trips with records := out.1 })
  if out.2 then refuseAddition s1 else s1

/-- What the trip list does with a frame (R15, R16, R17). -/
def listTakes (f : RxFrame) (s : State) : State :=
  if !s.isRosterRank f.src.toNat then s
  else
    let n := s.cfg.memberCount
    let src := f.src.toNat
    match f.content with
    | .beat b => changeRecords (replaceRecords n s.rank src (readEntries n src b.records) s.trips.records) s
    | .notice e =>
        match e.read n src with
        | none => s
        | some x => changeRecords (noticeRecords n s.rank src x s.trips.records) s
    | _ => s

/-! ### Stale flags (R3) -/

def markStale (origin : Nat) (stale : Bool) (s : State) : State :=
  let mark := fun r : Record => if r.origin == origin then { r with stale := stale } else r
  s.withTrips { s.trips with records := s.trips.records.map mark }

end Sys2Proof.Machine
end

