-- ==== Sys2Proof/Machine/Conditions.lean ====
section
/-!
DEFINITION. The condition monitor: how each kind is evaluated, trips and recovers, and how its changes reach the trip
list and the switch controller (R28 to R55).
-/
namespace Sys2Proof.Machine

/-- What an evaluation reports to the trip list (R31). -/
inductive CondEvent where
  | none
  | trip
  | clear
  deriving DecidableEq, Repr

/-- TRIPPED with count 0 and no timer (R30). -/
def Cond.tripped : Cond := { state := .TRIPPED, count := 0, timer := .stopped }

/-- A delayed kind outside TRIPPED and SETTLING (R30). -/
def Cond.delayed (delay : Nat) (pass : Bool) (c : Cond) : Cond × CondEvent :=
  match c.state with
  | .QUIET =>
      if !pass then (c, .none)
      else if delay = 1 then (.tripped, .trip)
      else ({ state := .WATCH, count := 1, timer := .stopped }, .none)
  | .WATCH =>
      if !pass then (.quiet, .none)
      else if c.count + 1 = delay then (.tripped, .trip)
      else ({ c with count := c.count + 1 }, .none)
  | .TRIPPED => (c, .none)
  | .SETTLING => (c, .none)

/-- A voltage or thermal kind: one recovering scan result ends TRIPPED (R34 to R38). -/
def Cond.onScan (delay : Nat) (pass recovers : Bool) (c : Cond) : Cond × CondEvent :=
  match c.state with
  | .TRIPPED => if recovers then (.quiet, .clear) else (c, .none)
  | _ => c.delayed delay pass

/-- An overcurrent kind at a sample (R39, R40). -/
def Cond.onSample (delay recoveryUs : Nat) (pass : Bool) (c : Cond) : Cond × CondEvent :=
  match c.state with
  | .TRIPPED =>
      if pass || recoveryUs == 0 then (c, .none)
      else ({ c with state := .SETTLING, timer := .running recoveryUs }, .none)
  | .SETTLING => if pass then ({ c with timer := .running recoveryUs }, .none) else (c, .none)
  | _ => c.delayed delay pass

/-- A pack kind at an evaluation: in TRIPPED a count of consecutive recovering evaluations (R44, R45). -/
def Cond.onBeat (confirm : Nat) (pass recovers : Bool) (c : Cond) : Cond × CondEvent :=
  match c.state with
  | .TRIPPED =>
      if !recovers then ({ c with count := 0 }, .none)
      else if c.count + 1 = confirm then (.quiet, .clear)
      else ({ c with count := c.count + 1 }, .none)
  | _ => c.delayed confirm pass

/-- A pack kind at an event at which it is not evaluated (R46). -/
def Cond.notEvaluated (c : Cond) : Cond :=
  match c.state with
  | .QUIET => c
  | .WATCH => .quiet
  | .TRIPPED => { c with count := 0 }
  | .SETTLING => c

/-! ### Tests -/

/-- CELL HIGH trips above the threshold (R34). -/
def highTrips (c : Cfg) (r : ScanResult) : Bool := decide (c.cellHigh < r.highest)
def highRecovers (c : Cfg) (r : ScanResult) : Bool := decide (r.highest ≤ c.cellHigh - c.cellHighHyst)
/-- CELL LOW trips below the threshold (R35). -/
def lowTrips (c : Cfg) (r : ScanResult) : Bool := decide (r.lowest < c.cellLow)
def lowRecovers (c : Cfg) (r : ScanResult) : Bool := decide (c.cellLow + c.cellLowHyst ≤ r.lowest)
/-- MODULE HOT trips on any used code below the hot code (R36). -/
def hotTrips (c : Cfg) (r : ScanResult) : Bool := r.codes.any fun x => decide (x < c.hotCode)
def hotRecovers (c : Cfg) (r : ScanResult) : Bool := r.codes.all fun x => decide (c.hotRecovery ≤ x)
/-- MODULE COLD trips on any used code above the cold code (R37). -/
def coldTrips (c : Cfg) (r : ScanResult) : Bool := r.codes.any fun x => decide (c.coldCode < x)
def coldRecovers (c : Cfg) (r : ScanResult) : Bool := r.codes.all fun x => decide (x ≤ c.coldRecovery)
/-- DIE HOT trips above the die threshold (R38). -/
def dieTrips (c : Cfg) (r : ScanResult) : Bool := decide ((c.dieThreshold : Int) < r.die)
def dieRecovers (c : Cfg) (r : ScanResult) : Bool := decide (r.die ≤ (c.dieRecovery : Int))
/-- CHARGE OVERCURRENT trips above the OC threshold, 100 units to the mV (R39). -/
def ocTrips (c : Cfg) (x : Int) : Bool := decide ((c.ocThreshold : Int) * 100 < x)
/-- DISCHARGE OVERCURRENT trips below the negative of the OD threshold (R39). -/
def odTrips (c : Cfg) (x : Int) : Bool := decide (x < -((c.odThreshold : Int) * 100))

/-! ### What a change of conditions does to the list and beyond (R31) -/

/-- Own conditions turned QUIET and tripped at one event: their records clear and activate, several activations in a free
order, and the list reports the change (R9 to R11, R31; log entry 2). The conditions themselves are set already. -/
def reportConds (cleared tripped : List CondId) (s : State) : State :=
  let ch : Change := { before := s.trips.records, activated := tripped }
  let s1 := cleared.foldl (fun t id => clearOwn id t) s
  let (order, s2) := freeTripOrder tripped s1
  listReport ch (order.foldl (fun t id => activateOwn id t) s2)

/-- The named conditions enter TRIPPED and are reported. -/
def tripConds (ids : List CondId) (s : State) : State :=
  reportConds [] ids (s.withConds (ids.foldl (fun c id => c.set id .tripped) s.conds))

/-- The named condition returns to QUIET, count 0, timer stopped, and its record turns CLEARED (R11). -/
def clearCond (id : CondId) (s : State) : State :=
  reportConds [id] [] (s.withConds (s.conds.set id .quiet))

/-- One evaluation's result joins: the new condition, and its report. -/
structure Evaluated where
  conds   : Conds
  cleared : List CondId
  tripped : List CondId

def Evaluated.join (id : CondId) (f : Cond → Cond × CondEvent) (e : Evaluated) : Evaluated :=
  let (c, ev) := f (e.conds.get id)
  let conds := e.conds.set id c
  match ev with
  | .none => { e with conds := conds }
  | .trip => { e with conds := conds, tripped := e.tripped ++ [id] }
  | .clear => { e with conds := conds, cleared := e.cleared ++ [id] }

def State.evaluating (s : State) : Evaluated := { conds := s.conds, cleared := [], tripped := [] }

def reportEvaluated (e : Evaluated) (s : State) : State := reportConds e.cleared e.tripped (s.withConds e.conds)

/-- The five kinds evaluated on a scan result (R34 to R38, R62). -/
def evaluateScan (r : ScanResult) (s : State) : State :=
  let c := s.cfg
  let e0 := s.evaluating
  let e1 := e0.join (ownCond .cellHigh)
    (Cond.onScan c.cellHighDelay (highTrips c r) (c.cellHighHyst != 0 && highRecovers c r))
  let e2 := e1.join (ownCond .cellLow)
    (Cond.onScan c.cellLowDelay (lowTrips c r) (c.cellLowHyst != 0 && lowRecovers c r))
  let e3 := e2.join (ownCond .moduleHot) (Cond.onScan c.hotDelay (hotTrips c r) (hotRecovers c r))
  let e4 := e3.join (ownCond .moduleCold) (Cond.onScan c.coldDelay (coldTrips c r) (coldRecovers c r))
  let e5 := e4.join (ownCond .dieHot) (Cond.onScan c.dieDelay (dieTrips c r) (dieRecovers c r))
  reportEvaluated e5 s

/-- The two overcurrent kinds on a sample; the delay is four samples per millisecond (R30, R39, R40). -/
def evaluateSample (x : Int) (s : State) : State :=
  let c := s.cfg
  let e0 := s.evaluating
  let e1 := e0.join (ownCond .chargeOvercurrent) (Cond.onSample (4 * c.ocDelay) c.recoveryTimeUs (ocTrips c x))
  let e2 := e1.join (ownCond .dischargeOvercurrent) (Cond.onSample (4 * c.odDelay) c.recoveryTimeUs (odTrips c x))
  reportEvaluated e2 s

/-! ### The pack kinds (R43 to R46) -/

/-- The reporting members' beat values (R43). -/
def State.reportingMembers (s : State) : List BeatValues := s.roster.filterMap Entry.reporting

/-- The deviation of IMBALANCE in mV as a fraction, exact: twice the distance of k times the own units from the sum of the
k modules' units, over k; none when it is not evaluated (R44; log entry 11). -/
def State.imbalanceDeviation (s : State) : Option (Nat × Nat) :=
  match s.meas.scan with
  | none => none
  | some r =>
      let own := r.moduleUnits
      let others := (s.reportingMembers.map (·.voltage)).filter (0 < ·)
      if others.length < 2 then none
      else
        let k := others.length + 1
        let sum := own + others.sum
        some (2 * ((k * own - sum) + (sum - k * own)), k)

/-- The difference of SENSE MISMATCH in 10 microvolt units; none when it is not evaluated (R45). -/
def State.mismatchDifference (s : State) : Option Nat :=
  let others := s.reportingMembers.map (·.current)
  if others.length < 2 then none else some (s.meas.average.getD 0 - lowerMedian others).natAbs

/-- The deviation is above a limit in mV. -/
def deviationAbove (d : Nat × Nat) (mV : Nat) : Bool := decide (mV * d.2 < d.1)

def imbalanceTrips (c : Cfg) (d : Nat × Nat) : Bool := deviationAbove d (c.imbalanceThreshold * 10)
def imbalanceRecovers (c : Cfg) (d : Nat × Nat) : Bool :=
  !deviationAbove d (c.imbalanceThreshold * 10 - c.imbalanceHyst)
/-- A threshold of t hundreds of microvolts is 10 t units (R45). -/
def mismatchTrips (c : Cfg) (d : Nat) : Bool := decide (c.mismatchThreshold * 10 < d)

/-- The evaluation of IMBALANCE at a beat-period event; an evaluation since the trip is kept for CLEAR TRIPPED
(R44, R46, R52; log entry 25). -/
def joinImbalance (s : State) (e : Evaluated) : Evaluated :=
  match s.imbalanceDeviation with
  | none => e.join (ownCond .imbalance) fun c => (c.notEvaluated, .none)
  | some d =>
      let keep := if e.conds.imbalance.state = .TRIPPED then some d else none
      let e1 := e.join (ownCond .imbalance)
        (Cond.onBeat s.cfg.imbalanceConfirm (imbalanceTrips s.cfg d) (imbalanceRecovers s.cfg d))
      { e1 with conds := { e1.conds with imbalanceEval := keep } }

/-- The evaluation of SENSE MISMATCH at a beat-period event (R45, R46, R52). -/
def joinMismatch (s : State) (e : Evaluated) : Evaluated :=
  match s.mismatchDifference with
  | none => e.join (ownCond .senseMismatch) fun c => (c.notEvaluated, .none)
  | some d =>
      let keep := if e.conds.senseMismatch.state = .TRIPPED then some d else none
      let e1 := e.join (ownCond .senseMismatch)
        (Cond.onBeat s.cfg.mismatchConfirm (mismatchTrips s.cfg d) (!mismatchTrips s.cfg d))
      { e1 with conds := { e1.conds with mismatchEval := keep } }

/-- The pack kinds at a beat-period event (R43). -/
def evaluatePack (s : State) : State := reportEvaluated (joinMismatch s (joinImbalance s s.evaluating)) s

/-! ### SHORT (R41, R42, R148) -/

/-- SHORT enters TRIPPED: its record, and the pull of the stop line with the record's trip id awaited (R31, R148). -/
def tripShort (s : State) : State :=
  let s1 := tripConds [ownCond .short] s
  let awaited := (findRecord s1.rank .short none s1.trips.records).map (·.tripId)
  s1.withStop (s1.stop.pull awaited)

/-- SHORT in TRIPPED goes to SETTLING once the comparator and the line are both released (R42). -/
def shortSettles (s : State) : State :=
  if s.conds.short.state = .TRIPPED ∧ !s.meas.comparator ∧ !s.stop.driving ∧ s.cfg.recoveryTimeUs ≠ 0 then
    s.withConds { s.conds with short := { state := .SETTLING, count := 0, timer := .running s.cfg.recoveryTimeUs } }
  else s

/-- A comparator assertion at SHORT (R41). SHORT counts no evaluations, and its count in WATCH is 0 (log entry 35). -/
def shortAsserted (s : State) : State :=
  match s.conds.short.state with
  | .QUIET =>
      if s.cfg.shortDelayUs = 0 then tripShort s
      else s.withConds
        { s.conds with short := { state := .WATCH, count := 0, timer := .running s.cfg.shortDelayUs } }
  | .WATCH => s
  | .TRIPPED => s
  | .SETTLING => s.withConds { s.conds with short := { s.conds.short with timer := .stopped } }

/-- A comparator release at SHORT (R41, R42). -/
def shortReleased (s : State) : State :=
  match s.conds.short.state with
  | .QUIET => s
  | .WATCH => s.withConds { s.conds with short := .quiet }
  | .TRIPPED => shortSettles s
  | .SETTLING =>
      s.withConds { s.conds with short := { s.conds.short with timer := .running s.cfg.recoveryTimeUs } }

/-- The station releases the stop line and reports it to SHORT (R42, R149). -/
def releaseLine (s : State) : State := shortSettles (s.withStop s.stop.release)

/-- The line is released once its notice is confirmed and the minimum timer has expired (R149). -/
def releaseIfDone (s : State) : State :=
  if s.stop.driving ∧ s.stop.confirmed ∧ s.stop.minTimer = .expired then releaseLine s else s

/-! ### Conditions raised by other blocks -/

/-- A switch fault report (R47). -/
def switchFaultReport (s : State) : State :=
  if s.conds.switchFault.state = .QUIET then tripConds [ownCond .switchFault] s else s

/-- UNEXPLAINED STOP's release timer, 1 s (R50). -/
def releaseTime : Nat := 1000000

/-- The release timer of a TRIPPED UNEXPLAINED STOP (R50). -/
def setReleaseTimer (t : Timer) (s : State) : State :=
  if s.conds.unexplainedStop.state = .TRIPPED then
    s.withConds { s.conds with unexplainedStop := { s.conds.unexplainedStop with timer := t } }
  else s

/-- An unexplained or stuck stop line is reported (R49, R50). -/
def unexplainedReport (s : State) : State :=
  if s.conds.unexplainedStop.state = .QUIET then
    let s1 := tripConds [ownCond .unexplainedStop] s
    if s1.stop.sense then s1 else setReleaseTimer (.running releaseTime) s1
  else s

/-- Subjects go LOST: their MEMBER LOST conditions trip from QUIET (R48). -/
def membersLost (subjects : List Nat) (s : State) : State :=
  tripConds ((subjects.filter fun r => (s.conds.get (lostCond r)).state == .QUIET).map lostCond) s

/-- A subject is heard again: its MEMBER LOST condition recovers (R48). -/
def memberFound (subject : Nat) (s : State) : State :=
  if (s.conds.get (lostCond subject)).state = .TRIPPED then clearCond (lostCond subject) s else s

/-! ### HOLD (R12, R51) -/

/-- A hold on a path set is placed or moved (R51). -/
def placeHold (ps : PathSet) (s : State) : State :=
  let old := findRecord s.rank .hold none s.trips.records
  if s.conds.hold.state = .TRIPPED ∧ old.map (·.paths) = some ps then s
  else tripConds [ownCond .hold] (s.withConds { s.conds with holdPaths := some ps })

/-- The hold is released; its record keeps its path set (R51). -/
def releaseHold (s : State) : State :=
  let s1 := clearCond (ownCond .hold) s
  s1.withConds { s1.conds with holdPaths := none }

/-! ### CLEAR TRIPPED (R52, R53) -/

def testScan (s : State) (f : ScanResult → Bool) : Bool :=
  match s.meas.scan with
  | some r => f r
  | none => false

/-- The recovery test of R52, on the values the station holds. -/
def recoveryTest (id : CondId) (s : State) : Bool :=
  let c := s.cfg
  match id.kind with
  | .cellHigh => testScan s (highRecovers c)
  | .cellLow => testScan s (lowRecovers c)
  | .chargeOvercurrent => match s.meas.sample with | some x => !ocTrips c x | none => false
  | .dischargeOvercurrent => match s.meas.sample with | some x => !odTrips c x | none => false
  | .short => !s.meas.comparator && !s.stop.driving
  | .moduleHot => testScan s (hotRecovers c)
  | .moduleCold => testScan s (coldRecovers c)
  | .dieHot => testScan s (dieRecovers c)
  | .imbalance => match s.conds.imbalanceEval with | some d => imbalanceRecovers c d | none => false
  | .senseMismatch => match s.conds.mismatchEval with | some d => !mismatchTrips c d | none => false
  | .switchFault => s.charge.state == .OPEN && s.discharge.state == .OPEN
  | .memberLost =>
      match id.subject with
      | some r => match s.entry r with | some e => e.status == .PRESENT | none => false
      | none => false
  | .hold => s.conds.hold.state != .TRIPPED
  | .unexplainedStop => !s.stop.sense

/-- The condition a CLEAR TRIPPED names; none is BAD ARGUMENT (R53, R193). -/
def clearTarget (kind subject : Nat) (s : State) : Option CondId :=
  match Kind.ofCode kind with
  | none => none
  | some k =>
      if k = .memberLost then (if s.isRosterRank subject then some (lostCond subject) else none)
      else if subject = 0 then some (ownCond k)
      else none

/-! ### Settling the offers of FORMING (R128) and the phase (R202) -/

/-- On leaving FORMING: every uncounted current-class record is marked; a budget that has not joined counts them and
joins (R128). -/
def settleForming (s : State) : State :=
  let pick := fun r : Record => r.kind.currentClass && !r.counted
  let n := (s.trips.records.filter pick).length
  let s1 := s.withTrips { s.trips with records := s.trips.records.map fun r => if pick r then { r with counted := true } else r }
  if s1.budget.joined then s1
  else s1.withBudget { s1.budget.raise s1.cfg.latchLimit n with joined := true }

/-- The station's phase changes among FORMING, OPERATING and CONFINED, and each block takes the change (R202). -/
def changePhase (p : Phase) (s : State) : State :=
  let old := s.phase
  let s1 := s.withPhase p
  let s2 := if old = .FORMING then settleForming s1 else s1
  let s3 := if old = .FORMING ∧ p = .OPERATING then s2.withFormation .stopped else s2
  if old = .OPERATING then holdBoth s3 else s3

end Sys2Proof.Machine
end

