-- ==== Sys2Proof/Machine/Membership.lean ====
section
/-!
DEFINITION. The membership unit (R73 to R97), the retry budget's merging (R129, R130), and what every command ends with:
the hold-off at a change of pack level (R100), the quiet timer (R132) and the start test (R102).
-/
namespace Sys2Proof.Machine

/-! ### Roster entries -/

/-- An EXPECTED entry (R75). -/
def Entry.expected (rank missed restarts : Nat) : Entry :=
  { rank := rank, status := .EXPECTED, beat := none, missed := missed, restarts := restarts, silence := .stopped }

/-- The entry of a rank takes a value. -/
def updateEntry (r : Nat) (f : Entry → Entry) (l : List Entry) : List Entry :=
  l.map fun e => if e.rank == r then f e else e

/-- A frame from the rank was taken: PRESENT, the silence timer from the full silence time (R80). -/
def Entry.heard (silenceTime : Nat) (e : Entry) : Entry :=
  { e with status := .PRESENT, silence := .running silenceTime }

/-- Silence, or no frame by the formation timeout (R81, R90). -/
def Entry.goLost (e : Entry) : Entry := { e with status := .LOST, silence := .stopped }

/-- How far a sequence is ahead of the last (R83). -/
def seqAhead (s l : Half) : Nat := (s - l).toNat

/-- The sequence shows a restart (R83). -/
def seqRestart (s l : Half) : Bool := decide (s.toNat < l.toNat ∧ 255 < seqAhead s l)

/-- Beats missed between the last sequence and this one (R83). -/
def seqMissed (s l : Half) : Nat := if seqRestart s l then 0 else seqAhead s l - 1

/-- The beat reports FORMING or HALTED and the entry held another phase (R84). -/
def phaseRestart (new old : Phase) : Bool := (new == .FORMING || new == .HALTED) && new != old

/-- A list-full byte: 0 clear, 1 set, any other value open (R164; log entry 12). -/
def listFullOf (b : Byte) : Bool := if b = 0 then false else if b = 1 then true else Config.freeListFull b

/-- The beat values a BEAT sets (R82, R85). -/
def BeatValues.ofFields (digest : Half) (b : BeatFields) : BeatValues :=
  { seq := b.seq, phase := (Phase.ofCode b.phase.toNat).getD .FORMING, digestMatch := b.digest == digest
    voltage := b.voltage.toNat, current := b.current.toInt
    chargeState := (SwState.ofCode b.chargeState.toNat).getD .OPEN
    dischargeState := (SwState.ofCode b.dischargeState.toNat).getD .OPEN
    watch := watchMask b.watch, listFull := listFullOf b.listFull, epoch := b.epoch, count := b.count.toNat
    lastRound := b.lastRound.toNat, lastCloser := b.lastCloser.toNat }

/-- A BEAT at its entry: the counts of R83 and R84, then the beat values (R82). A beat that repeats the last sequence but
reports FORMING or HALTED against another held phase raises the restart count by R84, where R83 keeps the counts: the model's
choice (log entry 37). -/
def Entry.takeBeat (digest : Half) (b : BeatFields) (e : Entry) : Entry :=
  let v := BeatValues.ofFields digest b
  match e.beat with
  | none => { e with beat := some v }
  | some old =>
      let restarted := seqRestart b.seq old.seq || phaseRestart v.phase old.phase
      { e with beat := some v, missed := satAdd e.missed (seqMissed b.seq old.seq)
               restarts := if restarted then satAdd e.restarts 1 else e.restarts }

/-! ### Phase checks (R91, R93, R94) -/

/-- Formation and confinement, checked after a BEAT and after a change of status: by its values or by its status, a PRESENT
entry may now hold digest match NO (R86, R93, R94, R202). -/
def phaseChecks (s : State) : State :=
  match s.phase with
  | .FORMING => if s.roster.all Entry.formed then changePhase .OPERATING s else s
  | .OPERATING => if s.roster.any Entry.mismatched then changePhase .CONFINED s else s
  | .CONFINED => if !s.conflict && !s.roster.any Entry.mismatched then changePhase .OPERATING s else s
  | .HALTED => s
  | .LOADING => s

/-- A frame bearing the own rank that is no echo (R95). -/
def rankConflict (s : State) : State :=
  if s.conflict then s
  else
    let s1 := s.withConflict true
    match s1.phase with
    | .FORMING => changePhase .CONFINED s1
    | .OPERATING => changePhase .CONFINED s1
    | .CONFINED => s1
    | .HALTED => s1
    | .LOADING => s1

/-! ### Frames (R79 to R86) -/

/-- The beat a frame carries, if any. -/
def Content.beat? : Content → Option BeatFields
  | .beat b => some b
  | _ => none

/-- The entry after a frame: heard, and with the beat's values (R80, R82). -/
def Entry.takeFrame (silenceTime : Nat) (digest : Half) (c : Content) (e : Entry) : Entry :=
  let e1 := e.heard silenceTime
  match c.beat? with
  | some b => e1.takeBeat digest b
  | none => e1

/-- A frame from a roster rank whose entry was `e` (R80, R82, R86). -/
def takeFromMember (f : RxFrame) (e : Entry) (s : State) : State :=
  let r := f.src.toNat
  let s1 := s.withRoster (updateEntry r (Entry.takeFrame s.cfg.silenceTime s.load.digest f.content) s.roster)
  let s2 := if e.status = .LOST then markStale r false (memberFound r s1) else s1
  if f.content.beat?.isSome ∨ e.status ≠ .PRESENT then phaseChecks s2 else s2

/-- What the membership unit does with a valid frame that is no echo (R79). -/
def membershipTakes (f : RxFrame) (s : State) : State :=
  if f.src.toNat = s.rank then rankConflict s
  else
    match s.entry f.src.toNat with
    | some e => takeFromMember f e s
    | none => s

/-- An entry goes LOST by silence, and each block takes the change (R81, R86). -/
def entryLost (r : Nat) (s : State) : State :=
  let s1 := s.withRoster (updateEntry r Entry.goLost s.roster)
  phaseChecks (markStale r true (membersLost [r] s1))

/-- The formation timeout: every entry still EXPECTED goes LOST (R86, R90). -/
def formationExpired (s : State) : State :=
  let waiting := (s.roster.filter fun e => e.status == .EXPECTED).map (·.rank)
  let s1 := s.withRoster (s.roster.map fun e => if e.status == .EXPECTED then e.goLost else e)
  membersLost waiting (s1.withFormation .stopped)

/-! ### The retry budget and a BEAT (R129, R130) -/

/-- A count taken from a beat, within the bound (R126). -/
def boundCount (limit count : Nat) : Nat := min count (countBound limit)

/-- Merging, or joining, from a beat of an OPERATING or CONFINED member. -/
def Budget.takeBeat (limit : Nat) (e : Byte) (c : Nat) (b : Budget) : Budget :=
  if !b.joined then { b with epoch := e, count := boundCount limit c, joined := true }
  else if e = b.epoch then { b with count := max b.count (boundCount limit c) }
  else if newer e b.epoch then { b with epoch := e, count := boundCount limit c }
  else b

/-- What the retry budget does with a frame (R129). -/
def budgetTakes (f : RxFrame) (s : State) : State :=
  match f.content with
  | .beat b =>
      if s.isRosterRank f.src.toNat && (b.phase.toNat == 2 || b.phase.toNat == 3) then
        s.withBudget (s.budget.takeBeat s.cfg.latchLimit b.epoch b.count.toNat)
      else s
  | _ => s

/-- The quiet clear and RESET BUDGET: a new epoch with count 0, the quiet timer stopped (R133, R134). -/
def newEpoch (s : State) : State :=
  s.withBudget { s.budget with epoch := s.budget.epoch + 1, count := 0, quiet := .stopped }

/-! ### What every command ends with -/

/-- The hold-off of a path starts where the path went from closed to open at pack level (R100). -/
def packEdge (before : State) (p : Path) (s : State) : State :=
  if before.packClosed p && !s.packClosed p then startHoldOff p s else s

/-- The quiet timer runs while the four conditions hold (R132). -/
def quietRetest (s : State) : State :=
  if s.quietHolds then
    (if s.budget.quiet.isRunning then s else s.withBudget { s.budget with quiet := .running s.cfg.quietTimeUs })
  else s.withBudget { s.budget with quiet := .stopped }

/-- The end of a command that began in `before`: where an input of R102 changed, the hold-off of a path that opened at
pack level, the quiet timer, and the start test (R88, R100, R102, R132; log entries 9 and 10). -/
def settle (before s : State) : State :=
  if before.startInputs = s.startInputs then s
  else startTest (quietRetest (packEdge before .discharge (packEdge before .charge s)))

end Sys2Proof.Machine
end

