-- ==== Sys2Proof/Machine/Loading.lean ====
section
/-!
DEFINITION. The two resets, LOADING and its end (R197 to R206), with what each block does on entry to FORMING (R56, R89,
R146, R155), and the meanings of SUPPLY_RESET, SUPPLY_RESET_END and LOADING_END.
-/
namespace Sys2Proof.Machine

/-- Every block in its reset state; the one-time storage stays (R197, R201), and so does what the loader read last, until
the next load (R198, R204, R206; log entry 18). The roster's entries become EXPECTED, with or without their counts
(R75). -/
def resetBlocks (keepCounts : Bool) (s : State) : State :=
  { State.reset with
    store := s.store
    load := { s.load with timer := .stopped }
    roster := s.roster.map fun e =>
      if keepCounts then Entry.expected e.rank e.missed e.restarts else Entry.expected e.rank 0 0
    freeCount := s.freeCount, pending := s.pending }

/-- The time of LOADING, 2 ms (R200). -/
def loadingTime : Nat := 2000

/-- LOADING begins (R200). -/
def beginLoading (s : State) : State :=
  { s with supplyLow := false, phase := .LOADING, load := { s.load with timer := .running loadingTime } }

/-- A supply reset: held in reset while the supply is low (R204). -/
def supplyReset (s : State) : State := { resetBlocks false s with supplyLow := true }

/-- A service restart takes effect: the link counters are kept and the restarts counter rises (R205). -/
def serviceRestart (s : State) : State :=
  let s1 := beginLoading (resetBlocks true s)
  s1.withLink { s1.link with counters := s.link.counters.restarted }

/-- The roster the load forms: a rank that was a roster rank before keeps its counts (R73, R75). -/
def formRoster (n own : Nat) (old : List Entry) : List Entry :=
  (rosterRanks n own).map fun r =>
    match old.find? (fun e => e.rank == r) with
    | some e => Entry.expected r e.missed e.restarts
    | none => Entry.expected r 0 0

/-- The thermistor bias is on during a scan when an input is in use (R60). -/
def Cfg.biasInScan (c : Cfg) : Bool := c.thermistors != 0

/-- A scan starts: 4 ms to its result, the check interval from now (R57, R60). -/
def startScan (s : State) : State :=
  s.withMeas { s.meas with scanTimer := .running 4000, checkTimer := .running s.cfg.checkIntervalUs,
                           bias := s.cfg.biasInScan }

/-- A run begins: the first scan, sampling, the first average window, and the comparator's state (R56, R69). -/
def startRun (shunt : Int) (s : State) : State :=
  let s1 := startScan s
  let up := comparatorRises s.cfg shunt
  let s2 := s1.withMeas { s1.meas with sampleTimer := .running 250, sum := 0, number := 0, comparator := up }
  if up then shortAsserted s2 else s2

/-- Both feedback inputs are read; one that is on is a feedback-on in OPEN (R146). -/
def readFeedback (i : LoadInputs) (s : State) : State :=
  let s1 := if i.feedbackCharge then moveSwitch .charge s.charge.feedbackOn s else s
  if i.feedbackDischarge then moveSwitch .discharge s1.discharge.feedbackOn s1 else s1

/-- The stop line is sensed going asserted, in the blocks that take it (R50, R116, R150). -/
def lineAsserted (unexplained : Bool) (s : State) : State :=
  holdBoth (setReleaseTimer .stopped (s.withStop (s.stop.assertedSense unexplained)))

/-- The line is read on leaving LOADING (R155). -/
def readStopLine (asserted : Bool) (s : State) : State := if asserted then lineAsserted true s else s

/-- The storage as a load reads it: the bytes it holds already, or at the first load those it was written with (R197, R201;
log entry 8). -/
def Store.read (given : Vector Byte 64) (st : Store) : Store :=
  if st.written then st else { block := given, written := true }

/-- What the loader holds at the end of LOADING, from the bytes and the straps it read (R198, R199, R200). -/
def loaded (block : List Byte) (strap : BitVec 4) : Load :=
  { timer := .stopped, strap := strap, digest := packDigest block, haltCause := haltCauseOf block (strap.toNat + 1) }

/-- On leaving LOADING the medium is taken as busy, and what is heard is discarded until the next idle; the moment is the
reference point where nothing is heard (R157). -/
def Link.leaveLoading (l : Link) : Link :=
  { l with busy := true, discarding := true, burst := [], midCharacter := false, quiet := 0 }

/-- A failed load: HALTED, no roster, the fixed beat timer (R203). -/
def enterHalted (l : Load) (s : State) : State :=
  { s with phase := .HALTED, load := l, cfg := .none, roster := []
           beats := { s.beats with timer := .running (l.strap.toNat * 1250 + 1250) }
           link := s.link.leaveLoading }

/-- A passed load: the values come into force, the roster and the MEMBER LOST conditions are formed, and the formation,
beat and hold-off timers start (R28, R76, R89, R100, R124, R200). -/
def enterForming (c : Cfg) (l : Load) (s : State) : State :=
  let own := l.strap.toNat + 1
  { s with phase := .FORMING, load := l, cfg := c, roster := formRoster c.memberCount own s.roster
           conds := { s.conds with lost := (rosterRanks c.memberCount own).map fun r => { subject := r, cond := .quiet } }
           formation := .running (10 * c.tBeat)
           beats := { s.beats with timer := .running (own * c.tBeat / 16) }
           reclose := { s.reclose with lastCloser := c.memberCount, holdCharge := .running c.holdOffTime,
                                       holdDischarge := .running c.holdOffTime }
           link := s.link.leaveLoading }

/-- The end of LOADING (R200): the block is read from its storage (R201). On entry to FORMING the measurement unit and the
switch controller each start, in any order (R202). -/
def endLoading (i : LoadInputs) (s : State) : State :=
  if s.phase = .LOADING ∧ s.supplyLow = false then
    let st := s.store.read i.block
    let block := st.block.toList
    let l := loaded block i.strap
    let s1 := s.withStore st
    if l.haltCause ≠ 0 then enterHalted l s1
    else inAnyOrder [startRun i.shunt, readStopLine i.stopLine, readFeedback i] (enterForming (Cfg.ofBlock block) l s1)
  else s

/-! ### Meanings -/

/-- SUPPLY_RESET (R204). -/
def execSupplyReset (s : State) : Host.Outcome State Fault Refusal := .next (supplyReset s)

/-- SUPPLY_RESET_END: the reset ends and LOADING begins (R200, R204). -/
def execSupplyResetEnd (s : State) : Host.Outcome State Fault Refusal :=
  .next (if s.supplyLow then beginLoading s else s)

/-- LOADING_END (R200). -/
def execLoadingEnd (i : LoadInputs) (s : State) : Host.Outcome State Fault Refusal := .next (endLoading i s)

end Sys2Proof.Machine
end

