-- ==== Sys2Proof/Machine/Measurement.lean ====
section
/-!
DEFINITION. The measurement unit's events and the condition monitor's timers: the meanings of CHECK_INTERVAL_EXPIRY,
SCAN_RESULT, CURRENT_SAMPLE, the comparator rows, and the short delay, recovery and release timers.
-/
namespace Sys2Proof.Machine

/-- CHECK_INTERVAL_EXPIRY: a new scan starts and the timer restarts (R57). -/
def execCheckIntervalExpiry (s : State) : Host.Outcome State Fault Refusal :=
  .next (if s.working then startScan s else s)

/-- The scan result replaces the latest one, and the bias turns off (R60, R62). -/
def holdScan (r : ScanResult) (s : State) : State :=
  s.withMeas { s.meas with scan := some r, scanTimer := .stopped, bias := false }

/-- SCAN_RESULT (R62). -/
def execScanResult (m : ScanInputs) (s : State) : Host.Outcome State Fault Refusal :=
  .next (if s.working then settle s (evaluateScan (scanOf s.cfg m) (holdScan (scanOf s.cfg m) s)) else s)

/-- The sample replaces the latest one and joins the open window (R65, R66). -/
def holdSample (x : Int) (s : State) : State :=
  s.withMeas { s.meas with sample := some x, sum := s.meas.sum + x, number := s.meas.number + 1,
                           sampleTimer := .running 250 }

/-- CURRENT_SAMPLE (R65). -/
def execCurrentSample (shunt : Int) (s : State) : Host.Outcome State Fault Refusal :=
  .next (if s.working then settle s (evaluateSample (sampleOf shunt) (holdSample (sampleOf shunt) s)) else s)

/-- COMPARATOR_ASSERTION: the released comparator's shunt rose above the threshold; only a change is delivered (R41, R68,
R69). -/
def execComparatorAssertion (shunt : Int) (s : State) : Host.Outcome State Fault Refusal :=
  .next (if s.working ∧ !s.meas.comparator ∧ comparatorRises s.cfg shunt then
    settle s (shortAsserted (s.withMeas { s.meas with comparator := true })) else s)

/-- COMPARATOR_RELEASE: the asserted comparator's shunt fell to the release level; only a change is delivered (R41, R42,
R68, R69). -/
def execComparatorRelease (shunt : Int) (s : State) : Host.Outcome State Fault Refusal :=
  .next (if s.working ∧ s.meas.comparator ∧ comparatorFalls s.cfg shunt then
    settle s (shortReleased (s.withMeas { s.meas with comparator := false })) else s)

/-- SHORT_DELAY_EXPIRY in WATCH trips SHORT (R41). -/
def execShortDelayExpiry (s : State) : Host.Outcome State Fault Refusal :=
  .next (if s.working ∧ s.conds.short.state = .WATCH ∧ s.conds.short.timer.isRunning then
    settle s (tripShort s) else s)

/-- RECOVERY_TIMER_EXPIRY of a current-class kind in SETTLING (R40, R42). -/
def execRecoveryTimerExpiry (k : Kind) (s : State) : Host.Outcome State Fault Refusal :=
  let c := s.conds.get (ownCond k)
  .next (if s.working ∧ k.currentClass ∧ c.state = .SETTLING ∧ c.timer.isRunning then
    settle s (clearCond (ownCond k) s) else s)

/-- RELEASE_TIMER_EXPIRY of a TRIPPED UNEXPLAINED STOP (R50). -/
def execReleaseTimerExpiry (s : State) : Host.Outcome State Fault Refusal :=
  let c := s.conds.unexplainedStop
  .next (if s.working ∧ c.state = .TRIPPED ∧ c.timer.isRunning then
    settle s (clearCond (ownCond .unexplainedStop) s) else s)

end Sys2Proof.Machine
end

