-- ==== Sys2Proof/Machine/Timers.lean ====
section
/-!
DEFINITION. The beat-period events and the timers of the membership unit, the reclose controller, the trip list and the
retry budget, with their meanings.
-/
namespace Sys2Proof.Machine

/-- The average of a window: its sum over its number, rounded toward zero; 0 for an empty one (R66). -/
def windowAverage (sum : Int) (number : Nat) : Int := if number = 0 then 0 else sum.tdiv number

/-- The open window closes and the next opens, empty (R66, R67). -/
def closeAverage (s : State) : State :=
  s.withMeas { s.meas with average := some (windowAverage s.meas.sum s.meas.number), sum := 0, number := 0 }

/-- The beat of a working station (R77, R164). -/
def ownBeat (s : State) : BeatFields :=
  { phase := byteOf s.phase.code, listFull := byteOf (boolCode s.trips.full), seq := s.beats.seq
    digest := s.load.digest, chargeState := byteOf s.charge.state.code, dischargeState := byteOf s.discharge.state.code
    voltage := BitVec.ofNat 16 (match s.meas.scan with | some r => r.moduleUnits | none => 0)
    current := BitVec.ofInt 16 (s.meas.average.getD 0), epoch := s.budget.epoch, count := byteOf s.budget.count
    lastRound := byteOf s.reclose.lastRound, lastCloser := byteOf s.reclose.lastCloser
    watch := BitVec.ofNat 16 (watchBits s.conds.watchSet), records := ownEntries s }

/-- The beat of a HALTED station (R203). -/
def haltedBeat (s : State) : BeatFields :=
  { phase := 4, listFull := 0, seq := s.beats.seq, digest := s.load.digest, chargeState := 1, dischargeState := 1,
    voltage := 0, current := 0, epoch := 0, count := 0, lastRound := 0, lastCloser := 16, watch := 0, records := [] }

/-- A beat is placed in the beat slot and uses up its sequence number (R77, R78). -/
def placeBeat (b : BeatFields) (s : State) : State :=
  (s.withLink (s.link.placeBeat (.beat b))).withBeats { s.beats with seq := s.beats.seq + 1 }

def buildBeat (s : State) : State := placeBeat (ownBeat s) s

/-- The beat timer restarts (R76, R203). -/
def setBeatTimer (t : Nat) (s : State) : State := s.withBeats { s.beats with timer := .running t }

/-- The beat-period event: the average closes, then the pack kinds are evaluated and the beat is built, in either order
(R77). -/
def beatPeriod (s : State) : State :=
  setBeatTimer s.cfg.tBeat (inAnyOrder [evaluatePack, buildBeat] (closeAverage s))

/-! ### Meanings -/

/-- BEAT_PERIOD_EVENT (R77). -/
def execBeatPeriodEvent (s : State) : Host.Outcome State Fault Refusal :=
  .next (if s.working then settle s (beatPeriod s) else s)

/-- HALTED_BEAT, every 20 ms (R203). -/
def execHaltedBeat (s : State) : Host.Outcome State Fault Refusal :=
  .next (if s.phase = .HALTED then setBeatTimer 20000 (placeBeat (haltedBeat s) s) else s)

/-- SILENCE_TIMER_EXPIRY of a PRESENT entry (R81). -/
def execSilenceTimerExpiry (rank : Nat) (s : State) : Host.Outcome State Fault Refusal :=
  .next (match s.entry rank with
    | some e =>
        if s.working ∧ e.status = .PRESENT ∧ e.silence.isRunning then settle s (entryLost rank s) else s
    | none => s)

/-- FORMATION_TIMEOUT (R90). -/
def execFormationTimeout (s : State) : Host.Outcome State Fault Refusal :=
  .next (if s.working ∧ s.formation.isRunning then settle s (formationExpired s) else s)

/-- HOLD_OFF_EXPIRY: the path's hold-off is elapsed (R100). -/
def execHoldOffExpiry (p : Path) (s : State) : Host.Outcome State Fault Refusal :=
  .next (if s.working ∧ (s.reclose.holdOff p).isRunning then
    settle s (s.withReclose (s.reclose.setHoldOff p .expired)) else s)

/-- WINDOW_TIMER_EXPIRY (R119). -/
def execWindowTimerExpiry (s : State) : Host.Outcome State Fault Refusal :=
  .next (if s.working then settle s (windowExpired s) else s)

/-- LIST_FULL_TIMER_EXPIRY: the flag clears and its hold with it (R26). -/
def execListFullTimerExpiry (s : State) : Host.Outcome State Fault Refusal :=
  .next (if s.working ∧ s.trips.fullTimer.isRunning then
    settle s (s.withTrips { s.trips with full := false, fullTimer := .stopped }) else s)

/-- QUIET_TIMER_EXPIRY: a new epoch, count 0 (R133). -/
def execQuietTimerExpiry (s : State) : Host.Outcome State Fault Refusal :=
  .next (if s.working ∧ s.budget.quiet.isRunning then settle s (newEpoch s) else s)

end Sys2Proof.Machine
end

