-- ==== Sys2Proof/Machine/Stops.lean ====
section
/-!
DEFINITION. The events of the switch controller: gate feedback, close and open limits, the stop line's sense and its
timers, with their meanings (R137 to R155).
-/
namespace Sys2Proof.Machine

/-- A switch takes its new state and reports it, and a switch fault besides (R145). -/
def switchEvent (p : Path) (out : Switch × Bool) (s : State) : State :=
  let s1 := moveSwitch p out.1 s
  if out.2 then switchFaultReport s1 else s1

/-- FEEDBACK_ON (R142). -/
def execFeedbackOn (p : Path) (s : State) : Host.Outcome State Fault Refusal :=
  .next (if s.working then settle s (switchEvent p ((s.switch p).feedbackOn, false) s) else s)

/-- FEEDBACK_OFF (R142). -/
def execFeedbackOff (p : Path) (s : State) : Host.Outcome State Fault Refusal :=
  .next (if s.working then settle s (switchEvent p (s.switch p).feedbackOff s) else s)

/-- CLOSE_LIMIT_EXPIRY (R143). -/
def execCloseLimitExpiry (p : Path) (s : State) : Host.Outcome State Fault Refusal :=
  .next (if s.working then settle s (switchEvent p (s.switch p).closeLimit s) else s)

/-- OPEN_LIMIT_EXPIRY (R144). -/
def execOpenLimitExpiry (p : Path) (s : State) : Host.Outcome State Fault Refusal :=
  .next (if s.working then settle s (switchEvent p (s.switch p).openLimit s) else s)

/-- STOP_LINE_GOING_ASSERTED (R150). -/
def execStopLineGoingAsserted (s : State) : Host.Outcome State Fault Refusal :=
  .next (if s.working then settle s (lineAsserted false s) else s)

/-- The sense is released: its hold ends, the stuck timer stops, UNEXPLAINED STOP's release timer starts (R50, R151). -/
def lineReleased (s : State) : State := setReleaseTimer (.running releaseTime) (s.withStop s.stop.releasedSense)

/-- STOP_LINE_GOING_RELEASED (R151). -/
def execStopLineGoingReleased (s : State) : Host.Outcome State Fault Refusal :=
  .next (if s.working then settle s (lineReleased s) else s)

/-- MINIMUM_TIMER_EXPIRY (R149). -/
def execMinimumTimerExpiry (s : State) : Host.Outcome State Fault Refusal :=
  .next (if s.working ∧ s.stop.minTimer.isRunning then
    releaseIfDone (s.withStop { s.stop with minTimer := .expired }) else s)

/-- DRIVER_LIMIT_EXPIRY (R149). -/
def execDriverLimitExpiry (s : State) : Host.Outcome State Fault Refusal :=
  .next (if s.working ∧ s.stop.driving ∧ s.stop.limit.isRunning then releaseLine s else s)

/-- EXPLANATION_WINDOW_EXPIRY: an unexplained stop (R152). -/
def execExplanationWindowExpiry (s : State) : Host.Outcome State Fault Refusal :=
  .next (if s.working ∧ s.stop.window.isRunning then
    settle s (unexplainedReport (s.withStop s.stop.closeWindow)) else s)

/-- STUCK_TIMER_EXPIRY: a stuck line (R153). -/
def execStuckTimerExpiry (s : State) : Host.Outcome State Fault Refusal :=
  .next (if s.working ∧ s.stop.stuck.isRunning then
    settle s (unexplainedReport (s.withStop { s.stop with stuck := .stopped })) else s)

end Sys2Proof.Machine
end

