-- ==== Sys2Proof/Machine/Service.lean ====
section
/-!
DEFINITION. The service responder: what it makes of a REQUEST, request by request, and the REPLY it places (R179 to R196).
-/
namespace Sys2Proof.Machine

/-- What serving a request leaves: the station, the status and reason of R181, and the data of the reply. -/
structure Served where
  state  : State
  status : Nat
  reason : Nat
  data   : List Byte

/-- DONE, with a reply's data (R181). -/
def Served.done (data : List Byte) (s : State) : Served := { state := s, status := 1, reason := 0, data := data }

/-- REFUSED with a reason; nothing changes (R181). -/
def Served.refused (reason : Nat) (s : State) : Served := { state := s, status := 2, reason := reason, data := [] }

/-- UNKNOWN REQUEST, code 3 (R181). -/
def Served.unknown (s : State) : Served := { state := s, status := 3, reason := 0, data := [] }

/-- BAD LENGTH, code 4 (R181). -/
def Served.badLength (s : State) : Served := { state := s, status := 4, reason := 0, data := [] }

/-- The payload length of each request in pairs of bytes (R179). -/
def requestLength (code : Nat) : Nat := if code = 2 ∨ code = 3 ∨ code = 8 ∨ code = 10 then 2 else 1

/-! ### Reading the station -/

/-- The code of a round state, 0 in IDLE (R184). -/
def State.roundStateCode (s : State) : Nat :=
  match s.round with
  | some r => r.stage.code
  | none => 0

def State.roundNumber (s : State) : Nat :=
  match s.round with
  | some r => r.number
  | none => 0

def State.roleCode (s : State) : Nat :=
  match s.round with
  | some r => r.role.code
  | none => 0

/-- The 32 bytes of READ STATUS (R184). -/
def statusData (s : State) : List Byte :=
  [byteOf s.phase.code, byteOf s.load.haltCause, byteOf s.rank, byteOf s.cfg.memberCount,
   byteOf (boolCode s.conflict), byteOf (boolCode s.trips.full), byteOf s.trips.records.length,
   byteOf s.charge.state.code, byteOf s.discharge.state.code, byteOf (boolCode s.stop.driving),
   byteOf (boolCode s.stop.sense), byteOf (boolCode s.stop.window.isRunning), byteOf (s.coordinator.getD 0),
   byteOf (boolCode (s.packClosed .charge)), byteOf (boolCode (s.packClosed .discharge)), byteOf s.roundStateCode,
   byteOf s.roundNumber, byteOf s.roleCode, byteOf s.reclose.lastRound, byteOf s.reclose.lastCloser,
   s.budget.epoch, byteOf s.budget.count, byteOf (boolCode s.latched), byteOf (boolCode s.budget.joined)]
  ++ natBytes (watchBits s.conds.watchSet) ++ halfBytes s.beats.seq ++ halfBytes s.load.digest
  ++ [byteOf s.trips.nextId, 0]

/-- READ STATUS (R184). -/
def serveReadStatus (s : State) : Served := .done (statusData s) s

/-- The flags of a record in a list page (R185). -/
def Record.flags (r : Record) : Nat := boolCode r.stale + 2 * boolCode r.counted

/-- The six bytes of a record in a list page (R185). -/
def Record.pageBytes (r : Record) : List Byte := [byteOf r.origin] ++ r.entry.bytes ++ [byteOf r.flags]

/-- The records of a page, eight to the page (R6, R185). -/
def listPage (page : Nat) (l : List Record) : List Record := (l.drop (8 * page)).take 8

/-- The data of a list page (R185). -/
def pageData (page : Nat) (l : List Record) : List Byte :=
  [byteOf page, byteOf l.length, byteOf (listPage page l).length] ++ (listPage page l).flatMap Record.pageBytes

/-- READ LIST (R185). -/
def serveReadList (args : List Byte) (s : State) : Served :=
  let page := (args.headD 0).toNat
  if 7 < page then .refused 1 s else .done (pageData page s.trips.records) s

/-- The silence time left in ms (R186; log entry 13). -/
def silenceMs (t : Timer) : Nat :=
  match t with
  | .stopped => 0
  | .running left =>
      if left % 1000 = 0 then left / 1000
      else if Config.freeMsRoundsUp left then left / 1000 + 1 else left / 1000

/-- The bytes 3, 4 and 9 to 23 of READ ROSTER, in two runs; 0 while the beat values are absent (R186). -/
def BeatValues.rosterBytes (b : BeatValues) : List Byte :=
  [byteOf b.phase.code, byteOf (if b.digestMatch then 1 else 2)] ++ natBytes b.voltage ++ intBytes b.current
  ++ [byteOf b.chargeState.code, byteOf b.dischargeState.code] ++ halfBytes b.watch
  ++ [byteOf (boolCode b.listFull), b.epoch, byteOf b.count, byteOf b.lastRound, byteOf b.lastCloser]

/-- The 28 bytes of READ ROSTER (R186). -/
def rosterData (e : Entry) : List Byte :=
  [byteOf e.rank, byteOf e.status.code, byteOf (boolCode e.beat.isSome)]
  ++ (match e.beat with | some b => halfBytes b.seq | none => List.replicate 2 0)
  ++ natBytes e.missed ++ natBytes e.restarts
  ++ (match e.beat with | some b => b.rosterBytes | none => List.replicate 15 0)
  ++ [byteOf (boolCode e.silence.isRunning)] ++ natBytes (silenceMs e.silence) ++ [0]

/-- READ ROSTER (R186). -/
def serveReadRoster (args : List Byte) (s : State) : Served :=
  if s.phase = .HALTED then .refused 2 s
  else
    match s.entry (args.headD 0).toNat with
    | none => .refused 1 s
    | some e => .done (rosterData e) s

/-- The data of READ MEASUREMENTS (R187). -/
def measurementsData (m : Meas) : List Byte :=
  let cells := match m.scan with | some r => r.cells | none => []
  let codes := match m.scan with | some r => r.codes | none => []
  [byteOf (boolCode m.scan.isSome), byteOf (boolCode m.sample.isSome), byteOf (boolCode m.average.isSome),
   byteOf (boolCode m.comparator), byteOf cells.length, byteOf codes.length]
  ++ natBytes (match m.scan with | some r => r.moduleUnits | none => 0)
  ++ intBytes (match m.scan with | some r => r.die | none => 0)
  ++ intBytes (m.sample.getD 0) ++ intBytes (m.average.getD 0) ++ cells.flatMap natBytes ++ codes.flatMap natBytes

/-- READ MEASUREMENTS (R187). -/
def serveReadMeasurements (s : State) : Served := .done (measurementsData s.meas) s

/-- The eleven counters in the order of R177. -/
def Counters.list (c : Counters) : List Nat :=
  [c.framesGood, c.crcErrors, c.badFrames, c.collisions, c.dropped16, c.noticesDropped, c.roundsReplaced,
   c.requestsDropped, c.roundsLapsed, c.roundsAbandoned, c.restarts]

/-- READ COUNTERS (R188). -/
def serveReadCounters (s : State) : Served := .done (s.link.counters.list.flatMap natBytes) s

/-- Both counts of an entry at 0 (R189). -/
def Entry.clearCounts (e : Entry) : Entry := { e with missed := 0, restarts := 0 }

/-- CLEAR COUNTERS (R189). -/
def serveClearCounters (s : State) : Served :=
  .done [] ((s.count fun _ => .zero).withRoster (s.roster.map Entry.clearCounts))

/-- READ CONFIGURATION (R190). -/
def serveReadConfiguration (s : State) : Served :=
  .done ([byteOf s.load.strap.toNat, byteOf s.load.haltCause] ++ halfBytes s.load.digest ++ s.store.block.toList) s

/-! ### Acting on the station -/

/-- PLACE HOLD (R191). -/
def servePlaceHold (args : List Byte) (s : State) : Served :=
  let code := (args.headD 0).toNat
  if code = 0 ∨ 3 < code then .refused 1 s
  else if s.phase = .HALTED then .refused 2 s
  else .done [] (placeHold (PathSet.ofCode code) s)

/-- RELEASE HOLD (R192). -/
def serveReleaseHold (s : State) : Served :=
  if s.phase = .HALTED then .refused 2 s
  else if s.conds.hold.state = .QUIET then .refused 5 s
  else .done [] (releaseHold s)

/-- The condition can be cleared: TRIPPED or SETTLING (R53). -/
def Cond.clearable (c : Cond) : Bool := c.state == .TRIPPED || c.state == .SETTLING

/-- CLEAR TRIPPED (R52, R53, R193). -/
def serveClearTripped (args : List Byte) (s : State) : Served :=
  match clearTarget (args.headD 0).toNat ((args.drop 1).headD 0).toNat s with
  | none => .refused 1 s
  | some id =>
      if !s.working then .refused 2 s
      else if !(s.conds.get id).clearable then .refused 3 s
      else if !recoveryTest id s then .refused 4 s
      else .done [] (clearCond id s)

/-- The list holds an ACTIVE current-class record (R134). -/
def activeCurrent (l : List Record) : Bool := l.any fun r => r.phase == .ACTIVE && r.kind.currentClass

/-- RESET BUDGET (R134, R194). -/
def serveResetBudget (s : State) : Served :=
  if !s.isCoordinator then .refused 6 s
  else if activeCurrent s.trips.records then .refused 7 s
  else .done [] (newEpoch s)

/-- RESTART: the mark is set; the restart waits for the reply to leave the slot (R195). -/
def serveRestart (s : State) : Served := .done [] (s.withRestartPending true)

/-! ### Taking a request -/

/-- The request's own entry, by its code (R179). -/
def serveCode (code : Nat) (args : List Byte) (s : State) : Served :=
  match code with
  | 1 => serveReadStatus s
  | 2 => serveReadList args s
  | 3 => serveReadRoster args s
  | 4 => serveReadMeasurements s
  | 5 => serveReadCounters s
  | 6 => serveClearCounters s
  | 7 => serveReadConfiguration s
  | 8 => servePlaceHold args s
  | 9 => serveReleaseHold s
  | 10 => serveClearTripped args s
  | 11 => serveResetBudget s
  | 12 => serveRestart s
  | _ => .unknown s

/-- The checks of R181, in order, and the request carried out. -/
def serve (payload : List Byte) (s : State) : Served :=
  match payload with
  | [] => .badLength s
  | c :: rest =>
      if c.toNat = 0 ∨ 12 < c.toNat then .unknown s
      else if payload.length / 2 ≠ requestLength c.toNat then .badLength s
      else serveCode c.toNat (rest.drop 1) s

/-- A pad byte where the fields fill an odd number of bytes (R158, R182). -/
def padded (p : List Byte) : List Byte := if p.length % 2 = 0 then p else p ++ [0]

/-- The payload of a reply (R182). -/
def replyPayload (request : List Byte) (r : Served) : List Byte :=
  padded ([request.headD 0, (request.drop 1).headD 0, byteOf r.status, byteOf r.reason] ++ r.data)

/-- A request is taken: carried out, and its reply placed, addressed to its source (R180, R182). -/
def takeRequest (src : Byte) (payload : List Byte) (s : State) : State :=
  let r := serve payload s
  r.state.withLink (r.state.link.placeReply src (.reply (replyPayload payload r)))

/-- What the service responder does with a frame (R163, R180). -/
def serviceTakes (f : RxFrame) (s : State) : State :=
  match f.content with
  | .request payload =>
      if f.dst.toNat ≠ s.rank ∨ f.src.toNat = s.rank then s
      else if s.link.reply.isSome then s.count Counters.requestDropped
      else takeRequest f.src payload s
  | _ => s

end Sys2Proof.Machine
end

