-- ==== Sys2Proof/Machine/Frames.lean ====
section
/-!
DEFINITION. What happens to a frame once it has passed the first three receive checks: counting, the other checks, and
its distribution (R161 to R163); and the meanings of the rows that are frames.
-/
namespace Sys2Proof.Machine

/-- A SHORT NOTICE from a roster rank satisfies an open explanation window (R15, R152). -/
def windowTakes (f : RxFrame) (s : State) : State :=
  match f.content with
  | .notice e =>
      if s.isRosterRank f.src.toNat ∧ (e.read s.cfg.memberCount f.src.toNat).map (·.kind) = some .short then
        s.withStop s.stop.closeWindow
      else s
  | _ => s

/-- The blocks a frame is handed to (R163). -/
def takers (f : RxFrame) : List (State → State) :=
  match f.content with
  | .beat _ => [membershipTakes f, listTakes f, budgetTakes f, recloseTakes f]
  | .notice _ => [membershipTakes f, listTakes f, windowTakes f]
  | .propose _ _ _ _ _ => [membershipTakes f, recloseTakes f]
  | .answer _ _ _ => [membershipTakes f, recloseTakes f]
  | .proceed _ => [membershipTakes f, recloseTakes f]
  | .closed _ => [membershipTakes f, recloseTakes f]
  | .complete _ => [membershipTakes f, recloseTakes f]
  | .abandon _ => [membershipTakes f, recloseTakes f]
  | .request _ => [membershipTakes f, serviceTakes f]
  | .reply _ => [membershipTakes f]

/-- A valid frame that is no echo is distributed: to the blocks in any order, or in HALTED to the service responder
alone (R163). -/
def distribute (f : RxFrame) (s : State) : State :=
  match s.phase with
  | .LOADING => s
  | .HALTED => serviceTakes f s
  | _ => settle s (inAnyOrder (takers f) s)

/-- A frame read from a burst that passed checks 1 to 3: checks 4 and 5, the counters, distribution (R161, R162, R163).
In LOADING nothing is received, and after it nothing is taken until the medium has been idle (R157, R178). -/
def receive (f : RxFrame) (s : State) : State :=
  if s.phase = .LOADING ∨ s.link.discarding then s
  else if f.valid then distribute f (s.count Counters.good)
  else s.count Counters.bad

/-! ### Meanings: frames of members (log entry 7) -/

/-- A frame to all stations. -/
def toAll (src : Byte) (c : Content) : RxFrame := { src := src, dst := 0, content := c }

/-- BEAT (R82). -/
def execBeat (src : Byte) (b : BeatFields) (s : State) : Host.Outcome State Fault Refusal :=
  .next (receive (toAll src (.beat b)) s)

/-- NOTICE (R16). -/
def execNotice (src : Byte) (e : EntryBytes) (s : State) : Host.Outcome State Fault Refusal :=
  .next (receive (toAll src (.notice e)) s)

/-- PROPOSE (R107). -/
def execPropose (src round paths closer count crc : Byte) (s : State) : Host.Outcome State Fault Refusal :=
  .next (receive (toAll src (.propose round paths closer count crc)) s)

/-- ANSWER (R110). -/
def execAnswer (src dst round answer reason : Byte) (s : State) : Host.Outcome State Fault Refusal :=
  .next (receive { src := src, dst := dst, content := .answer round answer reason } s)

/-- PROCEED (R112). -/
def execProceed (src round : Byte) (s : State) : Host.Outcome State Fault Refusal :=
  .next (receive (toAll src (.proceed round)) s)

/-- CLOSED (R113). -/
def execClosed (src round : Byte) (s : State) : Host.Outcome State Fault Refusal :=
  .next (receive (toAll src (.closed round)) s)

/-- COMPLETE (R115). -/
def execComplete (src round : Byte) (s : State) : Host.Outcome State Fault Refusal :=
  .next (receive (toAll src (.complete round)) s)

/-- ABANDON (R117). -/
def execAbandon (src round : Byte) (s : State) : Host.Outcome State Fault Refusal :=
  .next (receive (toAll src (.abandon round)) s)

/-- REPLY: taken by the membership unit alone (R163). -/
def execReply (src dst : Byte) (payload : List Byte) (s : State) : Host.Outcome State Fault Refusal :=
  .next (receive { src := src, dst := dst, content := .reply payload } s)

/-! ### Meanings: requests -/

/-- A REQUEST with its code, tag and arguments (R179). -/
def requestFrame (code : Byte) (h : ReqHead) (args : List Byte) : RxFrame :=
  { src := h.src, dst := h.dst, content := .request (code :: h.tag :: args) }

/-- READ_STATUS, request 1 (R184). -/
def execReadStatus (h : ReqHead) (args : List Byte) (s : State) : Host.Outcome State Fault Refusal :=
  .next (receive (requestFrame 1 h args) s)

/-- READ_LIST, request 2 (R185). -/
def execReadList (h : ReqHead) (args : List Byte) (s : State) : Host.Outcome State Fault Refusal :=
  .next (receive (requestFrame 2 h args) s)

/-- READ_ROSTER, request 3 (R186). -/
def execReadRoster (h : ReqHead) (args : List Byte) (s : State) : Host.Outcome State Fault Refusal :=
  .next (receive (requestFrame 3 h args) s)

/-- READ_MEASUREMENTS, request 4 (R187). -/
def execReadMeasurements (h : ReqHead) (args : List Byte) (s : State) : Host.Outcome State Fault Refusal :=
  .next (receive (requestFrame 4 h args) s)

/-- READ_COUNTERS, request 5 (R188). -/
def execReadCounters (h : ReqHead) (args : List Byte) (s : State) : Host.Outcome State Fault Refusal :=
  .next (receive (requestFrame 5 h args) s)

/-- CLEAR_COUNTERS, request 6 (R189). -/
def execClearCounters (h : ReqHead) (args : List Byte) (s : State) : Host.Outcome State Fault Refusal :=
  .next (receive (requestFrame 6 h args) s)

/-- READ_CONFIGURATION, request 7 (R190). -/
def execReadConfiguration (h : ReqHead) (args : List Byte) (s : State) : Host.Outcome State Fault Refusal :=
  .next (receive (requestFrame 7 h args) s)

/-- PLACE_HOLD, request 8 (R191). -/
def execPlaceHold (h : ReqHead) (args : List Byte) (s : State) : Host.Outcome State Fault Refusal :=
  .next (receive (requestFrame 8 h args) s)

/-- RELEASE_HOLD, request 9 (R192). -/
def execReleaseHold (h : ReqHead) (args : List Byte) (s : State) : Host.Outcome State Fault Refusal :=
  .next (receive (requestFrame 9 h args) s)

/-- CLEAR_TRIPPED, request 10 (R193). -/
def execClearTripped (h : ReqHead) (args : List Byte) (s : State) : Host.Outcome State Fault Refusal :=
  .next (receive (requestFrame 10 h args) s)

/-- RESET_BUDGET, request 11 (R194). -/
def execResetBudget (h : ReqHead) (args : List Byte) (s : State) : Host.Outcome State Fault Refusal :=
  .next (receive (requestFrame 11 h args) s)

/-- RESTART, request 12 (R195). -/
def execRestart (h : ReqHead) (args : List Byte) (s : State) : Host.Outcome State Fault Refusal :=
  .next (receive (requestFrame 12 h args) s)

/-- UNKNOWN_REQUEST: a REQUEST with any payload (R181; log entry 30). -/
def execUnknownRequest (src dst : Byte) (payload : List Byte) (s : State) : Host.Outcome State Fault Refusal :=
  .next (receive { src := src, dst := dst, content := .request payload } s)

end Sys2Proof.Machine
end

