-- ==== Sys2Proof/Machine/Medium.lean ====
section
/-!
DEFINITION. The data pair itself: characters heard, the medium going idle and the burst judged, the start of an own
frame, a collision and the end of an own frame (R156, R157, R161, R162, R167 to R173, R176), with their meanings.
-/
namespace Sys2Proof.Machine

/-! ### Hearing -/

/-- The medium becomes idle: the burst is ended (R157). -/
def Link.goIdle (l : Link) : Link :=
  { l with busy := false, discarding := false, burst := [], cut := false, echo := false }

/-- What the receive checks make of an ended burst (R161, R162): a counter rises, or the frame is distributed. A burst
that is an own frame sent whole with every echo matching is the echo, and nothing takes it. An own frame cut off falls
short of its length and fails check 2 (R172; log entry 14). -/
def judgeEnded (l : Link) (s : State) : State :=
  if l.discarding then s
  else if l.cut then s.count Counters.bad
  else if l.burst = [] then s
  else
    match judgeBurst l.burst with
    | .badFrame => s.count Counters.bad
    | .crcError => s.count Counters.crc
    | .valid f => if l.echo then s else receive f s

/-- The quiet after which a busy medium is idle, in microseconds (R157). -/
def idleTime : Nat := 16

/-- A busy medium becomes idle: no own frame is in progress, no character is on the pair, and 16 microseconds have passed
since the last stop bit (R157). -/
def Link.becomesIdle (l : Link) : Bool :=
  l.busy && l.sending.isNone && !l.midCharacter && decide (idleTime ≤ l.quiet)

/-- The medium becomes idle and the burst is judged, where its quiet has passed (R157; log entry 31). -/
def mediumIdle (s : State) : State :=
  if s.phase = .LOADING ∨ !s.link.becomesIdle then s
  else judgeEnded s.link (s.withLink s.link.goIdle)

/-- MEDIUM_IDLE (R157). -/
def execMediumIdle (s : State) : Host.Outcome State Fault Refusal := .next (mediumIdle s)

/-- The medium is busy, with a character on it or one just ended; the reference point is the end of the last stop bit
(R157). -/
def Link.hear (midCharacter : Bool) (l : Link) : Link := { l with busy := true, midCharacter := midCharacter, quiet := 0 }

/-- A start bit or a character of another station (R157). A whole character joins the burst, unless what is heard is being
discarded or an own frame is in progress, whose echo FRAME_SENT and COLLISION tell (log entry 15). -/
def Link.hearEvent (e : LineEvent) (l : Link) : Link :=
  match e with
  | .startBit => l.hear true
  | .character c =>
      if l.discarding ∨ l.sending.isSome then l.hear false
      else { l.hear false with burst := l.burst ++ [c], echo := false }

/-- CHARACTER_RECEIVED (R157). -/
def execCharacterReceived (e : LineEvent) (s : State) : Host.Outcome State Fault Refusal :=
  .next (if s.phase = .LOADING then s else s.withLink (s.link.hearEvent e))

/-! ### Sending -/

/-- The own frame begins on an idle medium, with its first start bit (R168). -/
def Link.start (k : TxClass) (l : Link) : Link :=
  { l with sending := some k, busy := true, burst := [], cut := false, echo := false, midCharacter := true, quiet := 0 }

/-- The offered frame of a class may start: the medium is idle and has been quiet for the frame's gap since the reference
point (R168). -/
def Link.mayStart (rank : Nat) (k : TxClass) (l : Link) : Bool :=
  !l.busy && l.sending.isNone && decide (k.gap rank ≤ l.quiet)

/-- FRAME_START: the frame at the head of the highest-class queue that holds one starts, once its gap has passed (R167,
R168; log entry 31). -/
def execFrameStart (s : State) : Host.Outcome State Fault Refusal :=
  .next (match s.link.offered with
    | some k => if s.phase ≠ .LOADING ∧ s.link.mayStart s.rank k then s.withLink (s.link.start k) else s
    | none => s)

/-- A waiting frame with the own rank as source (R172, R199). -/
def TxFrame.frame (rank : Nat) (f : TxFrame) : RxFrame := { src := byteOf rank, dst := f.dst, content := f.content }

/-- The characters of a waiting frame (R158). -/
def TxFrame.bytes (rank : Nat) (f : TxFrame) : List Byte := (f.frame rank).bytes

/-- The frame being sent: its class and the head of its queue (R172). -/
def Link.inProgress (l : Link) : Option (TxClass × TxFrame) :=
  match l.sending with
  | none => none
  | some k => (l.head k).map fun f => (k, f)

/-- A REPLY has left the slot: a pending restart takes effect (R176, R183, R205). -/
def replyLeft (s : State) : State := if s.restartPending then serviceRestart s else s

/-- The sending stops at a character whose echo differed: what was heard is the burst so far (R169). -/
def Link.stopAt (bytes : List Byte) (matched : Nat) (echo : LineChar) (l : Link) : Link :=
  { l with sending := none, busy := true, midCharacter := false, quiet := 0
           burst := (bytes.take matched).map .byte ++ [echo], cut := false, echo := false }

/-- The head of a class's queue has collided: at 16 it is removed and counted (R169, R170). -/
def collided (k : TxClass) (f : TxFrame) (s : State) : State :=
  let s1 := s.count Counters.collided
  if f.collisions + 1 < 16 then s1.withLink (s1.link.setHeadCollisions k (f.collisions + 1))
  else
    let s2 := (s1.withLink (s1.link.dropHead k)).count Counters.drop16
    if k = .service then replyLeft s2 else s2

/-- COLLISION: after `matched` characters the echo differed from the one sent (R169). -/
def execCollision (matched : Nat) (echo : LineChar) (s : State) : Host.Outcome State Fault Refusal :=
  .next (match s.link.inProgress with
    | none => s
    | some (k, f) =>
        let bytes := f.bytes s.rank
        match bytes[matched]? with
        | none => s
        | some b =>
            if echo = .byte b then s
            else collided k f (s.withLink (s.link.stopAt bytes matched echo)))

/-- Every echo matched: the frame leaves its queue and the burst is its echo (R162, R169). -/
def Link.finish (k : TxClass) (bytes : List Byte) (l : Link) : Link :=
  { (l.dropHead k) with sending := none, busy := true, midCharacter := false, quiet := 0, burst := bytes.map .byte
                        cut := false, echo := true }

/-- The NOTICE is that of the awaited SHORT record (R149, R173). -/
def awaitedNotice (awaited : Option Nat) (c : Content) : Bool :=
  match c with
  | .notice e => e.kind.toNat == 5 && awaited == some e.tripId.toNat
  | _ => false

/-- The report of a sent frame: a NOTICE may confirm the pull, a REPLY leaves the slot (R149, R173, R176). -/
def reportSent (k : TxClass) (f : TxFrame) (s : State) : State :=
  if s.stop.driving && awaitedNotice s.stop.awaited f.content then
    releaseIfDone (s.withStop { s.stop with confirmed := true })
  else if k = .service then replyLeft s
  else s

/-- FRAME_SENT (R169). -/
def execFrameSent (s : State) : Host.Outcome State Fault Refusal :=
  .next (match s.link.inProgress with
    | none => s
    | some (k, f) => reportSent k f (s.withLink (s.link.finish k (f.bytes s.rank))))

end Sys2Proof.Machine
end

