-- ==== Sys2Proof/Machine/Dispatch.lean ====
section
/-! DEFINITION. The dispatch: each command to its meaning. -/
namespace Sys2Proof.Machine

def exec (i : Instr) (s : State) : Host.Outcome State Fault Refusal :=
  match i with
  | .supplyReset => Sys2Proof.Machine.execSupplyReset s
  | .supplyResetEnd => Sys2Proof.Machine.execSupplyResetEnd s
  | .loadingEnd inputs => Sys2Proof.Machine.execLoadingEnd inputs s
  | .checkIntervalExpiry => Sys2Proof.Machine.execCheckIntervalExpiry s
  | .scanResult m => Sys2Proof.Machine.execScanResult m s
  | .currentSample shunt => Sys2Proof.Machine.execCurrentSample shunt s
  | .comparatorAssertion shunt => Sys2Proof.Machine.execComparatorAssertion shunt s
  | .comparatorRelease shunt => Sys2Proof.Machine.execComparatorRelease shunt s
  | .shortDelayExpiry => Sys2Proof.Machine.execShortDelayExpiry s
  | .recoveryTimerExpiry k => Sys2Proof.Machine.execRecoveryTimerExpiry k s
  | .releaseTimerExpiry => Sys2Proof.Machine.execReleaseTimerExpiry s
  | .beatPeriodEvent => Sys2Proof.Machine.execBeatPeriodEvent s
  | .haltedBeat => Sys2Proof.Machine.execHaltedBeat s
  | .silenceTimerExpiry rank => Sys2Proof.Machine.execSilenceTimerExpiry rank s
  | .formationTimeout => Sys2Proof.Machine.execFormationTimeout s
  | .holdOffExpiry p => Sys2Proof.Machine.execHoldOffExpiry p s
  | .windowTimerExpiry => Sys2Proof.Machine.execWindowTimerExpiry s
  | .listFullTimerExpiry => Sys2Proof.Machine.execListFullTimerExpiry s
  | .quietTimerExpiry => Sys2Proof.Machine.execQuietTimerExpiry s
  | .feedbackOn p => Sys2Proof.Machine.execFeedbackOn p s
  | .feedbackOff p => Sys2Proof.Machine.execFeedbackOff p s
  | .closeLimitExpiry p => Sys2Proof.Machine.execCloseLimitExpiry p s
  | .openLimitExpiry p => Sys2Proof.Machine.execOpenLimitExpiry p s
  | .stopLineGoingAsserted => Sys2Proof.Machine.execStopLineGoingAsserted s
  | .stopLineGoingReleased => Sys2Proof.Machine.execStopLineGoingReleased s
  | .minimumTimerExpiry => Sys2Proof.Machine.execMinimumTimerExpiry s
  | .driverLimitExpiry => Sys2Proof.Machine.execDriverLimitExpiry s
  | .explanationWindowExpiry => Sys2Proof.Machine.execExplanationWindowExpiry s
  | .stuckTimerExpiry => Sys2Proof.Machine.execStuckTimerExpiry s
  | .mediumIdle => Sys2Proof.Machine.execMediumIdle s
  | .frameStart => Sys2Proof.Machine.execFrameStart s
  | .collision matched echo => Sys2Proof.Machine.execCollision matched echo s
  | .frameSent => Sys2Proof.Machine.execFrameSent s
  | .beat src b => Sys2Proof.Machine.execBeat src b s
  | .notice src e => Sys2Proof.Machine.execNotice src e s
  | .propose src round paths closer count crc => Sys2Proof.Machine.execPropose src round paths closer count crc s
  | .answer src dst round answer reason => Sys2Proof.Machine.execAnswer src dst round answer reason s
  | .proceed src round => Sys2Proof.Machine.execProceed src round s
  | .closed src round => Sys2Proof.Machine.execClosed src round s
  | .complete src round => Sys2Proof.Machine.execComplete src round s
  | .abandon src round => Sys2Proof.Machine.execAbandon src round s
  | .reply src dst payload => Sys2Proof.Machine.execReply src dst payload s
  | .readStatus h args => Sys2Proof.Machine.execReadStatus h args s
  | .readList h args => Sys2Proof.Machine.execReadList h args s
  | .readRoster h args => Sys2Proof.Machine.execReadRoster h args s
  | .readMeasurements h args => Sys2Proof.Machine.execReadMeasurements h args s
  | .readCounters h args => Sys2Proof.Machine.execReadCounters h args s
  | .clearCounters h args => Sys2Proof.Machine.execClearCounters h args s
  | .readConfiguration h args => Sys2Proof.Machine.execReadConfiguration h args s
  | .placeHold h args => Sys2Proof.Machine.execPlaceHold h args s
  | .releaseHold h args => Sys2Proof.Machine.execReleaseHold h args s
  | .clearTripped h args => Sys2Proof.Machine.execClearTripped h args s
  | .resetBudget h args => Sys2Proof.Machine.execResetBudget h args s
  | .restart h args => Sys2Proof.Machine.execRestart h args s
  | .unknownRequest src dst payload => Sys2Proof.Machine.execUnknownRequest src dst payload s
  | .characterReceived e => Sys2Proof.Machine.execCharacterReceived e s

end Sys2Proof.Machine
end

