-- ==== Sys2Proof/WellFormed.lean ====
section
/-!
DEFINITION. Which commands can occur: the ranges the spec gives their operands. The machine gives every command a
meaning, an ill-formed one by the same rules (log entry 20): a frame outside its ranges fails R161 there.
-/
namespace Sys2Proof

/-- A rank a frame may name as source (R158). -/
def rankByteOk (b : Byte) : Bool := decide (1 ≤ b.toNat ∧ b.toNat ≤ 20)

/-- A whole number of pairs, at most 96 (R158). -/
def payloadOk (n : Nat) : Bool := decide (n % 2 = 0 ∧ n ≤ 192)

/-- The phase and switch state codes of a beat lie in their encodings (R161 check 5) and it carries at most 28 records
(R160). -/
def BeatFields.wf (b : BeatFields) : Bool :=
  decide (1 ≤ b.phase.toNat ∧ b.phase.toNat ≤ 4) &&
  decide (1 ≤ b.chargeState.toNat ∧ b.chargeState.toNat ≤ 5) &&
  decide (1 ≤ b.dischargeState.toNat ∧ b.dischargeState.toNat ≤ 5) &&
  decide (b.records.length ≤ 28)

/-- A request's source and destination are ranks (R160) and its payload is whole pairs (R158). -/
def ReqHead.wf (h : ReqHead) (args : List Byte) : Bool :=
  rankByteOk h.src && rankByteOk h.dst && payloadOk (args.length + 2)

/-- The ranges of a command's operands. -/
def Instr.wf : Instr → Bool
  | .supplyReset => true
  | .supplyResetEnd => true
  | .loadingEnd _ => true
  | .checkIntervalExpiry => true
  | .scanResult m => decide (m.taps.length = 16 ∧ m.codes.length = 2)
  | .currentSample _ => true
  | .comparatorAssertion _ => true
  | .comparatorRelease _ => true
  | .shortDelayExpiry => true
  | .recoveryTimerExpiry k => decide (k = .chargeOvercurrent ∨ k = .dischargeOvercurrent ∨ k = .short)
  | .releaseTimerExpiry => true
  | .beatPeriodEvent => true
  | .haltedBeat => true
  | .silenceTimerExpiry r => decide (1 ≤ r ∧ r ≤ 16)
  | .formationTimeout => true
  | .holdOffExpiry _ => true
  | .windowTimerExpiry => true
  | .listFullTimerExpiry => true
  | .quietTimerExpiry => true
  | .feedbackOn _ => true
  | .feedbackOff _ => true
  | .closeLimitExpiry _ => true
  | .openLimitExpiry _ => true
  | .stopLineGoingAsserted => true
  | .stopLineGoingReleased => true
  | .minimumTimerExpiry => true
  | .driverLimitExpiry => true
  | .explanationWindowExpiry => true
  | .stuckTimerExpiry => true
  | .mediumIdle => true
  | .frameStart => true
  | .collision matched _ => decide (matched < 199)
  | .frameSent => true
  | .beat src b => rankByteOk src && b.wf
  | .notice src _ => rankByteOk src
  | .propose src _ _ _ _ _ => rankByteOk src
  | .answer src dst _ _ _ => rankByteOk src && decide (1 ≤ dst.toNat ∧ dst.toNat ≤ 16)
  | .proceed src _ => rankByteOk src
  | .closed src _ => rankByteOk src
  | .complete src _ => rankByteOk src
  | .abandon src _ => rankByteOk src
  | .reply src dst payload => rankByteOk src && rankByteOk dst && payloadOk payload.length
  | .readStatus h args => h.wf args
  | .readList h args => h.wf args
  | .readRoster h args => h.wf args
  | .readMeasurements h args => h.wf args
  | .readCounters h args => h.wf args
  | .clearCounters h args => h.wf args
  | .readConfiguration h args => h.wf args
  | .placeHold h args => h.wf args
  | .releaseHold h args => h.wf args
  | .clearTripped h args => h.wf args
  | .resetBudget h args => h.wf args
  | .restart h args => h.wf args
  | .unknownRequest src dst payload =>
      rankByteOk src && rankByteOk dst && payloadOk payload.length &&
        (payload.isEmpty || decide ((payload.headD 0).toNat = 0 ∨ 12 < (payload.headD 0).toNat))
  | .characterReceived _ => true

end Sys2Proof
end

