-- ==== Sys2Proof/Safety.lean ====
section
/-!
DEFINITION. What the statements speak of: a command completing, the state a command's closing checks leave, how conditions
move, what a departure from a round and a frame do, what frames and replies spell by the spec's tables, which parts of the
station a command may change, and the invariants of the station.
-/
namespace Sys2Proof.Machine

/-- The command answers a next state, and the state is as said. -/
def Completes (c : Instr) (s : State) (Q : State → Prop) : Prop := ∃ t, exec c s = .next t ∧ Q t

/-- `t` is `u` after the checks a command ends with: a hold-off may have restarted, the quiet timer may have started or
stopped, and a station in IDLE may have started a round, whose PROPOSE joined the round slot; nothing else differs
(R100, R102, R105, R132). -/
def EndsAs (u t : State) : Prop :=
  t = { u with
    reclose := { u.reclose with round := t.reclose.round, holdCharge := t.reclose.holdCharge,
                                holdDischarge := t.reclose.holdDischarge }
    budget := { u.budget with quiet := t.budget.quiet }
    link := { u.link with
      rounds := t.link.rounds, sending := t.link.sending, cut := t.link.cut, midCharacter := t.link.midCharacter
      quiet := t.link.quiet
      counters := { u.link.counters with roundsReplaced := t.link.counters.roundsReplaced } } } ∧
  (∀ p, t.reclose.holdOff p = u.reclose.holdOff p ∨ t.reclose.holdOff p = .running u.cfg.holdOffTime) ∧
  (t.budget.quiet = u.budget.quiet ∨ t.budget.quiet = .stopped ∨ t.budget.quiet = .running u.cfg.quietTimeUs) ∧
  (t.reclose.round = u.reclose.round ∧ t.link = u.link ∨
    u.reclose.round = none ∧ ∃ r, t.reclose.round = some r ∧ r.stage = .COLLECTING ∧ r.coordinator = u.rank)

/-- The switch is neither CLOSING nor CLOSED (R139). -/
def Switch.isOff (w : Switch) : Prop := w.state = .OPEN ∨ w.state = .OPENING ∨ w.state = .FAULTED

/-! ### How a condition moves at an evaluation -/

/-- The table of R30 outside TRIPPED and SETTLING: consecutive passing evaluations, counted up to the delay. -/
def DelayMoves (delay : Nat) (trips : Prop) (old new : Cond) : Prop :=
  (old.state = .QUIET →
    (¬ trips → new = old) ∧
    (trips → delay = 1 → new = { state := .TRIPPED, count := 0, timer := .stopped }) ∧
    (trips → delay ≠ 1 → new = { state := .WATCH, count := 1, timer := .stopped })) ∧
  (old.state = .WATCH →
    (¬ trips → new = { state := .QUIET, count := 0, timer := .stopped }) ∧
    (trips → old.count + 1 = delay → new = { state := .TRIPPED, count := 0, timer := .stopped }) ∧
    (trips → old.count + 1 ≠ delay → new = { old with count := old.count + 1 }))

/-- A voltage or thermal kind at a scan result: one recovering result ends TRIPPED (R30, R34 to R38). -/
def ScanMoves (delay : Nat) (trips recovers : Prop) (old new : Cond) : Prop :=
  DelayMoves delay trips old new ∧
  (old.state = .TRIPPED →
    (recovers → new = { state := .QUIET, count := 0, timer := .stopped }) ∧ (¬ recovers → new = old))

/-- An overcurrent kind at a sample, with the recovery time in microseconds (R30, R40). -/
def SampleMoves (delay recovery : Nat) (trips : Prop) (old new : Cond) : Prop :=
  DelayMoves delay trips old new ∧
  (old.state = .TRIPPED →
    (trips ∨ recovery = 0 → new = old) ∧
    (¬ trips → recovery ≠ 0 → new = { old with state := .SETTLING, timer := .running recovery })) ∧
  (old.state = .SETTLING → (trips → new = { old with timer := .running recovery }) ∧ (¬ trips → new = old))

/-- A pack kind at an evaluation: in TRIPPED, consecutive recovering evaluations are counted (R30, R44, R45). -/
def BeatMoves (confirm : Nat) (trips recovers : Prop) (old new : Cond) : Prop :=
  DelayMoves confirm trips old new ∧
  (old.state = .TRIPPED →
    (¬ recovers → new = { old with count := 0 }) ∧
    (recovers → old.count + 1 = confirm → new = { state := .QUIET, count := 0, timer := .stopped }) ∧
    (recovers → old.count + 1 ≠ confirm → new = { old with count := old.count + 1 }))

/-- A pack kind at a beat-period event at which it is not evaluated (R46). -/
def NotEvaluatedMoves (old new : Cond) : Prop :=
  (old.state = .QUIET → new = old) ∧ (old.state = .WATCH → new = { state := .QUIET, count := 0, timer := .stopped }) ∧
  (old.state = .TRIPPED → new = { old with count := 0 })

/-- The beat values of the reporting members: PRESENT, with a beat that reports FORMING, OPERATING or CONFINED (R43). -/
def ReportingBeats (s : State) : List BeatValues :=
  s.roster.filterMap fun e =>
    match e.beat with
    | some b => if e.status = .PRESENT ∧ (b.phase = .FORMING ∨ b.phase = .OPERATING ∨ b.phase = .CONFINED) then some b
                else none
    | none => none

/-- What a roster entry's latest beat reported of a path's switch (R82). -/
def BeatValues.switchState (b : BeatValues) : Path → SwState
  | .charge => b.chargeState
  | .discharge => b.dischargeState

/-- The path is closed at pack level: the own switch is CLOSED and every roster entry holds it CLOSED (R88). -/
abbrev PackClosed (s : State) (p : Path) : Prop :=
  (s.switch p).state = .CLOSED ∧ ∀ e ∈ s.roster, e.beat.map (·.switchState p) = some .CLOSED

/-- The rank is a candidate for coordinator: the own one in OPERATING, or that of a PRESENT entry that reports OPERATING
(R87). -/
def Candidate (s : State) (r : Nat) : Prop :=
  (s.phase = .OPERATING ∧ r = s.rank) ∨
    ∃ e ∈ s.roster, e.rank = r ∧ e.status = .PRESENT ∧ e.beat.map (·.phase) = some .OPERATING

/-- The lower median of a list: as many values as half its length, rounded up, are at or below it, and fewer are below
(R45). -/
def LowerMedian (l : List Int) (m : Int) : Prop :=
  m ∈ l ∧ (l.filter (· < m)).length < (l.length + 1) / 2 ∧ (l.length + 1) / 2 ≤ (l.filter (· ≤ m)).length

/-! ### What leaving a round and a change of conditions do -/

/-- The station has left its round, which the path set met, for a cause of its own: it is in IDLE, or in a round it has just
started on other paths; the closed set's switches are off, the hold-off of the round's paths has restarted, the departure
is counted; from ANSWERED it is the left round; the coordinator, the closer, and a station in CLOSING or CLOSED-WAIT, and no
other, has queued ABANDON (R100, R116, R118, R120). -/
def LeavesRound (met : PathSet) (s t : State) : Prop :=
  ∀ r, s.reclose.round = some r → (∃ p, r.paths.has p = true ∧ met.has p = true) →
    let abandons : Prop := r.role ≠ .member ∨ r.stage = .CLOSING ∨ r.stage = .CLOSED_WAIT
    (t.reclose.round = none ∨
      ∃ r', t.reclose.round = some r' ∧ r'.stage = .COLLECTING ∧ r'.coordinator = s.rank ∧
        ∀ p, r'.paths.has p = true → r.paths.has p = false) ∧
    (∀ p, r.closedSet.has p = true → (t.switch p).isOff) ∧
    (∀ p, r.paths.has p = true → t.reclose.holdOff p = .running s.cfg.holdOffTime) ∧
    t.link.counters.roundsAbandoned = min (s.link.counters.roundsAbandoned + 1) 65535 ∧
    t.reclose.leftRound = (if r.stage = .ANSWERED then some (r.number, r.coordinator) else s.reclose.leftRound) ∧
    (abandons → ∃ f ∈ t.link.rounds, f.dst = 0 ∧ f.content = .abandon (byteOf r.number)) ∧
    (¬ abandons → ∀ f ∈ t.link.rounds, f ∈ s.link.rounds ∨ f.content ≠ .abandon (byteOf r.number))

/-- Both paths. -/
def bothPaths : PathSet := { charge := true, discharge := true }

/-- The paths a kind's record blocks; those of HOLD come with its request (R28). -/
def kindPaths : Kind → PathSet
  | .cellHigh => { charge := true, discharge := false }
  | .cellLow => { charge := false, discharge := true }
  | .chargeOvercurrent => { charge := true, discharge := false }
  | .dischargeOvercurrent => { charge := false, discharge := true }
  | .moduleCold => { charge := true, discharge := false }
  | .hold => { charge := false, discharge := false }
  | _ => bothPaths

/-- An own condition: MEMBER LOST alone has a subject (R28). -/
def CondId.ofStation (id : CondId) : Prop := id.kind = .memberLost ∨ id.subject = none

/-- The condition has entered TRIPPED. -/
def Trips (s t : State) (id : CondId) : Prop :=
  id.ofStation ∧ ((s.conds.get id).state = .QUIET ∨ (s.conds.get id).state = .WATCH) ∧
    (t.conds.get id).state = .TRIPPED

/-- The condition has recovered. -/
def Recovers (s t : State) (id : CondId) : Prop :=
  id.ofStation ∧ ((s.conds.get id).state = .TRIPPED ∨ (s.conds.get id).state = .SETTLING) ∧
    (t.conds.get id).state = .QUIET

/-- The trip id `k` activations after `n`, 255 going to 1 (R33). -/
def tripIdAfter (n : Nat) : Nat → Nat
  | 0 => n
  | k + 1 => if tripIdAfter n k = 255 then 1 else tripIdAfter n k + 1

/-- The NOTICEs of own conditions that trip in the order given, from the next trip id on (R13, R165). -/
def ownNotices (n : Nat) (order : List CondId) : List TxFrame :=
  order.mapIdx fun i id =>
    { dst := 0, collisions := 0
      content := .notice { kind := byteOf id.kind.code, subject := byteOf (id.subject.getD 0)
                           tripId := byteOf (tripIdAfter n i), state := byteOf (kindPaths id.kind).code } }

/-- A count raised by `n` within its bound (R126). -/
def countPlus (limit count n : Nat) : Nat :=
  let bound := if limit = 0 then 255 else limit
  if bound ≤ count then count else min (count + n) bound

/-- What the changes of own conditions do beyond the conditions. Those that trip do so in some order: each has its record
ACTIVE on its kind's paths with the next trip id, its paths' switches are off, a round it meets is left, its NOTICE is queued
while there is room, and it is counted where it is of the current class and the station is not FORMING. Those that
recover have their record CLEARED with trip id and path set kept, and no NOTICE. Every other record stays
(R9 to R11, R13, R22, R23, R31, R33, R116, R126 to R128). -/
def OwnChangesReported (s t : State) : Prop :=
  (∃ order : List CondId, order.Nodup ∧ (∀ id, id ∈ order ↔ Trips s t id) ∧
    t.trips.nextId = tripIdAfter s.trips.nextId order.length ∧
    t.link.notices =
      s.link.notices ++ (ownNotices s.trips.nextId order).take (8 - s.link.notices.length) ∧
    t.budget.epoch = s.budget.epoch ∧
    t.budget.count = (if s.phase = .FORMING then s.budget.count else
      countPlus s.cfg.latchLimit s.budget.count (order.filter (·.kind.currentClass)).length) ∧
    ∀ (i : Nat) (id : CondId), order[i]? = some id →
      (∃ r, findRecord s.rank id.kind id.subject t.trips.records = some r ∧ r.phase = .ACTIVE ∧
        r.tripId = tripIdAfter s.trips.nextId i ∧ r.paths = kindPaths id.kind) ∧
      (∀ p, (kindPaths id.kind).has p = true → (t.switch p).isOff) ∧ LeavesRound (kindPaths id.kind) s t) ∧
  (∀ id, Recovers s t id →
    (findRecord s.rank id.kind id.subject t.trips.records) =
      (findRecord s.rank id.kind id.subject s.trips.records).map fun r => { r with phase := .CLEARED }) ∧
  (∀ x : Record, (∀ id, Trips s t id ∨ Recovers s t id →
      ¬ (x.origin = s.rank ∧ x.kind = id.kind ∧ x.subject = id.subject)) →
    (x ∈ t.trips.records ↔ x ∈ s.trips.records))

/-! ### What the bytes on the pair and in a reply say -/

/-- A CRC as a shift register: each byte is placed against the register's top, and eight shifts take it in, most significant
bit first (R104, R159). -/
def crcRegister {w : Nat} (polynomial start : BitVec w) (place : Byte → BitVec w) (bs : List Byte) : BitVec w :=
  bs.foldl (fun r b => (List.range 8).foldl
    (fun r _ => if r.msb then (r <<< 1) ^^^ polynomial else r <<< 1) (r ^^^ place b)) start

/-- The contents a payload spells by its type code, field by field; pad bytes are not read (R164, R165, R166, R179, R182). -/
def spelledContent (code : Nat) (payload : List Byte) : Content :=
  let p (i : Nat) : Byte := payload.getD i 0
  let two (i : Nat) : Half := p i ++ p (i + 1)
  let record (i : Nat) : EntryBytes := { kind := p i, subject := p (i + 1), tripId := p (i + 2), state := p (i + 3) }
  match code with
  | 1 => .beat
      { phase := p 0, listFull := p 1, seq := two 2, digest := two 4, chargeState := p 6, dischargeState := p 7
        voltage := two 8, current := two 10, epoch := p 12, count := p 13, lastRound := p 14, lastCloser := p 15
        watch := two 16, records := (List.range ((payload.length - 18) / 4)).map fun i => record (18 + 4 * i) }
  | 2 => .notice (record 0)
  | 3 => .propose (p 0) (p 1) (p 2) (p 3) (p 4)
  | 4 => .answer (p 0) (p 1) (p 2)
  | 5 => .proceed (p 0)
  | 6 => .closed (p 0)
  | 7 => .complete (p 0)
  | 8 => .abandon (p 0)
  | 9 => .request payload
  | _ => .reply payload

/-- Checks 4 and 5 of R161: source, type and destination in range, and the destination, the payload length `l` and the BEAT's
codes those of the type (R160, R164). -/
def PassesLastChecks (src code dst l : Nat) (payload : List Byte) : Prop :=
  1 ≤ src ∧ src ≤ 20 ∧ 1 ≤ code ∧ code ≤ 10 ∧ dst ≤ 20 ∧
  (code = 1 → dst = 0 ∧ 9 ≤ l ∧ l ≤ 65 ∧ l % 2 = 1 ∧
    1 ≤ (payload.getD 0 0).toNat ∧ (payload.getD 0 0).toNat ≤ 4 ∧
    1 ≤ (payload.getD 6 0).toNat ∧ (payload.getD 6 0).toNat ≤ 5 ∧
    1 ≤ (payload.getD 7 0).toNat ∧ (payload.getD 7 0).toNat ≤ 5) ∧
  (code = 2 → dst = 0 ∧ l = 2) ∧ (code = 3 → dst = 0 ∧ l = 3) ∧ (code = 4 → 1 ≤ dst ∧ dst ≤ 16 ∧ l = 2) ∧
  (5 ≤ code → code ≤ 8 → dst = 0 ∧ l = 1) ∧ (code = 9 ∨ code = 10 → 1 ≤ dst)

/-- One byte, and the two bytes of a number and of a signed one, most significant first (R158, R182). -/
def oneByte (n : Nat) : List Byte := [BitVec.ofNat 8 n]
def twoBytes (n : Nat) : List Byte := [BitVec.ofNat 8 (n / 256), BitVec.ofNat 8 n]
def twoSigned (i : Int) : List Byte := twoBytes (i % 65536).toNat
def flagByte (b : Bool) : List Byte := [if b = true then 1 else 0]

/-- The code of a phase and of a switch state (R164, R184). -/
def phaseByte : Phase → List Byte
  | .FORMING => [1]
  | .OPERATING => [2]
  | .CONFINED => [3]
  | .HALTED => [4]
  | .LOADING => [0]
def switchByte : SwState → List Byte
  | .OPEN => [1]
  | .CLOSING => [2]
  | .CLOSED => [3]
  | .OPENING => [4]
  | .FAULTED => [5]

/-- The codes of a round's state, number and role (R184). -/
def roundBytes : Option Round → List Byte
  | none => [0, 0, 0]
  | some r =>
      (match r.stage with
       | .COLLECTING => [1] | .ANSWERED => [2] | .CLOSING => [3] | .CLOSED_WAIT => [4] | .GATHERING => [5]
       | .FINISHING => [6]) ++ oneByte r.number ++
      (match r.role with
       | .member => [1] | .closer => [2] | .coordinatorMember => [3] | .coordinatorCloser => [4])

/-- The watch set as a number: bit k - 1 for kind k, 1 to 10, in WATCH (R164). -/
def watchNumber (c : Conds) : Nat :=
  let states := [c.cellHigh, c.cellLow, c.chargeOvercurrent, c.dischargeOvercurrent, c.short, c.moduleHot, c.moduleCold,
    c.dieHot, c.imbalance, c.senseMismatch]
  (states.mapIdx fun i x => if x.state = .WATCH then 2 ^ i else 0).sum

/-! ### What a member's frame brings to the list -/

/-- The path set of one path. -/
def onlyPath : Path → PathSet
  | .charge => { charge := true, discharge := false }
  | .discharge => { charge := false, discharge := true }

/-- The entry `e` of a frame from `src`, in a pack of `n`, is well formed and reads as `x`: kind code, subject, trip id, path
set in bits 0 and 1, phase in bit 7 (R15, R28, R165). -/
def ReadsAs (n src : Nat) (e : EntryBytes) (x : OwnEntry) : Prop :=
  let kinds : List Kind :=
    [.cellHigh, .cellLow, .chargeOvercurrent, .dischargeOvercurrent, .short, .moduleHot, .moduleCold, .dieHot, .imbalance,
     .senseMismatch, .switchFault, .memberLost, .hold, .unexplainedStop]
  1 ≤ e.kind.toNat ∧ kinds[e.kind.toNat - 1]? = some x.kind ∧
  (x.kind = .memberLost →
    x.subject = some e.subject.toNat ∧ 1 ≤ e.subject.toNat ∧ e.subject.toNat ≤ n ∧ e.subject.toNat ≠ src) ∧
  (x.kind ≠ .memberLost → x.subject = none ∧ e.subject = 0) ∧
  e.tripId ≠ 0 ∧ x.tripId = e.tripId.toNat ∧
  x.paths = { charge := e.state.getLsbD 0, discharge := e.state.getLsbD 1 } ∧
  (x.paths.charge = true ∨ x.paths.discharge = true) ∧ (x.kind ≠ .hold → x.paths = kindPaths x.kind) ∧
  x.phase = (if e.state.getLsbD 7 = true then .CLEARED else .ACTIVE)

/-- How many records of other origins still have room beside a list: 64 less the records held and less the own reserve, the
own conditions without a record (R8). -/
def roomBeside (n own : Nat) (l : List Record) : Nat :=
  64 - (l.length + ((12 + n) - (l.filter (·.origin = own)).length))

/-- The record an entry gives its origin, where `old` is the one held under its key: a trip id held already keeps its counted
flag, and a new one of the current class is counted where the station counts (R4, R23, R127, R128). -/
def broughtRecord (counts : Bool) (src : Nat) (x : OwnEntry) (phase : RecPhase) (old : Option Record) : Record :=
  { origin := src, kind := x.kind, subject := x.subject, tripId := x.tripId, paths := x.paths, phase := phase
    stale := false
    counted :=
      match old.filter (·.tripId = x.tripId) with
      | some y => y.counted
      | none => counts && x.kind.currentClass }

/-- The list `l` as the membership unit leaves it after a frame of `src`: the records of a member heard again are not stale,
and the record of its TRIPPED MEMBER LOST condition is CLEARED; as the station leaves FORMING, every current-class record is
counted (R3, R11, R48, R128). -/
def listHeard (src : Nat) (s t : State) (l : List Record) : List Record :=
  let again : Prop := (s.entry src).map (·.status) = some .LOST
  l.map fun x => { x with
    stale := if again ∧ x.origin = src then false else x.stale
    phase := if again ∧ (s.conds.get (lostCond src)).state = .TRIPPED ∧ x.origin = s.rank ∧ x.kind = .memberLost ∧
        x.subject = some src then .CLEARED else x.phase
    counted := x.counted || (decide (s.phase = .FORMING ∧ t.phase ≠ .FORMING) && x.kind.currentClass) }

/-- What leaving FORMING does to the budget: it has joined, at the epoch it held, and one that had not counts every
current-class record not counted yet (R128). -/
def BudgetLeavesForming (s t : State) : Prop :=
  t.budget.joined = true ∧ t.budget.epoch = s.budget.epoch ∧
  t.budget.count = (if s.budget.joined = true then s.budget.count else
    countPlus s.cfg.latchLimit s.budget.count
      (s.trips.records.filter fun x => x.kind.currentClass && !x.counted).length)

/-- Every current-class record of the list is counted (R128). -/
def AllCounted (t : State) : Prop := ∀ x ∈ t.trips.records, x.kind.currentClass = true → x.counted = true

/-! ### How far a command reaches -/

/-- The parts of the station a command may change (INVENTORY.md, State). -/
inductive Block where
  | supply
  | phase
  | store
  | load
  | cfg
  | conflict
  | meas
  | conds
  | trips
  | roster
  | formation
  | beats
  | budget
  | reclose
  | charge
  | discharge
  | stop
  | link
  | restartPending
  deriving DecidableEq, Repr

/-- The part is the same in both states. -/
def Unchanged (s t : State) : Block → Prop
  | .supply => t.supplyLow = s.supplyLow
  | .phase => t.phase = s.phase
  | .store => t.store = s.store
  | .load => t.load = s.load
  | .cfg => t.cfg = s.cfg
  | .conflict => t.conflict = s.conflict
  | .meas => t.meas = s.meas
  | .conds => t.conds = s.conds
  | .trips => t.trips = s.trips
  | .roster => t.roster = s.roster
  | .formation => t.formation = s.formation
  | .beats => t.beats = s.beats
  | .budget => t.budget = s.budget
  | .reclose => t.reclose = s.reclose
  | .charge => t.charge = s.charge
  | .discharge => t.discharge = s.discharge
  | .stop => t.stop = s.stop
  | .link => t.link = s.link
  | .restartPending => t.restartPending = s.restartPending

/-- What the start test, the quiet timer and the hold-offs may change at the end of a command (R100, R102, R132). -/
def closingReach : List Block := [.reclose, .budget, .link]

/-- A change of the trip list: the list, the budget's count, the switches, the round and its frames (R22, R23). -/
def listReach : List Block := [.trips, .charge, .discharge] ++ closingReach

/-- A change of conditions: the conditions and all a change of the list reaches (R31). -/
def condReach : List Block := .conds :: listReach

/-- A frame received (R163). -/
def frameReach : List Block :=
  [.phase, .conflict, .roster, .formation, .stop, .restartPending] ++ condReach

end Sys2Proof.Machine

namespace Sys2Proof

open Machine

/-- The other path. -/
def Path.other : Path → Path
  | .charge => .discharge
  | .discharge => .charge

/-- The parts of the station each command may change. A sent or dropped frame may be the reply that a pending restart
waits for (R205). -/
def Instr.reach : Instr → List Block
  | .supplyResetEnd => [.supply, .phase, .load]
  | .checkIntervalExpiry => [.meas]
  | .scanResult _ => .meas :: condReach
  | .currentSample _ => .meas :: condReach
  | .comparatorAssertion _ => [.meas, .stop] ++ condReach
  | .comparatorRelease _ => [.meas, .conds] ++ closingReach
  | .shortDelayExpiry => .stop :: condReach
  | .recoveryTimerExpiry _ => condReach
  | .releaseTimerExpiry => condReach
  | .beatPeriodEvent => [.meas, .beats] ++ condReach
  | .haltedBeat => [.beats, .link]
  | .silenceTimerExpiry _ => [.phase, .roster, .formation] ++ condReach
  | .formationTimeout => [.roster, .formation] ++ condReach
  | .holdOffExpiry _ => closingReach
  | .windowTimerExpiry => [.charge, .discharge] ++ closingReach
  | .listFullTimerExpiry => .trips :: closingReach
  | .quietTimerExpiry => closingReach
  | .feedbackOn _ => listReach
  | .feedbackOff _ => condReach
  | .closeLimitExpiry _ => condReach
  | .openLimitExpiry _ => condReach
  | .stopLineGoingAsserted => [.conds, .stop, .charge, .discharge] ++ closingReach
  | .stopLineGoingReleased => [.conds, .stop] ++ closingReach
  | .minimumTimerExpiry => [.conds, .stop]
  | .driverLimitExpiry => [.conds, .stop]
  | .explanationWindowExpiry => .stop :: condReach
  | .stuckTimerExpiry => .stop :: condReach
  | .frameStart => [.link]
  | .characterReceived _ => [.link]
  | .mediumIdle => frameReach
  | .beat _ _ => frameReach
  | .notice _ _ => frameReach
  | .propose _ _ _ _ _ _ => frameReach
  | .answer _ _ _ _ _ => frameReach
  | .proceed _ _ => frameReach
  | .closed _ _ => frameReach
  | .complete _ _ => frameReach
  | .abandon _ _ => frameReach
  | .reply _ _ _ => frameReach
  | .readStatus _ _ => frameReach
  | .readList _ _ => frameReach
  | .readRoster _ _ => frameReach
  | .readMeasurements _ _ => frameReach
  | .readCounters _ _ => frameReach
  | .clearCounters _ _ => frameReach
  | .readConfiguration _ _ => frameReach
  | .placeHold _ _ => frameReach
  | .releaseHold _ _ => frameReach
  | .clearTripped _ _ => frameReach
  | .resetBudget _ _ => frameReach
  | .restart _ _ => frameReach
  | .unknownRequest _ _ _ => frameReach
  | .supplyReset => [.meas, .supply, .load, .cfg, .beats] ++ frameReach
  | .loadingEnd _ => [.store, .meas, .supply, .load, .cfg, .beats] ++ frameReach
  | .collision _ _ => [.meas, .supply, .load, .cfg, .beats] ++ frameReach
  | .frameSent => [.meas, .supply, .load, .cfg, .beats] ++ frameReach

/-- The commands a station takes only while it works, in FORMING, OPERATING and CONFINED: measurement, conditions, roster,
rounds, list, budget, switches and stop line (R54, R56, R75, R146, R155, R203). -/
def Instr.atWork : Instr → Bool
  | .checkIntervalExpiry => true
  | .scanResult _ => true
  | .currentSample _ => true
  | .comparatorAssertion _ => true
  | .comparatorRelease _ => true
  | .shortDelayExpiry => true
  | .recoveryTimerExpiry _ => true
  | .releaseTimerExpiry => true
  | .beatPeriodEvent => true
  | .silenceTimerExpiry _ => true
  | .formationTimeout => true
  | .holdOffExpiry _ => true
  | .windowTimerExpiry => true
  | .listFullTimerExpiry => true
  | .quietTimerExpiry => true
  | .feedbackOn _ => true
  | .feedbackOff _ => true
  | .closeLimitExpiry _ => true
  | .openLimitExpiry _ => true
  | .stopLineGoingAsserted => true
  | .stopLineGoingReleased => true
  | .minimumTimerExpiry => true
  | .driverLimitExpiry => true
  | .explanationWindowExpiry => true
  | .stuckTimerExpiry => true
  | _ => false

/-- The commands a station in LOADING takes (R157, R200, R204). -/
def Instr.ofReset : Instr → Bool
  | .supplyReset => true
  | .supplyResetEnd => true
  | .loadingEnd _ => true
  | _ => false

/-- The rows that are frames of a member, as a source sends them, each well formed (R160, R164, R166). -/
def Instr.isMemberFrame (src : Byte) (c : Instr) : Prop :=
  (∃ b, b.wf = true ∧ c = .beat src b) ∨ (∃ n, c = .notice src n) ∨
  (∃ round paths closer count crc, c = .propose src round paths closer count crc) ∨
  (∃ dst round answer reason, 1 ≤ dst.toNat ∧ dst.toNat ≤ 16 ∧ c = .answer src dst round answer reason) ∨
  (∃ round, c = .proceed src round ∨ c = .closed src round ∨ c = .complete src round ∨ c = .abandon src round) ∨
  (∃ dst payload, rankByteOk dst = true ∧ payload.length % 2 = 0 ∧ payload.length ≤ 192 ∧ c = .reply src dst payload)

/-- The round number of the frames that go on with a round: ANSWER, PROCEED, CLOSED, COMPLETE and ABANDON (R106). -/
def Instr.roundNumber : Instr → Option Nat
  | .answer _ _ round _ _ => some round.toNat
  | .proceed _ round => some round.toNat
  | .closed _ round => some round.toNat
  | .complete _ round => some round.toNat
  | .abandon _ round => some round.toNat
  | _ => none

/-- The code, head and arguments of the twelve rows that are requests (R179). -/
def Instr.request : Instr → Option (Byte × ReqHead × List Byte)
  | .readStatus h args => some (1, h, args)
  | .readList h args => some (2, h, args)
  | .readRoster h args => some (3, h, args)
  | .readMeasurements h args => some (4, h, args)
  | .readCounters h args => some (5, h, args)
  | .clearCounters h args => some (6, h, args)
  | .readConfiguration h args => some (7, h, args)
  | .placeHold h args => some (8, h, args)
  | .releaseHold h args => some (9, h, args)
  | .clearTripped h args => some (10, h, args)
  | .resetBudget h args => some (11, h, args)
  | .restart h args => some (12, h, args)
  | _ => none

/-- The rows that are requests, as a source sends them, each well formed (R158, R160, R179). -/
def Instr.isRequest (src : Byte) (c : Instr) : Prop :=
  (∃ code h args, c.request = some (code, h, args) ∧ h.src = src ∧ rankByteOk h.dst = true ∧ args.length % 2 = 0 ∧
    args.length ≤ 190) ∨
  (∃ dst payload, rankByteOk dst = true ∧ payload.length % 2 = 0 ∧ payload.length ≤ 192 ∧
    c = .unknownRequest src dst payload)

end Sys2Proof

namespace Sys2Proof.Machine

/-! ### Invariants -/

/-- The queues hold no more than their capacity (R172). -/
def Link.withinCapacity (l : Link) : Prop := l.notices.length ≤ 8 ∧ l.rounds.length ≤ 2

/-- Every counter is within 16 bits (00, Counters). -/
def Counters.within (c : Counters) : Prop := ∀ n ∈ c.list, n ≤ 65535

/-- The link keeps its capacities and its counters their width (R172, R177). -/
def LinkBounded (s : State) : Prop := s.link.withinCapacity ∧ s.link.counters.within

/-- A station held in reset is in LOADING (R204; log entry 22). -/
def ResetIsLoading (s : State) : Prop := s.supplyLow = true → s.phase = .LOADING

/-- The gate is driven in CLOSING and CLOSED and off in the other three states (R137). -/
def Switch.gateMatches (w : Switch) : Prop := w.gate = true ↔ (w.state = .CLOSING ∨ w.state = .CLOSED)

/-- Each gate is as its switch's state has it, and a held path's switch is OPEN, OPENING or FAULTED (R137, R139). -/
def HeldPathsOff (s : State) : Prop :=
  ResetIsLoading s ∧ s.charge.gateMatches ∧ s.discharge.gateMatches ∧ ∀ p, s.held p = true → (s.switch p).isOff

/-- The station takes part in rounds in OPERATING alone, holds an empty list in LOADING and HALTED, and drives the stop
line only while SHORT is TRIPPED (R27, R42, R123). -/
def PhaseDiscipline (s : State) : Prop :=
  ResetIsLoading s ∧ (s.reclose.round.isSome = true → s.phase = .OPERATING) ∧
  (s.working = false → s.trips.records = [] ∧ s.trips.full = false) ∧
  (s.stop.driving = true → s.conds.short.state = .TRIPPED ∧ s.working = true)

/-- What a load leaves for good: a HALTED station's roster is empty; a working station's configuration passed its checks, its
rank is a member's, its roster holds one entry and its condition set one MEMBER LOST for each other rank, and while it is
OPERATING no PRESENT entry holds digest match NO (R28, R73, R91, R93, R94, R200, R201, R203). -/
def Formed (s : State) : Prop :=
  ResetIsLoading s ∧ (s.phase = .HALTED → s.roster = []) ∧
  (s.working = true → s.cfg.rangesOk = true ∧ s.cfg.relationsOk = true ∧ s.rank ≤ s.cfg.memberCount ∧
    s.roster.map (·.rank) = rosterRanks s.cfg.memberCount s.rank ∧
    s.conds.lost.map (·.subject) = rosterRanks s.cfg.memberCount s.rank) ∧
  (s.phase = .OPERATING → ∀ e ∈ s.roster, ¬ (e.status = .PRESENT ∧ (e.beat.map (·.digestMatch)) = some false))

/-- The quiet timer runs exactly while the four conditions of R132 hold at a working station: it is its own coordinator, the
count is above 0, both paths are closed at pack level, and the list holds no current-class record. -/
def QuietTimed (s : State) : Prop :=
  ResetIsLoading s ∧
  (s.budget.quiet.isRunning = true ↔ s.working = true ∧ s.coordinator = some s.rank ∧ 0 < s.budget.count ∧
    s.packClosed .charge = true ∧ s.packClosed .discharge = true ∧
    ∀ r ∈ s.trips.records, r.kind.currentClass = false)

/-- The count is within its bound, and 0 where no configuration is in force (R126, R136). -/
def BudgetBounded (s : State) : Prop :=
  ResetIsLoading s ∧ s.budget.count ≤ countBound s.cfg.latchLimit ∧
  (s.working = false → s.budget.epoch = 0 ∧ s.budget.count = 0 ∧ s.budget.joined = false)

/-- The key of a record (R5). -/
def Record.key (r : Record) : Nat × Kind × Option Nat := (r.origin, r.kind, r.subject)

/-- No two records share origin, kind and subject (R5). -/
def UniqueKeys (s : State) : Prop := (s.trips.records.map Record.key).Nodup

/-- A member number other than the own. -/
def State.otherMember (s : State) (r : Nat) : Prop := 1 ≤ r ∧ r ≤ s.cfg.memberCount ∧ r ≠ s.rank

/-- The list with the own reserve fits in 64: the roster is of other members, the own records are of the own conditions,
one a condition, and what they leave of the reserve still fits (R5, R8, R28, R73). -/
def ListBounded (s : State) : Prop :=
  ResetIsLoading s ∧ UniqueKeys s ∧ s.cfg.memberCount ≤ 16 ∧
  (s.working = false → s.trips.records = []) ∧
  (s.working = true → s.rank ≤ s.cfg.memberCount ∧ ∀ e ∈ s.roster, s.otherMember e.rank) ∧
  (∀ r ∈ s.trips.records, r.origin = s.rank →
    (r.kind = .memberLost → ∃ j, r.subject = some j ∧ s.otherMember j) ∧ (r.kind ≠ .memberLost → r.subject = none)) ∧
  s.trips.records.length + ownReserve s.cfg.memberCount s.rank s.trips.records ≤ 64

end Sys2Proof.Machine
end

