-- ==== Sys2Proof/Certificates/Slice0/Obligations.lean ====
section
/-!
DEFINITION. The statements about the station, for the provers. `Completes c s Q`: the command `c` answers a next state
and `Q` holds of it. `EndsAs u t`: `t` is `u` but for what a command's closing checks may do (both in Safety.lean).
-/

open Sys2Proof Sys2Proof.Machine

/-! ### Step and commands -/

/-- A step takes the command at the front of the queue and runs it on the station with the queue's rest. -/
def Obligations.FrontCommandRuns : Prop :=
  ∀ (c : Instr) (rest : List Instr) (s : State),
    step { s with pending := c :: rest } = exec c { s with pending := rest }

/-- Every command answers a next state, which leaves the queue and every part of the station out of the command's reach as
they were; the configuration block, once written, stays the same under every command. A station that does not work (LOADING,
HALTED) is left as it is by every command taken only at work, and a station in LOADING by every command but those of reset
and loading (R54, R56, R75, R146, R155, R157, R197, R201, R203). -/
def Obligations.EveryCommandAnswers : Prop :=
  (∀ (c : Instr) (s : State), Completes c s fun t =>
    t.pending = s.pending ∧ (s.store.written = true → t.store = s.store) ∧ ∀ b, b ∉ c.reach → Unchanged s t b) ∧
  (∀ (c : Instr) (s : State), s.working = false → c.atWork = true → exec c s = .next s) ∧
  (∀ (c : Instr) (s : State), s.phase = .LOADING → s.link.sending = none → c.ofReset = false → exec c s = .next s)

/-! ### Resets and loading -/

/-- A supply reset puts every block in its reset state and holds the station in reset: among the rest both hold-off timers
and both limit timers stop, the burst in progress is discarded, and no configuration is in force (R124, R146, R178, R201,
R204). The configuration block stays (R197). Its end begins LOADING with its 2 ms (R200). What the loader read last stays,
notice confirmed is no, and the phase in reset is LOADING (the model's choices, log entries 18, 33 and 22). -/
def Obligations.SupplyResetThenLoading : Prop :=
  (∀ s : State, Completes .supplyReset s fun t =>
    t.supplyLow = true ∧ t.phase = .LOADING ∧
    t.trips.records = [] ∧ t.trips.full = false ∧ t.trips.fullTimer = .stopped ∧ t.trips.nextId = 1 ∧
    t.conds = Conds.reset ∧ t.meas = Meas.reset ∧
    t.roster = s.roster.map (fun e =>
      { rank := e.rank, status := .EXPECTED, beat := none, missed := 0, restarts := 0, silence := .stopped }) ∧
    t.formation = .stopped ∧ t.conflict = false ∧ t.beats.seq = 0 ∧ t.beats.timer = .stopped ∧
    t.budget.epoch = 0 ∧ t.budget.count = 0 ∧ t.budget.joined = false ∧ t.budget.quiet = .stopped ∧
    t.reclose.round = none ∧ t.reclose.leftRound = none ∧ t.reclose.lastRound = 0 ∧
    t.reclose.holdCharge = .stopped ∧ t.reclose.holdDischarge = .stopped ∧
    t.charge.state = .OPEN ∧ t.charge.gate = false ∧ t.discharge.state = .OPEN ∧ t.discharge.gate = false ∧
    t.charge.limit = .stopped ∧ t.discharge.limit = .stopped ∧ t.cfg = Cfg.none ∧ t.store = s.store ∧
    t.stop = { driving := false, minTimer := .stopped, limit := .stopped, awaited := none, confirmed := false,
               sense := false, window := .stopped, stuck := .stopped } ∧
    t.link.burst = [] ∧ t.link.notices = [] ∧ t.link.rounds = [] ∧ t.link.beat = none ∧ t.link.reply = none ∧ t.link.sending = none ∧
    t.link.counters = Counters.zero ∧ t.restartPending = false ∧
    t.load = { s.load with timer := .stopped }) ∧
  (∀ s : State, s.supplyLow = true →
    exec .supplyResetEnd s =
      .next { s with supplyLow := false, phase := .LOADING, load := { s.load with timer := .running 2000 } })

/-- A load that fails a check enters HALTED with the check's halt cause: no roster, no configuration in force, the beat
timer at rank times 1.25 ms, the medium taken as busy, and nothing else changed (R157, R200, R203). The block is the one
the storage holds, or at the first load the one it was written with (R197, R201; log entry 8). That the hold-off timers stay
stopped is the model's reading of R100 and R124 (log entry 19). -/
def Obligations.FailedLoadHalts : Prop :=
  ∀ (i : LoadInputs) (s : State) (st : Store), s.phase = .LOADING → s.supplyLow = false →
    st = (if s.store.written = true then s.store else { block := i.block, written := true }) →
    haltCauseOf st.block.toList (i.strap.toNat + 1) ≠ 0 →
    exec (.loadingEnd i) s = .next { s with
      phase := .HALTED
      store := st
      load := { timer := .stopped, strap := i.strap, digest := crc16 (st.block.toList.take 44)
                haltCause := haltCauseOf st.block.toList (i.strap.toNat + 1) }
      cfg := Cfg.none
      roster := []
      beats := { s.beats with timer := .running ((i.strap.toNat + 1) * 1250) }
      link := { s.link with busy := true, discarding := true, burst := [], midCharacter := false, quiet := 0 } }

/-- A load that passes every check enters FORMING with halt cause 0: the block's values come into force, the roster holds
one EXPECTED entry for each other rank, with the counts of the entry held before, 0 where none was, a QUIET MEMBER LOST
condition each, the run begins, and the formation, beat and hold-off timers start (R56, R73, R75, R76, R89, R100, R124,
R200, R206). The block is the one the storage holds, or at the first load
the one it was written with (R197, R201; log entry 8). From the reset state of the conditions, the switches and the stop
line: a feedback that is on is one in OPEN (R146); an asserted comparator acts on SHORT as an assertion, so that a short
delay of 0 trips it and pulls the line and any other puts it in WATCH (R41, R69, R148), with a count of 0, the model's choice (log
entry 35); an asserted stop line is sensed
going asserted, with a window that only an own SHORT trip, taken after it, satisfies (R150, R152, R155; any order, R202). -/
def Obligations.PassedLoadForms : Prop :=
  (∀ (i : LoadInputs) (s : State) (st : Store), s.phase = .LOADING → s.supplyLow = false → PhaseDiscipline s →
    st = (if s.store.written = true then s.store else { block := i.block, written := true }) →
    haltCauseOf st.block.toList (i.strap.toNat + 1) = 0 →
    Completes (.loadingEnd i) s fun t =>
      t.phase = .FORMING ∧ t.load.haltCause = 0 ∧ t.store = st ∧ t.load.strap = i.strap ∧
      t.load.digest = crc16 (st.block.toList.take 44) ∧ t.cfg = Cfg.ofBlock st.block.toList ∧
      t.roster.map (·.rank) = rosterRanks t.cfg.memberCount t.rank ∧
      (∀ e ∈ t.roster, e.status = .EXPECTED ∧ e.beat = none ∧ e.silence = .stopped ∧
        e.missed = ((s.entry e.rank).map (·.missed)).getD 0 ∧ e.restarts = ((s.entry e.rank).map (·.restarts)).getD 0) ∧
      t.conds.lost = (rosterRanks t.cfg.memberCount t.rank).map (fun r =>
        { subject := r, cond := { state := .QUIET, count := 0, timer := .stopped } }) ∧
      t.formation = .running (10 * t.cfg.tBeat) ∧ t.beats.timer = .running (t.rank * t.cfg.tBeat / 16) ∧
      t.reclose.holdCharge = .running t.cfg.holdOffTime ∧ t.reclose.holdDischarge = .running t.cfg.holdOffTime ∧
      t.reclose.lastCloser = t.cfg.memberCount ∧ t.reclose.lastRound = s.reclose.lastRound ∧
      t.meas.checkTimer = .running t.cfg.checkIntervalUs ∧ t.meas.scanTimer = .running 4000 ∧
      t.meas.sampleTimer = .running 250 ∧ t.meas.sum = 0 ∧ t.meas.number = 0 ∧
      t.meas.bias = (t.cfg.thermistors != 0) ∧ t.meas.comparator = comparatorRises t.cfg i.shunt ∧
      t.stop.sense = (i.stopLine || s.stop.sense) ∧ t.link.busy = true ∧ t.link.discarding = true) ∧
  (∀ (i : LoadInputs) (s : State) (st : Store), s.phase = .LOADING → s.supplyLow = false → PhaseDiscipline s →
    st = (if s.store.written = true then s.store else { block := i.block, written := true }) →
    haltCauseOf st.block.toList (i.strap.toNat + 1) = 0 →
    s.conds = Conds.reset → s.charge = Switch.reset → s.discharge = Switch.reset → s.stop = StopLine.reset →
    Completes (.loadingEnd i) s fun t =>
      let asserted : Prop := (t.cfg.shortThreshold : Int) * 20000 < -i.shunt
      (∀ p, t.switch p =
        if (match p with | .charge => i.feedbackCharge | .discharge => i.feedbackDischarge) = true then
          { state := .OPENING, gate := false, feedback := true, limit := .running 1000 }
        else { state := .OPEN, gate := false, feedback := false, limit := .stopped }) ∧
      (¬ asserted → t.conds.short = { state := .QUIET, count := 0, timer := .stopped } ∧ t.stop.driving = false) ∧
      (asserted → t.cfg.shortDelayUs ≠ 0 →
        t.conds.short = { state := .WATCH, count := 0, timer := .running t.cfg.shortDelayUs } ∧
        t.stop.driving = false) ∧
      (asserted → t.cfg.shortDelayUs = 0 →
        t.conds.short = { state := .TRIPPED, count := 0, timer := .stopped } ∧ t.stop.driving = true ∧
        t.stop.minTimer = .running 1000 ∧ t.stop.limit = .running 10000 ∧ t.stop.awaited = some s.trips.nextId ∧
        (∃ r, findRecord t.rank .short none t.trips.records = some r ∧ r.phase = .ACTIVE ∧
          r.tripId = s.trips.nextId ∧ r.paths = { charge := true, discharge := true })) ∧
      { t.conds with short := s.conds.short, lost := s.conds.lost } = s.conds ∧
      (i.stopLine = true →
        t.stop.sense = true ∧ t.stop.stuck = .running 100000 ∧
        (t.stop.window = .running 20000 ∨ asserted ∧ t.cfg.shortDelayUs = 0 ∧ t.stop.window = .stopped)) ∧
      (i.stopLine = false → t.stop.sense = false ∧ t.stop.stuck = .stopped ∧ t.stop.window = .stopped))

/-! ### Measurement and conditions -/

/-- The check-interval timer's expiry starts a scan and restarts the timer, and changes nothing else (R57, R60). A scan
result replaces the latest one, turns the bias off and moves the five scan kinds, each by its own tests and delay, and no
other condition (R34 to R38, R62). The tests, kind by kind: CELL HIGH trips above its threshold and recovers at or below it
less the hysteresis, CELL LOW the other way round, each recovering by no scan with a hysteresis of 0; MODULE HOT trips on
any used code below the hot code and recovers with every one at or above the hot recovery code, MODULE COLD the other way
round; DIE HOT trips above its threshold and recovers at or below its recovery temperature (R30, R34 to R38). The kinds that
trip, in whatever order, and those that recover are reported to the list (R9 to R11, R13, R22, R31, R62). -/
def Obligations.ScanCycle : Prop :=
  (∀ s : State, s.working = true →
    exec .checkIntervalExpiry s = .next { s with
      meas := { s.meas with scanTimer := .running 4000, checkTimer := .running s.cfg.checkIntervalUs,
                            bias := s.cfg.thermistors != 0 } }) ∧
  (∀ (m : ScanInputs) (s : State), s.working = true → Completes (.scanResult m) s fun t =>
    let r := scanOf s.cfg m
    t.meas = { s.meas with scan := some r, scanTimer := .stopped, bias := false } ∧
    t.conds = { s.conds with
      cellHigh := (Cond.onScan s.cfg.cellHighDelay (highTrips s.cfg r)
        (s.cfg.cellHighHyst != 0 && highRecovers s.cfg r) s.conds.cellHigh).1
      cellLow := (Cond.onScan s.cfg.cellLowDelay (lowTrips s.cfg r)
        (s.cfg.cellLowHyst != 0 && lowRecovers s.cfg r) s.conds.cellLow).1
      moduleHot := (Cond.onScan s.cfg.hotDelay (hotTrips s.cfg r) (hotRecovers s.cfg r) s.conds.moduleHot).1
      moduleCold := (Cond.onScan s.cfg.coldDelay (coldTrips s.cfg r) (coldRecovers s.cfg r) s.conds.moduleCold).1
      dieHot := (Cond.onScan s.cfg.dieDelay (dieTrips s.cfg r) (dieRecovers s.cfg r) s.conds.dieHot).1 } ∧
    t.roster = s.roster ∧ t.stop = s.stop ∧ t.phase = s.phase ∧ t.beats = s.beats ∧ t.cfg = s.cfg ∧
    t.budget.epoch = s.budget.epoch ∧ t.reclose.lastRound = s.reclose.lastRound ∧
    (UniqueKeys s → HeldPathsOff s → OwnChangesReported s t)) ∧
  (∀ (m : ScanInputs) (s : State), s.working = true → Formed s → Completes (.scanResult m) s fun t =>
    ∃ r, t.meas.scan = some r ∧
      ScanMoves s.cfg.cellHighDelay (∃ v ∈ r.cells, s.cfg.cellHigh < v)
        (s.cfg.cellHighHyst ≠ 0 ∧ ∀ v ∈ r.cells, v + s.cfg.cellHighHyst ≤ s.cfg.cellHigh)
        s.conds.cellHigh t.conds.cellHigh ∧
      ScanMoves s.cfg.cellLowDelay (∃ v ∈ r.cells, v < s.cfg.cellLow)
        (s.cfg.cellLowHyst ≠ 0 ∧ ∀ v ∈ r.cells, s.cfg.cellLow + s.cfg.cellLowHyst ≤ v)
        s.conds.cellLow t.conds.cellLow ∧
      ScanMoves s.cfg.hotDelay (∃ x ∈ r.codes, x < s.cfg.hotCode) (∀ x ∈ r.codes, s.cfg.hotRecovery ≤ x)
        s.conds.moduleHot t.conds.moduleHot ∧
      ScanMoves s.cfg.coldDelay (∃ x ∈ r.codes, s.cfg.coldCode < x) (∀ x ∈ r.codes, x ≤ s.cfg.coldRecovery)
        s.conds.moduleCold t.conds.moduleCold ∧
      ScanMoves s.cfg.dieDelay ((s.cfg.dieThreshold : Int) < r.die) (r.die ≤ (s.cfg.dieRecovery : Int))
        s.conds.dieHot t.conds.dieHot)

/-- The die temperature of a scan result is the sensor's, from -40 to 150, whatever thermistor inputs are in use (R61);
the cell readings are the tap differences from 0 to 5000, one per configured cell (R58). -/
def Obligations.ScanReadingsClamped : Prop :=
  ∀ (m : ScanInputs) (s : State), s.working = true → Completes (.scanResult m) s fun t =>
    ∃ r, t.meas.scan = some r ∧
      -40 ≤ r.die ∧ r.die ≤ 150 ∧ (m.die < -40 → r.die = -40) ∧ (150 < m.die → r.die = 150) ∧
      (-40 ≤ m.die → m.die ≤ 150 → r.die = m.die) ∧
      r.cells.length = s.cfg.cellCount ∧ r.codes.length = s.cfg.thermistors ∧
      (∀ (j : Nat) (x : Int), j < s.cfg.cellCount → m.taps[j]? = some x →
        ∃ c : Nat, r.cells[j]? = some c ∧ c ≤ 5000 ∧ (x ≤ 0 → c = 0) ∧ (5000 < x → c = 5000) ∧
          (0 ≤ x → x ≤ 5000 → (c : Int) = x))

/-- A shunt sample replaces the latest one, joins the open window and moves the two overcurrent kinds and no other
condition (R39, R40, R65); it is rounded toward zero to 10 microvolt units and stays within full scale (R64). A sample trips
CHARGE OVERCURRENT above 100 times the OC threshold and DISCHARGE OVERCURRENT below minus 100 times the OD threshold, with a
delay of four samples a millisecond; TRIPPED goes to SETTLING at the first other sample, and a further one restarts the
recovery timer (R30, R39, R40). The kinds that trip are reported to the list, and counted outside FORMING (R9, R10, R13, R22,
R23, R31, R126 to R128). -/
def Obligations.SampleJoinsAndEvaluates : Prop :=
  (∀ x : Int, -32000 ≤ sampleOf x ∧ sampleOf x ≤ 32000 ∧
    (320000 < x → sampleOf x = 32000) ∧ (x < -320000 → sampleOf x = -32000) ∧
    (0 ≤ x → x ≤ 320000 → sampleOf x * 10 ≤ x ∧ x < sampleOf x * 10 + 10) ∧
    (x ≤ 0 → -320000 ≤ x → x ≤ sampleOf x * 10 ∧ sampleOf x * 10 - 10 < x)) ∧
  (∀ (uV : Int) (s : State), s.working = true → Completes (.currentSample uV) s fun t =>
    let x := sampleOf uV
    t.meas = { s.meas with sample := some x, sum := s.meas.sum + x, number := s.meas.number + 1,
                           sampleTimer := .running 250 } ∧
    t.conds = { s.conds with
      chargeOvercurrent :=
        (Cond.onSample (4 * s.cfg.ocDelay) s.cfg.recoveryTimeUs (ocTrips s.cfg x) s.conds.chargeOvercurrent).1
      dischargeOvercurrent :=
        (Cond.onSample (4 * s.cfg.odDelay) s.cfg.recoveryTimeUs (odTrips s.cfg x) s.conds.dischargeOvercurrent).1 } ∧
    t.roster = s.roster ∧ t.stop = s.stop ∧ t.phase = s.phase ∧ t.beats = s.beats ∧ t.cfg = s.cfg ∧
    t.budget.epoch = s.budget.epoch ∧ (UniqueKeys s → HeldPathsOff s → OwnChangesReported s t)) ∧
  (∀ (uV : Int) (s : State), s.working = true → Completes (.currentSample uV) s fun t =>
    ∃ x, t.meas.sample = some x ∧
      SampleMoves (4 * s.cfg.ocDelay) (s.cfg.recoveryTime * 100000) (100 * (s.cfg.ocThreshold : Int) < x)
        s.conds.chargeOvercurrent t.conds.chargeOvercurrent ∧
      SampleMoves (4 * s.cfg.odDelay) (s.cfg.recoveryTime * 100000) (x < -(100 * (s.cfg.odThreshold : Int)))
        s.conds.dischargeOvercurrent t.conds.dischargeOvercurrent)

/-- The table of R30 for a delayed kind outside TRIPPED and SETTLING, and that a trip is reported exactly where the
condition enters TRIPPED. -/
def Obligations.DelayedKindTable : Prop :=
  ∀ (delay : Nat) (c : Cond), 1 ≤ delay → c.timer = .stopped →
    (c.state = .QUIET → c.count = 0 →
      Cond.delayed delay false c = (c, .none) ∧
      (delay = 1 → Cond.delayed delay true c = ({ state := .TRIPPED, count := 0, timer := .stopped }, .trip)) ∧
      (delay ≠ 1 → Cond.delayed delay true c = ({ state := .WATCH, count := 1, timer := .stopped }, .none))) ∧
    (c.state = .WATCH →
      Cond.delayed delay false c = ({ state := .QUIET, count := 0, timer := .stopped }, .none) ∧
      (c.count + 1 = delay →
        Cond.delayed delay true c = ({ state := .TRIPPED, count := 0, timer := .stopped }, .trip)) ∧
      (c.count + 1 ≠ delay → Cond.delayed delay true c = ({ c with count := c.count + 1 }, .none)))

/-- The assertion of a released comparator at SHORT, by its state (R41, R68, R69, R148): with a short delay of 0 it trips, is
reported to the list (R9, R10, R31), and pulls the line; with any other it is in WATCH, with a count of 0, the model's choice
(log entry 35). The release of an asserted comparator, by its state (R41, R42, R68, R69): from TRIPPED it settles where the
line is released and the recovery time is not 0; nothing but the comparator and SHORT changes. Only changes are delivered:
an assertion of an asserted comparator and a release of a released one change nothing (R69; log entry 29). -/
def Obligations.ComparatorMovesShort : Prop :=
  (∀ (shunt : Int) (s : State), s.working = true → s.meas.comparator = false →
      (s.cfg.shortThreshold : Int) * 20000 < -shunt →
      Completes (.comparatorAssertion shunt) s fun t =>
        t.meas = { s.meas with comparator := true } ∧
        { t.conds with short := s.conds.short } = s.conds ∧ t.roster = s.roster ∧ t.phase = s.phase ∧
        (s.conds.short.state = .QUIET → s.cfg.shortDelayUs = 0 →
          t.conds.short = { state := .TRIPPED, count := 0, timer := .stopped } ∧ t.stop.driving = true ∧
          t.stop.minTimer = .running 1000 ∧ t.stop.limit = .running 10000 ∧ t.stop.window = .stopped) ∧
        (s.conds.short.state = .QUIET → s.cfg.shortDelayUs ≠ 0 →
          t.conds.short = { state := .WATCH, count := 0, timer := .running s.cfg.shortDelayUs } ∧
          t.trips = s.trips ∧ t.stop = s.stop) ∧
        (s.conds.short.state = .WATCH ∨ s.conds.short.state = .TRIPPED →
          t.conds = s.conds ∧ t.trips = s.trips ∧ t.stop = s.stop) ∧
        (s.conds.short.state = .SETTLING →
          t.conds.short = { s.conds.short with timer := .stopped } ∧ t.trips = s.trips ∧ t.stop = s.stop) ∧
        (UniqueKeys s → HeldPathsOff s → OwnChangesReported s t)) ∧
  (∀ (shunt : Int) (s : State), s.working = true → s.meas.comparator = true →
      -shunt ≤ (s.cfg.shortThreshold : Int) * 20000 - 10000 →
      Completes (.comparatorRelease shunt) s fun t =>
        let recovery := s.cfg.recoveryTime * 100000
        let short : Cond :=
          match s.conds.short.state with
          | .QUIET => s.conds.short
          | .WATCH => { state := .QUIET, count := 0, timer := .stopped }
          | .TRIPPED =>
              if s.stop.driving = false ∧ recovery ≠ 0 then
                { state := .SETTLING, count := 0, timer := .running recovery }
              else s.conds.short
          | .SETTLING => { s.conds.short with timer := .running recovery }
        EndsAs { s with meas := { s.meas with comparator := false }, conds := { s.conds with short := short } } t) ∧
  (∀ (shunt : Int) (s : State),
      (s.meas.comparator = true → exec (.comparatorAssertion shunt) s = .next s) ∧
      (s.meas.comparator = false → exec (.comparatorRelease shunt) s = .next s))

/-- The short delay's expiry in WATCH trips SHORT: its record is ACTIVE on both paths with the next trip id, its NOTICE is
queued where there is room, the line is pulled with that trip id awaited, an open window is satisfied, both switches are
off, and a round is left (R9, R10, R13, R22, R33, R41, R116, R148, R152). Every such trip, whatever its trip id, is counted in OPERATING and CONFINED:
the count rises by 1 below its bound and the record is counted; in FORMING neither happens (R10, R23, R126, R127, R128). -/
def Obligations.ShortTripPullsLine : Prop :=
  ∀ s : State, s.working = true → HeldPathsOff s → s.conds.short.state = .WATCH →
    s.conds.short.timer.isRunning = true →
    Completes .shortDelayExpiry s fun t =>
      t.conds = { s.conds with short := { state := .TRIPPED, count := 0, timer := .stopped } } ∧
      t.stop = { s.stop with driving := true, minTimer := .running 1000, limit := .running 10000,
                             awaited := some s.trips.nextId, confirmed := false, window := .stopped } ∧
      t.trips.nextId = (if s.trips.nextId = 255 then 1 else s.trips.nextId + 1) ∧
      (∃ r, findRecord s.rank .short none t.trips.records = some r ∧ r.phase = .ACTIVE ∧
        r.tripId = s.trips.nextId ∧ r.paths = { charge := true, discharge := true }) ∧
      t.charge.isOff ∧ t.discharge.isOff ∧ LeavesRound bothPaths s t ∧
      (s.link.notices.length < 8 →
        t.link.notices = s.link.notices ++
          [{ dst := 0, content := .notice { kind := 5, subject := 0, tripId := byteOf s.trips.nextId, state := 3 },
             collisions := 0 }]) ∧
      (8 ≤ s.link.notices.length → t.link.notices = s.link.notices) ∧
      (UniqueKeys s → s.phase ≠ .FORMING →
        t.budget.count = (if s.budget.count < (if s.cfg.latchLimit = 0 then 255 else s.cfg.latchLimit) then
          s.budget.count + 1 else s.budget.count) ∧
        (findRecord s.rank .short none t.trips.records).map (·.counted) = some true) ∧
      (s.phase = .FORMING →
        t.budget.count = s.budget.count ∧
        (findRecord s.rank .short none t.trips.records).map (·.counted) = some false) ∧
      t.meas = s.meas ∧ t.roster = s.roster ∧ t.phase = s.phase

/-- A recovery timer's expiry in SETTLING, and the release timer's in a TRIPPED UNEXPLAINED STOP, return the condition to
QUIET; its record turns CLEARED in place, keeping trip id and path set; no NOTICE is queued and no switch moves (R11, R40,
R42, R50). -/
def Obligations.RecoveryTimersClear : Prop :=
  ∀ (s : State) (k : Kind) (c : Instr), s.working = true → UniqueKeys s →
    (c = .recoveryTimerExpiry k ∧ k.currentClass = true ∧ (s.conds.get (ownCond k)).state = .SETTLING ∨
      c = .releaseTimerExpiry ∧ k = .unexplainedStop ∧ s.conds.unexplainedStop.state = .TRIPPED) →
    (s.conds.get (ownCond k)).timer.isRunning = true →
    Completes c s fun t =>
      t.conds = s.conds.set (ownCond k) { state := .QUIET, count := 0, timer := .stopped } ∧
      t.trips = { s.trips with records := s.trips.records.map fun r =>
        if r.origin = s.rank ∧ r.kind = k ∧ r.subject = none then { r with phase := .CLEARED } else r } ∧
      t.link.notices = s.link.notices ∧ t.charge = s.charge ∧ t.discharge = s.discharge ∧ t.stop = s.stop ∧
      t.meas = s.meas ∧ t.roster = s.roster ∧ t.phase = s.phase ∧ t.budget.epoch = s.budget.epoch ∧
      t.budget.count = s.budget.count

/-! ### Beats and the membership timers -/

/-- The beat-period event closes the average window, restarts the beat timer, and places in the beat slot a beat with
the next sequence and the station's values; an unsent beat that is being sent as it is replaced is cut off, the character in
progress still going out (R66, R67, R77, R78, R172, R175). The evaluation of the pack kinds and the building
of the beat may come in either order, so the switch states, the watch set and the records are those before or after it
(log entry 1). IMBALANCE is evaluated where the station holds a scan result and two reporting members carry a voltage above 0,
on the distance of its own voltage from the mean of all of these; SENSE MISMATCH where two members report, on the distance of
its own average from the lower median of theirs; a kind that is not evaluated leaves WATCH and loses its recovery count (R43
to R46; the mean is exact, log entry 11, and the evaluation kept for CLEAR TRIPPED is one since the trip, log entry 25). The
kinds that trip and those that recover are reported to the list (R9 to R11, R13, R22, R31). A
HALTED station's beat: phase HALTED, the next sequence, the loaded digest, both switches OPEN, zeros, last
closer 16 and no records; the timer restarts at 20 ms; nothing else changes (R203). -/
def Obligations.BeatBuilt : Prop :=
  (∀ s : State, s.working = true → UniqueKeys s → Completes .beatPeriodEvent s fun t =>
      let average := if s.meas.number = 0 then 0 else s.meas.sum.tdiv s.meas.number
      t.meas = { s.meas with average := some average, sum := 0, number := 0 } ∧
      t.beats = { seq := s.beats.seq + 1, timer := .running s.cfg.tBeat } ∧
      (∃ b : BeatFields, t.link.beat = some { dst := 0, content := .beat b, collisions := 0 } ∧
        b.phase = byteOf s.phase.code ∧ b.listFull = byteOf (boolCode s.trips.full) ∧ b.seq = s.beats.seq ∧
        b.digest = s.load.digest ∧ b.current = BitVec.ofInt 16 average ∧
        b.voltage = BitVec.ofNat 16 (match s.meas.scan with | some r => r.moduleVoltage / 2 | none => 0) ∧
        b.epoch = s.budget.epoch ∧ b.count = byteOf s.budget.count ∧ b.lastRound = byteOf s.reclose.lastRound ∧
        b.lastCloser = byteOf s.reclose.lastCloser ∧
        (b.chargeState = byteOf s.charge.state.code ∨ b.chargeState = byteOf t.charge.state.code) ∧
        (b.dischargeState = byteOf s.discharge.state.code ∨ b.dischargeState = byteOf t.discharge.state.code) ∧
        (b.watch = BitVec.ofNat 16 (watchBits s.conds.watchSet) ∨
          b.watch = BitVec.ofNat 16 (watchBits t.conds.watchSet)) ∧
        (b.records = ownEntries s ∨ b.records = ownEntries t)) ∧
      (s.link.beat ≠ none → s.link.sending = some .beat →
        t.link.sending = none ∧ t.link.cut = true ∧ t.link.midCharacter = true ∧ t.link.quiet = 0) ∧
      (s.link.beat = none ∨ s.link.sending ≠ some .beat →
        t.link.sending = s.link.sending ∧ t.link.cut = s.link.cut ∧ t.link.midCharacter = s.link.midCharacter ∧
            t.link.quiet = s.link.quiet ∨
          s.link.sending = some .round ∧ 2 ≤ t.link.rounds.length ∧ t.link.sending = none ∧ t.link.cut = true ∧
            t.link.midCharacter = true ∧ t.link.quiet = 0) ∧
      t.roster = s.roster ∧ t.phase = s.phase ∧ t.stop = s.stop ∧
      { t.conds with imbalance := s.conds.imbalance, senseMismatch := s.conds.senseMismatch,
                     imbalanceEval := s.conds.imbalanceEval, mismatchEval := s.conds.mismatchEval } = s.conds) ∧
  (∀ s : State, s.working = true → Completes .beatPeriodEvent s fun t =>
      let average := if s.meas.number = 0 then 0 else s.meas.sum.tdiv s.meas.number
      let voltages := ((ReportingBeats s).map (·.voltage)).filter (0 < ·)
      let averages := (ReportingBeats s).map (·.current)
      (s.meas.scan = none ∨ voltages.length < 2 →
        NotEvaluatedMoves s.conds.imbalance t.conds.imbalance ∧ t.conds.imbalanceEval = s.conds.imbalanceEval) ∧
      (∀ r, s.meas.scan = some r → 2 ≤ voltages.length →
        let k := voltages.length + 1
        let own := r.cells.sum / 2
        let deviation := 2 * ((k : Int) * own - (own + voltages.sum : Nat)).natAbs
        BeatMoves s.cfg.imbalanceConfirm (s.cfg.imbalanceThreshold * 10 * k < deviation)
          (deviation ≤ (s.cfg.imbalanceThreshold * 10 - s.cfg.imbalanceHyst) * k)
          s.conds.imbalance t.conds.imbalance ∧
        t.conds.imbalanceEval = (if s.conds.imbalance.state = .TRIPPED then some (deviation, k) else none)) ∧
      (averages.length < 2 →
        NotEvaluatedMoves s.conds.senseMismatch t.conds.senseMismatch ∧ t.conds.mismatchEval = s.conds.mismatchEval) ∧
      (∀ m, 2 ≤ averages.length → LowerMedian averages m →
        BeatMoves s.cfg.mismatchConfirm (s.cfg.mismatchThreshold * 10 < (average - m).natAbs)
          ((average - m).natAbs ≤ s.cfg.mismatchThreshold * 10) s.conds.senseMismatch t.conds.senseMismatch ∧
        t.conds.mismatchEval =
          (if s.conds.senseMismatch.state = .TRIPPED then some (average - m).natAbs else none)) ∧
      (UniqueKeys s → HeldPathsOff s → OwnChangesReported s t)) ∧
  (∀ s : State, s.phase = .HALTED →
      let replaced : Bool := s.link.beat.isSome && s.link.sending == some .beat
      exec .haltedBeat s = .next { s with
        beats := { seq := s.beats.seq + 1, timer := .running 20000 }
        link := { s.link with
          sending := if replaced then none else s.link.sending
          cut := if replaced then true else s.link.cut
          midCharacter := if replaced then true else s.link.midCharacter
          quiet := if replaced then 0 else s.link.quiet
          beat := some
            { dst := 0, collisions := 0
              content := .beat
                { phase := 4, listFull := 0, seq := s.beats.seq, digest := s.load.digest, chargeState := 1
                  dischargeState := 1, voltage := 0, current := 0, epoch := 0, count := 0, lastRound := 0
                  lastCloser := 16, watch := 0, records := [] } } } })

/-- The expiry of a PRESENT entry's silence timer makes it LOST, keeping its beat values; every record of that origin is
stale; a MEMBER LOST condition of the subject that is QUIET trips, with its ACTIVE record on both paths, both switches off
and a round left (R3, R48, R81, R86, R116, R122). A station CONFINED without the conflict flag returns to OPERATING exactly
where no other PRESENT entry holds digest match NO; one in FORMING stays, and one that is OPERATING does not become CONFINED
by it (R91, R94, R202). -/
def Obligations.SilenceMakesLost : Prop :=
  ∀ (r : Nat) (e : Entry) (s : State), s.working = true → HeldPathsOff s → s.entry r = some e →
    e.status = .PRESENT → e.silence.isRunning = true → r ≠ s.rank →
    Completes (.silenceTimerExpiry r) s fun t =>
      t.entry r = some { e with status := .LOST, silence := .stopped } ∧
      (∀ x ∈ t.trips.records, x.origin = r → x.stale = true) ∧
      ((s.conds.get (lostCond r)).state = .QUIET → (∃ l ∈ s.conds.lost, l.subject = r) →
        t.conds.get (lostCond r) = { state := .TRIPPED, count := 0, timer := .stopped } ∧
        (∃ x, findRecord s.rank .memberLost (some r) t.trips.records = some x ∧ x.phase = .ACTIVE ∧
          x.tripId = s.trips.nextId ∧ x.paths = { charge := true, discharge := true }) ∧
        t.charge.isOff ∧ t.discharge.isOff ∧ LeavesRound bothPaths s t) ∧
      (s.phase = .FORMING → t.phase = .FORMING) ∧
      (s.phase = .OPERATING → Formed s → t.phase = .OPERATING) ∧
      (s.phase = .CONFINED →
        (t.phase = .OPERATING ↔ s.conflict = false ∧
          ∀ x ∈ s.roster, x.rank ≠ r → ¬ (x.status = .PRESENT ∧ (x.beat.map (·.digestMatch)) = some false)) ∧
        (t.phase = .OPERATING ∨ t.phase = .CONFINED)) ∧
      t.conflict = s.conflict ∧ t.meas = s.meas ∧ t.stop = s.stop ∧ t.beats = s.beats ∧ t.cfg = s.cfg

/-- The formation timeout makes every entry still EXPECTED LOST and leaves the others as they are; a QUIET MEMBER LOST
condition of such a rank trips, and those that trip, in whatever order, are reported to the list (R9, R10, R13, R22, R31,
R48, R90). -/
def Obligations.FormationTimeoutMakesLost : Prop :=
  ∀ s : State, s.working = true → s.formation.isRunning = true → Completes .formationTimeout s fun t =>
    t.formation = .stopped ∧
    t.roster = s.roster.map (fun e =>
      if e.status = .EXPECTED then { e with status := .LOST, silence := .stopped } else e) ∧
    (∀ e ∈ s.roster, e.status = .EXPECTED → (s.conds.get (lostCond e.rank)).state = .QUIET →
      (∃ l ∈ s.conds.lost, l.subject = e.rank) →
      t.conds.get (lostCond e.rank) = { state := .TRIPPED, count := 0, timer := .stopped }) ∧
    (Formed s → UniqueKeys s → HeldPathsOff s → OwnChangesReported s t) ∧
    t.phase = s.phase ∧ t.meas = s.meas ∧ t.stop = s.stop ∧ t.beats = s.beats

/-- A hold-off's expiry makes it elapsed (R100); the list-full timer's expiry clears the flag (R26); the quiet timer's
advances the epoch by 1, sets the count to 0 and stops the timer (R133). Nothing else changes but by the closing checks. -/
def Obligations.TimersElapse : Prop :=
  (∀ (p : Path) (s : State), s.working = true → (s.reclose.holdOff p).isRunning = true →
    Completes (.holdOffExpiry p) s fun t =>
      t.reclose.holdOff p = .expired ∧ EndsAs (s.withReclose (s.reclose.setHoldOff p .expired)) t) ∧
  (∀ s : State, s.working = true → s.trips.fullTimer.isRunning = true →
    Completes .listFullTimerExpiry s fun t =>
      EndsAs { s with trips := { s.trips with full := false, fullTimer := .stopped } } t) ∧
  (∀ s : State, s.working = true → s.budget.quiet.isRunning = true →
    Completes .quietTimerExpiry s fun t =>
      t.budget.quiet = .stopped ∧
      EndsAs { s with budget := { s.budget with epoch := s.budget.epoch + 1, count := 0, quiet := .stopped } } t)

/-- The start test at a hold-off's expiry: where every condition of R102 holds and a path is eligible (R103), a round
starts, with the next number, the next closer, the eligible paths, the retirement set in order and the COLLECTING window,
and its PROPOSE joins the round slot; otherwise no round starts (R100, R102, R104, R105). A path is eligible exactly where it
is open at pack level, no ACTIVE record blocks it, no kind in WATCH here or at a roster entry's latest report has it, its
hold-off has elapsed, and the budget is not latched or no CLEARED current-class record has it (R88, R103). The coordinator is
the lowest candidate (R87). The retirement set is the CLEARED records whose paths lie within the round's, by origin, kind and
subject, an absent subject as 0, and its CRC is the shift register's over four bytes a record (R7, R104). -/
def Obligations.RoundStarts : Prop :=
  (∀ (p : Path) (s : State), s.working = true → (s.reclose.holdOff p).isRunning = true →
    Completes (.holdOffExpiry p) s fun t =>
      let u := s.withReclose (s.reclose.setHoldOff p .expired)
      let ps : PathSet := { charge := u.eligible .charge, discharge := u.eligible .discharge }
      let set := retirementSet s.trips.records ps
      let round : Round :=
        { stage := .COLLECTING
          number := if s.reclose.lastRound = 255 then 1 else s.reclose.lastRound + 1
          paths := ps, coordinator := s.rank
          closer := if s.reclose.lastCloser = s.cfg.memberCount then 1 else s.reclose.lastCloser + 1
          role := if (if s.reclose.lastCloser = s.cfg.memberCount then 1 else s.reclose.lastCloser + 1) = s.rank
            then .coordinatorCloser else .coordinatorMember
          retire := set, digestCount := set.length, digestCrc := retirementCrc set
          accepts := [], closedHeld := [], closedSet := { charge := false, discharge := false }
          window := .running (2 * s.cfg.tBeat) }
      let starts : Prop :=
        s.phase = .OPERATING ∧ s.coordinator = some s.rank ∧ s.reclose.round = none ∧
        (∀ e ∈ s.roster, e.status = .PRESENT ∧
          e.beat.map (fun b => (b.phase, b.digestMatch, b.listFull)) = some (.OPERATING, true, false)) ∧
        s.trips.full = false ∧ s.stop.sense = false ∧ (ps.charge = true ∨ ps.discharge = true)
      (starts →
        t.reclose.round = some round ∧
        t.link.rounds = (if s.link.rounds.length < 2 then s.link.rounds else s.link.rounds.tail) ++
          [{ dst := 0, collisions := 0
             content := .propose (byteOf round.number) (byteOf ps.code) (byteOf round.closer) (byteOf set.length)
               (retirementCrc set) }]) ∧
      (¬ starts → t.reclose.round = s.reclose.round ∧ t.link.rounds = s.link.rounds)) ∧
  (∀ (p : Path) (s : State), s.eligible p = true ↔
    ¬ PackClosed s p ∧
    (∀ r ∈ s.trips.records, ¬ (r.phase = .ACTIVE ∧ r.paths.has p = true)) ∧
    (∀ k : Kind, k.code ≤ 10 → (kindPaths k).has p = true →
      (s.conds.get (ownCond k)).state ≠ .WATCH ∧
      ∀ e ∈ s.roster, (e.beat.map fun b => b.watch.getLsbD (k.code - 1)) ≠ some true) ∧
    s.reclose.holdOff p = .expired ∧
    (s.cfg.latchLimit = 0 ∨ s.budget.count ≠ s.cfg.latchLimit ∨
      ∀ r ∈ s.trips.records, ¬ (r.phase = .CLEARED ∧ r.kind.currentClass = true ∧ r.paths.has p = true))) ∧
  (∀ (r : Nat) (s : State), s.coordinator = some r ↔ Candidate s r ∧ ∀ q, Candidate s q → r ≤ q) ∧
  (∀ (l : List Record) (ps : PathSet),
    let set := retirementSet l ps
    let cleared := l.filter fun r =>
      r.phase = .CLEARED ∧ (r.paths.charge = true → ps.charge = true) ∧ (r.paths.discharge = true → ps.discharge = true)
    set.Perm (cleared.map fun r => { origin := r.origin, kind := r.kind, subject := r.subject, tripId := r.tripId }) ∧
    set.Pairwise (fun a b =>
      a.origin < b.origin ∨ a.origin = b.origin ∧
        (a.kind.code < b.kind.code ∨ a.kind = b.kind ∧ a.subject.getD 0 ≤ b.subject.getD 0)) ∧
    retirementCrc set = crcRegister 7#8 0#8 (fun b => b)
      (set.flatMap fun k => oneByte k.origin ++ oneByte k.kind.code ++ oneByte (k.subject.getD 0) ++ oneByte k.tripId))

/-- A window's expiry: COLLECTING and GATHERING queue ABANDON and abandon, ANSWERED and CLOSED-WAIT lapse; ANSWERED sets the left round; the
closed set's switches are off; the hold-off of the round's paths restarts; the station leaves the round (R100, R118,
R119, R120). -/
def Obligations.WindowExpiryEndsRound : Prop :=
  ∀ (r : Round) (s : State), s.working = true → s.reclose.round = some r → r.window.isRunning = true →
    Completes .windowTimerExpiry s fun t =>
      (r.stage = .COLLECTING ∨ r.stage = .GATHERING →
        t.link.counters.roundsAbandoned = min (s.link.counters.roundsAbandoned + 1) 65535 ∧
        t.link.counters.roundsLapsed = s.link.counters.roundsLapsed ∧
        (∃ f ∈ t.link.rounds, f.dst = 0 ∧ f.content = .abandon (byteOf r.number)) ∧
        t.reclose.leftRound = s.reclose.leftRound) ∧
      (r.stage = .ANSWERED ∨ r.stage = .CLOSED_WAIT →
        t.link.counters.roundsLapsed = min (s.link.counters.roundsLapsed + 1) 65535 ∧
        t.link.counters.roundsAbandoned = s.link.counters.roundsAbandoned) ∧
      (r.stage = .ANSWERED → t.reclose.leftRound = some (r.number, r.coordinator)) ∧
      (r.stage = .CLOSED_WAIT → t.reclose.leftRound = s.reclose.leftRound) ∧
      (r.stage ≠ .CLOSING → r.stage ≠ .FINISHING →
        (∀ p, r.closedSet.has p = true → (t.switch p).isOff) ∧
        (∀ p, r.closedSet.has p = false → t.switch p = s.switch p) ∧
        (∀ p, r.paths.has p = true → t.reclose.holdOff p = .running s.cfg.holdOffTime) ∧
        (t.reclose.round = none ∨
          ∃ r', t.reclose.round = some r' ∧ r'.stage = .COLLECTING ∧ r'.coordinator = s.rank)) ∧
      t.trips = s.trips ∧ t.conds = s.conds ∧ t.roster = s.roster ∧ t.phase = s.phase ∧
      t.reclose.lastRound = s.reclose.lastRound ∧ t.reclose.lastCloser = s.reclose.lastCloser

/-! ### Switches and the stop line -/

/-- A feedback-on by the switch's state: OPEN enters OPENING, CLOSING enters CLOSED, the others only hold the level; the
other switch is as it was (R138, R142). The last switch of a round's paths to close moves CLOSING to CLOSED-WAIT with CLOSED
queued, and completes a round in FINISHING with COMPLETE queued and the station back in IDLE, or in a round it then starts
(R112, R114). A feedback-off: OPENING, FAULTED and CLOSED enter OPEN, and from CLOSED a
QUIET SWITCH FAULT trips and is reported to the list; OPEN and CLOSING stay (R9, R10, R22, R31, R47, R138, R142). A switch of
a round path that enters OPEN in CLOSING or FINISHING ends the round (R116, R120, R145). -/
def Obligations.FeedbackMovesSwitch : Prop :=
  (∀ (p : Path) (s : State), s.working = true → Completes (.feedbackOn p) s fun t =>
      t.switch p =
        (match (s.switch p).state with
         | .OPEN => { state := .OPENING, gate := false, feedback := true, limit := .running 1000 }
         | .CLOSING => { s.switch p with state := .CLOSED, feedback := true, limit := .stopped }
         | _ => { s.switch p with feedback := true }) ∧
      t.switch p.other = s.switch p.other ∧
      (∀ r, s.reclose.round = some r → (s.switch p).state = .CLOSING →
        (∀ q, r.paths.has q = true → q = p ∨ (s.switch q).state = .CLOSED) →
        (r.stage = .CLOSING →
          t.reclose.round = some { r with stage := .CLOSED_WAIT, window := .running (3 * s.cfg.tBeat) } ∧
          (∃ f ∈ t.link.rounds, f.dst = 0 ∧ f.content = .closed (byteOf r.number)) ∧ t.trips = s.trips) ∧
        (r.stage = .FINISHING →
          t.reclose.lastRound = r.number ∧ t.reclose.lastCloser = r.closer ∧
          (∃ f ∈ t.link.rounds, f.dst = 0 ∧ f.content = .complete (byteOf r.number)) ∧
          (t.reclose.round = none ∨
            ∃ r', t.reclose.round = some r' ∧ r'.stage = .COLLECTING ∧ r'.coordinator = s.rank) ∧
          t.trips.records = s.trips.records.filter (fun x => !r.retire.any fun k => k.retires x))) ∧
      t.conds = s.conds ∧ t.roster = s.roster ∧ t.stop = s.stop ∧ t.meas = s.meas ∧ t.phase = s.phase) ∧
  (∀ (p : Path) (s : State), s.working = true → Completes (.feedbackOff p) s fun t =>
      (t.switch p).feedback = false ∧
      ((s.switch p).state = .OPENING ∨ (s.switch p).state = .FAULTED ∨ (s.switch p).state = .CLOSED →
        (t.switch p).state = .OPEN ∧ (t.switch p).limit = .stopped) ∧
      ((s.switch p).state = .CLOSED → (t.switch p).gate = false ∧
        (s.conds.switchFault.state = .QUIET →
          t.conds.switchFault = { state := .TRIPPED, count := 0, timer := .stopped })) ∧
      ((s.switch p).state = .OPEN ∨ (s.switch p).state = .CLOSING →
        t.switch p = { s.switch p with feedback := false } ∧ t.switch p.other = s.switch p.other ∧
        t.trips = s.trips) ∧
      ((s.switch p).state ≠ .CLOSED → t.conds = s.conds ∧ t.trips = s.trips) ∧
      ((s.switch p).state = .OPENING ∨ (s.switch p).state = .FAULTED ∨ (s.switch p).state = .CLOSED →
        ∀ r, s.reclose.round = some r → r.paths.has p = true → r.stage = .CLOSING ∨ r.stage = .FINISHING →
          LeavesRound bothPaths s t) ∧
      (UniqueKeys s → HeldPathsOff s → OwnChangesReported s t) ∧
      t.roster = s.roster ∧ t.stop = s.stop ∧ t.meas = s.meas ∧ t.phase = s.phase)

/-- The close limit's expiry in CLOSING turns the gate off and enters OPENING, or OPEN with the feedback off; the open
limit's in OPENING enters FAULTED; each trips a QUIET SWITCH FAULT, which is reported to the list, and leaves any other as
it is (R9, R10, R22, R31, R47, R138, R143, R144; a feedback-on that comes after the expiry finds the switch OPEN, log entry
36). A switch of a round path that so enters OPEN in CLOSING or FINISHING ends the round (R116, R145). -/
def Obligations.LimitExpiryFaults : Prop :=
  (∀ (p : Path) (s : State), s.working = true → (s.switch p).state = .CLOSING →
    (s.switch p).limit.isRunning = true →
    Completes (.closeLimitExpiry p) s fun t =>
      (t.switch p).gate = false ∧
      (t.switch p).state = (if (s.switch p).feedback = true then .OPENING else .OPEN) ∧
      (s.conds.switchFault.state = .QUIET →
        t.conds.switchFault = { state := .TRIPPED, count := 0, timer := .stopped }) ∧
      (s.conds.switchFault.state ≠ .QUIET → t.conds = s.conds ∧ t.trips = s.trips) ∧
      ((s.switch p).feedback = false →
        ∀ r, s.reclose.round = some r → r.paths.has p = true → r.stage = .CLOSING ∨ r.stage = .FINISHING →
          LeavesRound bothPaths s t) ∧
      (UniqueKeys s → HeldPathsOff s → OwnChangesReported s t) ∧
      { t.conds with switchFault := s.conds.switchFault } = s.conds ∧ t.roster = s.roster ∧ t.stop = s.stop) ∧
  (∀ (p : Path) (s : State), s.working = true → (s.switch p).state = .OPENING →
    (s.switch p).limit.isRunning = true →
    Completes (.openLimitExpiry p) s fun t =>
      t.switch p = { s.switch p with state := .FAULTED, limit := .stopped } ∧
      (s.conds.switchFault.state = .QUIET →
        t.conds.switchFault = { state := .TRIPPED, count := 0, timer := .stopped }) ∧
      (s.conds.switchFault.state ≠ .QUIET → t.conds = s.conds ∧ t.trips = s.trips) ∧
      (UniqueKeys s → HeldPathsOff s → OwnChangesReported s t) ∧
      { t.conds with switchFault := s.conds.switchFault } = s.conds ∧ t.roster = s.roster ∧ t.stop = s.stop)

/-- The stop line sensed going asserted: the sense is held, the stuck timer starts at 100 ms, a window opens unless one is
open or the pull is the station's own; both switches are off, a round is left with its ABANDON, its hold-off and its count,
the station is in no round, and a TRIPPED UNEXPLAINED STOP's release timer stops (R50, R100, R116, R118, R120, R121, R139,
R150, R152). -/
def Obligations.StopAssertionOpensBoth : Prop :=
  ∀ s : State, s.working = true → Completes .stopLineGoingAsserted s fun t =>
    t.stop = { s.stop with
      sense := true, stuck := .running 100000
      window := if s.stop.window.isRunning = true then s.stop.window
                else if s.stop.driving = true then .stopped else .running 20000 } ∧
    t.charge.isOff ∧ t.discharge.isOff ∧ t.reclose.round = none ∧ LeavesRound bothPaths s t ∧
    (∀ p, t.held p = true) ∧
    t.conds = (if s.conds.unexplainedStop.state = .TRIPPED then
      { s.conds with unexplainedStop := { s.conds.unexplainedStop with timer := .stopped } } else s.conds) ∧
    t.trips = s.trips ∧ t.roster = s.roster ∧ t.phase = s.phase ∧ t.meas = s.meas

/-- The stop line sensed going released: its hold cause goes out of force for both paths, the stuck timer stops, the
release timer of a TRIPPED UNEXPLAINED STOP starts at 1 s, a window that is open stays as it is, and no switch is
commanded; the reclose controller makes its start test (R151). -/
def Obligations.StopReleaseEndsHold : Prop :=
  ∀ s : State, s.working = true → s.stop.sense = true → Completes .stopLineGoingReleased s fun t =>
    let u : State := { s with
      stop := { s.stop with sense := false, stuck := .stopped }
      conds := if s.conds.unexplainedStop.state = .TRIPPED then
        { s.conds with unexplainedStop := { s.conds.unexplainedStop with timer := .running 1000000 } } else s.conds }
    EndsAs u t ∧
    (∀ p, t.held p = (s.blocked p || s.trips.full || !(s.phase == .OPERATING))) ∧
    (u.mayStart = true → ∃ r, t.reclose.round = some r ∧ r.stage = .COLLECTING)

/-- The minimum timer's expiry releases a confirmed pull and otherwise is only remembered; the driver limit's releases the
pull in any case. On release SHORT goes to SETTLING where the comparator is released and the recovery time is not 0
(R42, R149); notice confirmed goes back to no, the model's choice (log entry 33). -/
def Obligations.DriverReleases : Prop :=
  let released (s : State) : State := { s with
    stop := { s.stop with driving := false, minTimer := .stopped, limit := .stopped, awaited := none,
                          confirmed := false }
    conds := if s.conds.short.state = .TRIPPED ∧ s.meas.comparator = false ∧ s.cfg.recoveryTime * 100000 ≠ 0 then
        { s.conds with short := { state := .SETTLING, count := 0,
                                  timer := .running (s.cfg.recoveryTime * 100000) } }
      else s.conds }
  (∀ s : State, s.working = true → s.stop.minTimer.isRunning = true →
    exec .minimumTimerExpiry s = .next
      (if s.stop.driving = true ∧ s.stop.confirmed = true then released s
       else { s with stop := { s.stop with minTimer := .expired } })) ∧
  (∀ s : State, s.working = true → s.stop.driving = true → s.stop.limit.isRunning = true →
    exec .driverLimitExpiry s = .next (released s))

/-- An unsatisfied explanation window's expiry and the stuck timer's expiry each trip a QUIET UNEXPLAINED STOP, whose
release timer starts at 1 s where the line is sensed released, and which ends a round; any other state stays as it is; the
timer stops (R22, R49, R50, R116, R152, R153). -/
def Obligations.UnexplainedStopReported : Prop :=
  ∀ (s : State) (c : Instr) (stop : StopLine), s.working = true → HeldPathsOff s →
    (c = .explanationWindowExpiry ∧ s.stop.window.isRunning = true ∧ stop = { s.stop with window := .stopped } ∨
      c = .stuckTimerExpiry ∧ s.stop.stuck.isRunning = true ∧ stop = { s.stop with stuck := .stopped }) →
    Completes c s fun t =>
      t.stop = stop ∧
      (s.conds.unexplainedStop.state = .QUIET →
        t.conds = { s.conds with unexplainedStop :=
          { state := .TRIPPED, count := 0, timer := if s.stop.sense = true then .stopped else .running 1000000 } } ∧
        (∃ r, findRecord s.rank .unexplainedStop none t.trips.records = some r ∧ r.phase = .ACTIVE ∧
          r.tripId = s.trips.nextId ∧ r.paths = { charge := true, discharge := true }) ∧
        t.charge.isOff ∧ t.discharge.isOff ∧ LeavesRound bothPaths s t) ∧
      (s.conds.unexplainedStop.state ≠ .QUIET → t.conds = s.conds ∧ t.trips = s.trips) ∧
      t.meas = s.meas ∧ t.roster = s.roster ∧ t.phase = s.phase

/-! ### The data pair -/

/-- Another station's start bit makes the medium busy, with a character on it; its whole character joins the burst besides, unless what is heard is
being discarded or an own frame is in progress; nothing else changes (R157; the own frame's echo is COLLISION's and
FRAME_SENT's to tell, log entry 15). Once 16 microseconds have passed since the last stop bit the medium goes idle and the
burst ends: one that fails a check raises its counter and nothing else; the own echo raises none; any other valid frame is
received (R157, R161, R162; log entry 14 for an own frame cut off). The checks, in order, on bytes as they stand: a burst that does
not start with 165 or has a damaged character is a bad frame, and so is one whose length is not that of its payload; then one
whose CRC differs, computed as a shift register, is a CRC error; then one with a source, type, destination, length or BEAT
code out of its table is a bad frame, and any other is the valid frame its bytes spell (R158 to R161, R164 to R166). Before that, with a character on the pair, with an own
frame in progress, and on an idle medium, nothing changes (R157; log entry 31). -/
def Obligations.BurstHeardAndJudged : Prop :=
  (∀ s : State, s.phase ≠ .LOADING →
      exec (.characterReceived .startBit) s =
        .next { s with link := { s.link with busy := true, midCharacter := true, quiet := 0 } } ∧
      ∀ c : LineChar, exec (.characterReceived (.character c)) s = .next { s with link :=
        if s.link.discarding = true ∨ s.link.sending.isSome = true then
          { s.link with busy := true, midCharacter := false, quiet := 0 }
        else { s.link with busy := true, midCharacter := false, quiet := 0, burst := s.link.burst ++ [c],
                           echo := false } }) ∧
  (∀ s : State, (s.link.quiet < 16 ∨ s.link.midCharacter = true ∨ s.link.sending.isSome = true ∨ s.link.busy = false) →
      exec .mediumIdle s = .next s) ∧
  (∀ s : State, s.phase ≠ .LOADING → s.link.busy = true → s.link.sending = none → s.link.midCharacter = false →
      16 ≤ s.link.quiet →
      let idle : Link := { s.link with busy := false, discarding := false, burst := [], cut := false, echo := false }
      (s.link.discarding = true → exec .mediumIdle s = .next { s with link := idle }) ∧
      (s.link.discarding = false → s.link.cut = true →
        exec .mediumIdle s = .next { s with link := { idle with counters :=
          { s.link.counters with badFrames := min (s.link.counters.badFrames + 1) 65535 } } }) ∧
      (s.link.discarding = false → s.link.cut = false → s.link.burst ≠ [] →
        (judgeBurst s.link.burst = .badFrame →
          exec .mediumIdle s = .next { s with link := { idle with counters :=
            { s.link.counters with badFrames := min (s.link.counters.badFrames + 1) 65535 } } }) ∧
        (judgeBurst s.link.burst = .crcError →
          exec .mediumIdle s = .next { s with link := { idle with counters :=
            { s.link.counters with crcErrors := min (s.link.counters.crcErrors + 1) 65535 } } }) ∧
        (∀ f, judgeBurst s.link.burst = .valid f →
          (s.link.echo = true → exec .mediumIdle s = .next { s with link := idle }) ∧
          (s.link.echo = false → exec .mediumIdle s = .next (receive f { s with link := idle }))))) ∧
  (∀ cs : List LineChar, cs.head? ≠ some (.byte 165) ∨ .damaged ∈ cs → judgeBurst cs = .badFrame) ∧
  (∀ bs : List Byte, bs.head? = some 165 →
      let l := (bs.getD 4 0).toNat
      (bs.length < 5 ∨ 96 < l ∨ bs.length ≠ 7 + 2 * l → judgeBurst (bs.map .byte) = .badFrame) ∧
      (5 ≤ bs.length → l ≤ 96 → bs.length = 7 + 2 * l →
        let crc := crcRegister 0x1021#16 0xFFFF#16 (fun b => b ++ 0#8) ((bs.drop 1).take (4 + 2 * l))
        let received : Half := bs.getD (5 + 2 * l) 0 ++ bs.getD (6 + 2 * l) 0
        let payload := (bs.drop 5).take (2 * l)
        let passes : Prop :=
          PassesLastChecks (bs.getD 1 0).toNat (bs.getD 2 0).toNat (bs.getD 3 0).toNat l payload
        (crc ≠ received → judgeBurst (bs.map .byte) = .crcError) ∧
        (crc = received → ¬ passes → judgeBurst (bs.map .byte) = .badFrame) ∧
        (crc = received → passes →
          judgeBurst (bs.map .byte) = .valid
            { src := bs.getD 1 0, dst := bs.getD 3 0, content := spelledContent (bs.getD 2 0).toNat payload })))

/-- On an idle medium that has been quiet for the frame's gap the station starts the frame at the head of its highest-class
queue that holds one, and no queue changes; before the gap has passed, on a busy medium and during an own frame it does not
start (R167, R168, R172; log entry 31). Every gap of a class is shorter than every gap of the next, whatever the ranks 1 to
20 (R167). -/
def Obligations.FrameStartTakesHighestClass : Prop :=
  (∀ s : State, s.phase ≠ .LOADING → s.link.busy = false → s.link.sending = none →
    (s.link.notices ≠ [] ∨ s.link.rounds ≠ [] ∨ s.link.beat ≠ none ∨ s.link.reply ≠ none) →
    (if s.link.notices ≠ [] then 16 else if s.link.rounds ≠ [] then 112 else if s.link.beat ≠ none then 208
      else 304) + 4 * s.rank ≤ s.link.quiet →
    exec .frameStart s = .next { s with link := { s.link with
      sending := some (if s.link.notices ≠ [] then .urgent else if s.link.rounds ≠ [] then .round
        else if s.link.beat ≠ none then .beat else .service)
      busy := true, burst := [], cut := false, echo := false, midCharacter := true, quiet := 0 } }) ∧
  (∀ s : State, (s.link.busy = true ∨ s.link.sending.isSome = true ∨
      s.link.quiet < (if s.link.notices ≠ [] then 16 else if s.link.rounds ≠ [] then 112
        else if s.link.beat ≠ none then 208 else 304) + 4 * s.rank) →
    exec .frameStart s = .next s) ∧
  (∀ r q : Nat, 1 ≤ r → r ≤ 20 → 1 ≤ q → q ≤ 20 →
    TxClass.gap .urgent r < TxClass.gap .round q ∧ TxClass.gap .round r < TxClass.gap .beat q ∧
    TxClass.gap .beat r < TxClass.gap .service q)

/-- An echo that differs from the character sent stops the frame: both collision counts rise; below 16 the frame stays at
the head of its queue, at 16 it is removed and counted (R169, R170). -/
def Obligations.CollisionKeepsOrDrops : Prop :=
  ∀ (matched : Nat) (echo : LineChar) (s : State) (k : TxClass) (f : TxFrame) (b : Byte),
    s.link.sending = some k → s.link.head k = some f → (f.bytes s.rank)[matched]? = some b → echo ≠ .byte b →
    (k = .service → s.restartPending = false) →
    Completes (.collision matched echo) s fun t =>
      t.link.sending = none ∧
      t.link.burst = ((f.bytes s.rank).take matched).map .byte ++ [echo] ∧
      t.link.counters.collisions = min (s.link.counters.collisions + 1) 65535 ∧
      (f.collisions + 1 < 16 →
        t.link.head k = some { f with collisions := f.collisions + 1 } ∧
        t.link.counters.dropped16 = s.link.counters.dropped16 ∧
        t.link.notices.length = s.link.notices.length ∧ t.link.rounds.length = s.link.rounds.length) ∧
      (16 ≤ f.collisions + 1 →
        t.link.counters.dropped16 = min (s.link.counters.dropped16 + 1) 65535 ∧
        t.link.notices = (if k = .urgent then s.link.notices.tail else s.link.notices) ∧
        t.link.rounds = (if k = .round then s.link.rounds.tail else s.link.rounds) ∧
        t.link.beat = (if k = .beat then none else s.link.beat) ∧
        t.link.reply = (if k = .service then none else s.link.reply)) ∧
      t.trips = s.trips ∧ t.conds = s.conds ∧ t.stop = s.stop ∧ t.charge = s.charge ∧ t.discharge = s.discharge ∧
      t.reclose = s.reclose ∧ t.roster = s.roster ∧ t.phase = s.phase

/-- A frame whose every echo matched leaves its queue, the burst is its echo and no counter rises; the NOTICE of the
awaited SHORT record confirms the pull, which ends it where the minimum timer has expired (R149, R162, R169, R173). -/
def Obligations.FrameSentLeavesQueue : Prop :=
  ∀ (s : State) (k : TxClass) (f : TxFrame), s.link.sending = some k → s.link.head k = some f →
    (k = .service → s.restartPending = false) →
    Completes .frameSent s fun t =>
      t.link = { s.link with
        notices := if k = .urgent then s.link.notices.tail else s.link.notices
        rounds := if k = .round then s.link.rounds.tail else s.link.rounds
        beat := if k = .beat then none else s.link.beat
        reply := if k = .service then none else s.link.reply
        sending := none, busy := true, midCharacter := false, quiet := 0, burst := (f.bytes s.rank).map .byte
        cut := false, echo := true } ∧
      (∀ e, f.content = .notice e → e.kind = 5 → s.stop.driving = true → s.stop.awaited = some e.tripId.toNat →
        (s.stop.minTimer = .expired → t.stop.driving = false ∧ t.stop.awaited = none) ∧
        (s.stop.minTimer ≠ .expired → t.stop = { s.stop with confirmed := true })) ∧
      ((∀ e, f.content = .notice e → e.kind ≠ 5) → t.stop = s.stop ∧ t.conds = s.conds) ∧
      t.trips = s.trips ∧ t.charge = s.charge ∧ t.discharge = s.discharge ∧ t.reclose = s.reclose ∧
      t.roster = s.roster ∧ t.phase = s.phase ∧ t.meas = s.meas

/-- A pending restart takes effect as the RESTART reply leaves the slot, sent or dropped after 16 collisions: LOADING
begins, the link counters are kept and the restarts counter rises by 1, the roster keeps its counts, the configuration block
stays, and everything else is as after a supply reset (R178, R183, R197, R205, R206). The model's choices in it: the loader's
digest, straps and halt cause stay until the load (log entry 18); the last closer is 16 until N is loaded (log entry 32); the
feedback levels are off, the medium is not busy and its quiet 0 (log entry 4); notice confirmed is no (log entry 33). -/
def Obligations.RestartTakesEffect : Prop :=
  ∀ (s : State) (f : TxFrame) (payload : List Byte) (c : Instr) (counters : Counters),
    s.restartPending = true → s.link.sending = some .service → s.link.reply = some f → f.content = .reply payload →
    (c = .frameSent ∧ counters = s.link.counters ∨
      (∃ matched b echo, c = .collision matched echo ∧ (f.bytes s.rank)[matched]? = some b ∧ echo ≠ .byte b ∧
        f.collisions = 15 ∧
        counters = { s.link.counters with collisions := min (s.link.counters.collisions + 1) 65535,
                                          dropped16 := min (s.link.counters.dropped16 + 1) 65535 })) →
    Completes c s fun t =>
      t.phase = .LOADING ∧ t.supplyLow = false ∧ t.load = { s.load with timer := .running 2000 } ∧ t.store = s.store ∧
      t.link = { Link.reset with
        counters := { counters with restarts := min (s.link.counters.restarts + 1) 65535 } } ∧
      t.roster = s.roster.map (fun e =>
        { rank := e.rank, status := .EXPECTED, beat := none, missed := e.missed, restarts := e.restarts,
          silence := .stopped }) ∧
      t.restartPending = false ∧ t.trips = TripList.reset ∧ t.conds = Conds.reset ∧ t.meas = Meas.reset ∧
      t.budget = Budget.reset ∧ t.reclose = Reclose.reset ∧ t.charge = Switch.reset ∧ t.discharge = Switch.reset ∧
      t.stop = StopLine.reset ∧ t.cfg = Cfg.none ∧ t.beats = { seq := 0, timer := .stopped } ∧
      t.formation = .stopped ∧ t.conflict = false

/-- The characters of every frame that satisfies R158 to R160 are judged that very frame, every field at every value:
what the station encodes, the receive checks read back (R158, R159, R161, R164 to R166). -/
def Obligations.FrameRoundTrip : Prop :=
  ∀ f : RxFrame, f.valid = true → judgeBurst (f.bytes.map .byte) = .valid f

/-! ### Frames of members -/

/-- A valid BEAT from a roster rank makes its entry PRESENT, restarts its silence timer, sets its beat values from the beat's
fields, the digest match by comparison with the own digest, and counts missed beats and restarts from its sequence and phase;
the frames-good counter rises (R80, R82 to R85, R162; a list-full byte that is neither 0 nor 1 is free, log entry 12). That a
repeated sequence with FORMING or HALTED against another held phase raises the restart count is the model's choice between R83
and R84 (log entry 37). Any
frame from a LOST member makes it PRESENT: its MEMBER LOST condition, where TRIPPED, is QUIET and its record CLEARED, and no
record of that origin is stale (R3, R11, R48, R86). -/
def Obligations.BeatUpdatesEntry : Prop :=
  (∀ (src : Byte) (b : BeatFields) (s : State) (e : Entry), s.working = true → s.link.discarding = false →
    rankByteOk src = true → b.wf = true →
    src.toNat ≠ s.rank → s.entry src.toNat = some e →
    Completes (.beat src b) s fun t =>
      let phase : Phase :=
        if b.phase = 1 then .FORMING else if b.phase = 2 then .OPERATING else if b.phase = 3 then .CONFINED else .HALTED
      let switch (code : Byte) : SwState :=
        if code = 1 then .OPEN else if code = 2 then .CLOSING else if code = 3 then .CLOSED
        else if code = 4 then .OPENING else .FAULTED
      t.entry src.toNat = some { e with
        status := .PRESENT, silence := .running (s.cfg.lossLimit * s.cfg.tBeat)
        beat := some
          { seq := b.seq, phase := phase, digestMatch := decide (b.digest = s.load.digest), voltage := b.voltage.toNat
            current := b.current.toInt, chargeState := switch b.chargeState, dischargeState := switch b.dischargeState
            watch := BitVec.ofNat 16 (b.watch.toNat % 1024)
            listFull := if b.listFull = 0 then false else if b.listFull = 1 then true else Config.freeListFull b.listFull
            epoch := b.epoch, count := b.count.toNat, lastRound := b.lastRound.toNat, lastCloser := b.lastCloser.toNat }
        missed := match e.beat with
          | none => e.missed
          | some old => min (e.missed + (if b.seq.toNat < old.seq.toNat ∧ 255 < (b.seq - old.seq).toNat then 0
                                         else (b.seq - old.seq).toNat - 1)) 65535
        restarts := match e.beat with
          | none => e.restarts
          | some old =>
              if (b.seq.toNat < old.seq.toNat ∧ 255 < (b.seq - old.seq).toNat) ∨
                  ((phase = .FORMING ∨ phase = .HALTED) ∧ phase ≠ old.phase) then
                min (e.restarts + 1) 65535
              else e.restarts } ∧
      (∀ r, r ≠ src.toNat → t.entry r = s.entry r) ∧
      t.link.counters.framesGood = min (s.link.counters.framesGood + 1) 65535 ∧
      t.meas = s.meas ∧ t.beats = s.beats ∧ t.stop = s.stop ∧ t.cfg = s.cfg ∧ t.load = s.load) ∧
  (∀ (src : Byte) (c : Instr) (s : State) (e : Entry), s.working = true → s.link.discarding = false →
    rankByteOk src = true → src.toNat ≠ s.rank →
    s.entry src.toNat = some e → e.status = .LOST → c.isMemberFrame src →
    Completes c s fun t =>
      (t.entry src.toNat).map (·.status) = some .PRESENT ∧
      (t.entry src.toNat).map (·.silence) = some (.running (s.cfg.lossLimit * s.cfg.tBeat)) ∧
      (∀ x ∈ t.trips.records, x.origin = src.toNat → x.stale = false) ∧
      (∀ x ∈ t.trips.records, x.origin ≠ src.toNat → ∃ y ∈ s.trips.records, x.key = y.key ∧ x.stale = y.stale) ∧
      ((s.conds.get (lostCond src.toNat)).state = .TRIPPED →
        t.conds.get (lostCond src.toNat) = { state := .QUIET, count := 0, timer := .stopped } ∧
        ∀ x ∈ t.trips.records, x.key = (s.rank, Kind.memberLost, some src.toNat) → x.phase = .CLEARED) ∧
      ((s.conds.get (lostCond src.toNat)).state ≠ .TRIPPED → t.conds = s.conds) ∧
      { t.conds with lost := s.conds.lost } = s.conds)

/-- The phase a BEAT from a roster rank leaves, or any frame that makes its member PRESENT: FORMING goes on to OPERATING
exactly where every entry is PRESENT with digest match YES; OPERATING goes to CONFINED exactly where a PRESENT entry now
holds digest match NO, as after every BEAT with another digest, and as when a LOST member that holds it is heard, with both
switches off and a round left; a frame of that very round, or of the left round, may be taken by the round as
well, before or after (log entry 1). CONFINED goes back exactly where there is no rank conflict and no PRESENT entry with digest match
NO (R86, R91, R93, R94, R116, R123, R139, R202). As the station leaves FORMING, every current-class record is counted; where the frame
brought no new record or trip id and no count, a budget that had joined keeps its count, and one that had not counts each record
not counted yet (R128). -/
def Obligations.PhaseFollowsBeats : Prop :=
  ∀ (src : Byte) (c : Instr) (s : State) (e : Entry), s.working = true → s.link.discarding = false → rankByteOk src = true →
    src.toNat ≠ s.rank → s.entry src.toNat = some e → c.isMemberFrame src →
    ((∃ b, c = .beat src b) ∨ e.status ≠ .PRESENT) →
    Completes c s fun t =>
      (s.phase = .FORMING →
        (t.phase = .OPERATING ↔
          ∀ x ∈ t.roster, x.status = .PRESENT ∧ (x.beat.map (·.digestMatch)) = some true) ∧
        (t.phase = .OPERATING → t.formation = .stopped ∧ t.budget.joined = true) ∧
        (t.phase = .OPERATING → UniqueKeys s → AllCounted t) ∧
        (t.phase = .OPERATING → UniqueKeys s → (∀ b, c = .beat src b → b.phase = 1 ∨ b.phase = 4) →
          t.trips.records.map (fun x => (x.key, x.tripId)) = s.trips.records.map (fun x => (x.key, x.tripId)) →
          BudgetLeavesForming s t) ∧
        (t.phase = .OPERATING ∨ t.phase = .FORMING)) ∧
      (s.phase = .OPERATING →
        (t.phase = .CONFINED ↔ ∃ x ∈ t.roster, x.status = .PRESENT ∧ (x.beat.map (·.digestMatch)) = some false) ∧
        (∀ b, c = .beat src b → b.digest ≠ s.load.digest → t.phase = .CONFINED) ∧
        (∀ b, c = .beat src b → b.digest = s.load.digest → Formed s → t.phase = .OPERATING) ∧
        (t.phase = .CONFINED → t.charge.isOff ∧ t.discharge.isOff ∧ t.reclose.round = none) ∧
        (t.phase = .CONFINED → (∀ r, s.reclose.round = some r → c.roundNumber ≠ some r.number) →
          (∀ n, s.reclose.leftRound = some (n, src.toNat) → c.roundNumber ≠ some n) → LeavesRound bothPaths s t) ∧
        (t.phase = .OPERATING ∨ t.phase = .CONFINED)) ∧
      (s.phase = .CONFINED →
        (t.phase = .OPERATING ↔ s.conflict = false ∧
          ∀ x ∈ t.roster, ¬ (x.status = .PRESENT ∧ (x.beat.map (·.digestMatch)) = some false)) ∧
        (t.phase = .OPERATING ∨ t.phase = .CONFINED)) ∧
      t.conflict = s.conflict

/-- A frame that bears the own rank and is no echo, a REQUEST among them: the rank-conflict flag is set and the station is
CONFINED, its switches off and a round left (R116, R123); where the flag is set already, nothing but the frames-good counter changes. No
such request is answered, nor counted as dropped (R79, R95, R180). A station that so leaves FORMING has every current-class
record counted: a joined budget keeps its count, and one that has not joined counts each record not counted yet (R128). -/
def Obligations.OwnRankConfines : Prop :=
  ∀ (src : Byte) (c : Instr) (s : State), s.working = true → s.link.discarding = false →
    rankByteOk src = true → src.toNat = s.rank →
    s.entry s.rank = none →
    c.isMemberFrame src ∨ c.isRequest src →
    (s.conflict = true → exec c s = .next { s with link := { s.link with counters :=
      { s.link.counters with framesGood := min (s.link.counters.framesGood + 1) 65535 } } }) ∧
    (s.conflict = false → Completes c s fun t =>
      t.conflict = true ∧ t.phase = .CONFINED ∧
      (s.phase = .OPERATING →
        t.charge.isOff ∧ t.discharge.isOff ∧ t.reclose.round = none ∧ LeavesRound bothPaths s t) ∧
      (s.phase = .CONFINED → t.charge = s.charge ∧ t.discharge = s.discharge ∧ t.trips = s.trips) ∧
      (s.phase = .FORMING → BudgetLeavesForming s t ∧ AllCounted t) ∧
      (s.phase ≠ .FORMING → t.budget.epoch = s.budget.epoch ∧ t.budget.count = s.budget.count ∧ t.trips = s.trips) ∧
      t.link.reply = s.link.reply ∧ t.link.counters.requestsDropped = s.link.counters.requestsDropped ∧
      t.restartPending = s.restartPending ∧ t.roster = s.roster ∧ t.conds = s.conds ∧ t.stop = s.stop)

/-- A BEAT from a roster rank replaces the records of that origin and no other: those without an entry leave, those with one
take its trip id, path set and phase in place, and the others join the end in the entries' order while there is room; an entry
without room sets the list-full flag and restarts its timer, whether or not it stood (R4 to R6, R8, R17, R24). The records of
other origins stay, but for what hearing a LOST member and leaving FORMING do (R3, R11, R48, R128). Each current-class trip id
that is new raises the count by 1 within the bound and is counted, before or after the beat's own budget is merged, in
OPERATING and CONFINED, and neither in FORMING (R23, R126 to R130, R163). The switches of every path an ACTIVE record blocks
are off; a record that gains ACTIVE phase or a new trip id, a path newly blocked and the flag as it is set each end a round
they meet (R22, R25, R116, R120); a beat that does none of these leaves switches and round as they are. The entries are the
well-formed ones, the first of each key (R15). -/
def Obligations.BeatReplacesRecords : Prop :=
  (∀ (src : Byte) (b : BeatFields) (s : State) (e : Entry), s.working = true → s.link.discarding = false →
    UniqueKeys s → rankByteOk src = true → b.wf = true →
    src.toNat ≠ s.rank → s.entry src.toNat = some e →
    Completes (.beat src b) s fun t =>
      let entries := readEntries s.cfg.memberCount src.toNat b.records
      let held (x : OwnEntry) : Option Record := findRecord src.toNat x.kind x.subject s.trips.records
      let brought (x : OwnEntry) : Record := broughtRecord (s.phase != .FORMING) src.toNat x x.phase (held x)
      let kept : List Record := s.trips.records.filterMap fun r =>
        if r.origin = src.toNat then (entries.find? fun x => x.kind = r.kind ∧ x.subject = r.subject).map brought else some r
      let fresh := entries.filter fun x => (held x).isNone
      let added := fresh.take (roomBeside s.cfg.memberCount s.rank kept)
      let refused : Prop := roomBeside s.cfg.memberCount s.rank kept < fresh.length
      let taken := entries.filter fun x => (held x).isSome || added.contains x
      let activates (x : OwnEntry) : Prop :=
        x.phase = .ACTIVE ∧ ∀ y, held x = some y → y.phase = .CLEARED ∨ y.tripId ≠ x.tripId
      let counted := (taken.filter fun x =>
        x.kind.currentClass = true ∧ (held x).map (·.tripId) ≠ some x.tripId).length
      let bound := if s.cfg.latchLimit = 0 then 255 else s.cfg.latchLimit
      let merged (count : Nat) : Nat :=
        if b.phase = 1 ∨ b.phase = 4 then count
        else if s.budget.joined = false then min b.count.toNat bound
        else if b.epoch = s.budget.epoch then max count (min b.count.toNat bound)
        else if 128 ≤ (b.epoch - s.budget.epoch).toNat then count
        else min b.count.toNat bound
      t.trips.records = listHeard src.toNat s t (kept ++ added.map brought) ∧
      t.trips.full = (s.trips.full || decide refused) ∧
      t.trips.fullTimer = (if refused then .running s.cfg.tBeat else s.trips.fullTimer) ∧
      t.trips.nextId = s.trips.nextId ∧
      (s.phase = .FORMING → t.phase = .FORMING → t.budget.count = merged s.budget.count) ∧
      (s.phase ≠ .FORMING →
        t.budget.count = countPlus s.cfg.latchLimit (merged s.budget.count) counted ∨
        t.budget.count = merged (countPlus s.cfg.latchLimit s.budget.count counted)) ∧
      (HeldPathsOff s →
        (∀ r ∈ t.trips.records, r.phase = .ACTIVE → ∀ p, r.paths.has p = true → (t.switch p).isOff) ∧
        (refused → t.charge.isOff ∧ t.discharge.isOff) ∧
        (∀ x ∈ taken, activates x → LeavesRound x.paths s t) ∧
        (∀ p, s.blocked p = false → t.blocked p = true → LeavesRound (onlyPath p) s t) ∧
        (refused → s.trips.full = false → LeavesRound bothPaths s t)) ∧
      ((∀ x ∈ taken, x.phase = .ACTIVE →
          (held x).map (fun y => (y.phase, y.tripId, y.paths)) = some (.ACTIVE, x.tripId, x.paths)) →
        ¬ refused ∨ s.trips.full = true → t.phase = s.phase →
        t.charge = s.charge ∧ t.discharge = s.discharge ∧
        (∀ r, s.reclose.round = some r → t.reclose.round = some r))) ∧
  (∀ (n src : Nat) (es : List EntryBytes),
    let read := es.filterMap (EntryBytes.read n src)
    let entries := readEntries n src es
    entries.Sublist read ∧ (entries.map fun x => (x.kind, x.subject)).Nodup ∧
    ∀ (i : Nat) (x : OwnEntry), read[i]? = some x →
      (∀ y ∈ read.take i, ¬ (y.kind = x.kind ∧ y.subject = x.subject)) → x ∈ entries)

/-- A BEAT of an OPERATING or CONFINED member merges into a joined budget: a newer epoch is taken, an older one changes
nothing, and of equal epochs the larger count is taken; a budget that has not joined takes the beat's epoch and joins. A
beat that reports FORMING or HALTED leaves the epoch (R129, R130). The count may rise further by the beat's records
(R127). A station in IDLE takes the last round and the last closer from the BEAT of the rank it takes as coordinator, before
or after the beat has moved that choice, and from no other beat (R99, R163). -/
def Obligations.BeatMergesBudget : Prop :=
  (∀ (src : Byte) (b : BeatFields) (s : State) (e : Entry), s.working = true → s.link.discarding = false →
    rankByteOk src = true → b.wf = true →
    src.toNat ≠ s.rank → s.entry src.toNat = some e →
    Completes (.beat src b) s fun t =>
      let bounded := min b.count.toNat (countBound s.cfg.latchLimit)
      (b.phase = 2 ∨ b.phase = 3 → s.budget.joined = true →
        t.budget.joined = true ∧
        (1 ≤ (b.epoch - s.budget.epoch).toNat ∧ (b.epoch - s.budget.epoch).toNat ≤ 127 →
          t.budget.epoch = b.epoch ∧ bounded ≤ t.budget.count) ∧
        (b.epoch = s.budget.epoch →
          t.budget.epoch = s.budget.epoch ∧ max s.budget.count bounded ≤ t.budget.count) ∧
        (128 ≤ (b.epoch - s.budget.epoch).toNat →
          t.budget.epoch = s.budget.epoch ∧ s.budget.count ≤ t.budget.count)) ∧
      (b.phase = 2 ∨ b.phase = 3 → s.budget.joined = false →
        t.budget.joined = true ∧
        (t.phase = .FORMING → t.budget.epoch = b.epoch ∧ t.budget.count = bounded)) ∧
      (b.phase = 1 ∨ b.phase = 4 → t.budget.epoch = s.budget.epoch ∧ s.budget.count ≤ t.budget.count)) ∧
  (∀ (src : Byte) (b : BeatFields) (s : State) (e : Entry), s.working = true → s.link.discarding = false →
    rankByteOk src = true → b.wf = true →
    src.toNat ≠ s.rank → s.entry src.toNat = some e → s.reclose.round = none →
    Completes (.beat src b) s fun t =>
      let adopted : Prop := t.reclose.lastRound = b.lastRound.toNat ∧ t.reclose.lastCloser = b.lastCloser.toNat
      let kept : Prop := t.reclose.lastRound = s.reclose.lastRound ∧ t.reclose.lastCloser = s.reclose.lastCloser
      (s.coordinator = some src.toNat → t.coordinator = some src.toNat → adopted) ∧
      (s.coordinator ≠ some src.toNat → t.coordinator ≠ some src.toNat → kept) ∧
      (adopted ∨ kept))

/-- A NOTICE from a roster rank whose entry is well formed: its record is ACTIVE with the NOTICE's trip id and path set,
and the switches of its paths are off, where the record is present or there is room; otherwise the list-full flag is set
and its timer starts. A record that gains ACTIVE phase or a new trip id ends a round its paths meet, and so does the flag as
it is set (R22, R25, R116, R120). No other record changes, but for what hearing a LOST member and leaving FORMING do (R3,
R11, R16, R48, R128); a current-class trip id that is new raises the count by 1 within the bound and is counted in OPERATING and
CONFINED, and neither in FORMING (R23, R126 to R128). A SHORT satisfies an open explanation window; any other kind leaves it
(R8, R16, R22, R24, R152). An entry is well formed, and reads as it does, by R15 and the bytes of R165. -/
def Obligations.NoticeAddsOrActivates : Prop :=
  (∀ (src : Byte) (n : EntryBytes) (s : State) (e : Entry) (x : OwnEntry), s.working = true → s.link.discarding = false →
    HeldPathsOff s →
    rankByteOk src = true → src.toNat ≠ s.rank → s.entry src.toNat = some e →
    n.read s.cfg.memberCount src.toNat = some x →
    Completes (.notice src n) s fun t =>
      let held := findRecord src.toNat x.kind x.subject s.trips.records
      let brought := broughtRecord (s.phase != .FORMING) src.toNat x .ACTIVE held
      let room : Prop := 0 < roomBeside s.cfg.memberCount s.rank s.trips.records
      (held.isSome = true ∨ room →
        (∃ r ∈ t.trips.records, r.origin = src.toNat ∧ r.kind = x.kind ∧ r.subject = x.subject ∧
          r.tripId = x.tripId ∧ r.paths = x.paths ∧ r.phase = .ACTIVE) ∧
        (∀ p, x.paths.has p = true → (t.switch p).isOff) ∧
        t.trips.full = s.trips.full ∧ t.trips.fullTimer = s.trips.fullTimer ∧
        ((∀ y, held = some y → y.phase = .CLEARED ∨ y.tripId ≠ x.tripId) → LeavesRound x.paths s t) ∧
        (∀ p, s.blocked p = false → t.blocked p = true → LeavesRound (onlyPath p) s t)) ∧
      (held = none → ¬ room →
        t.trips.full = true ∧ t.trips.fullTimer = .running s.cfg.tBeat ∧
        t.trips.records.length = s.trips.records.length ∧ t.charge.isOff ∧ t.discharge.isOff ∧
        (s.trips.full = false → LeavesRound bothPaths s t)) ∧
      (UniqueKeys s →
        t.trips.records = listHeard src.toNat s t (match held with
          | some y => s.trips.records.map fun r =>
              if r.origin = src.toNat ∧ r.kind = x.kind ∧ r.subject = x.subject then { brought with stale := y.stale }
              else r
          | none => if room then s.trips.records ++ [brought] else s.trips.records) ∧
        (s.phase = .FORMING → t.phase = .FORMING → t.budget.count = s.budget.count) ∧
        (s.phase ≠ .FORMING → t.budget.count =
          if x.kind.currentClass = true ∧ held.map (·.tripId) ≠ some x.tripId ∧ (held.isSome = true ∨ room) then
            countPlus s.cfg.latchLimit s.budget.count 1
          else s.budget.count)) ∧
      t.trips.nextId = s.trips.nextId ∧ t.budget.epoch = s.budget.epoch ∧
      (x.kind = .short → t.stop = { s.stop with window := .stopped }) ∧ (x.kind ≠ .short → t.stop = s.stop) ∧
      t.meas = s.meas ∧ t.beats = s.beats ∧ t.cfg = s.cfg) ∧
  (∀ (n src : Nat) (e : EntryBytes) (x : OwnEntry), e.read n src = some x ↔ ReadsAs n src e x)

/-- A PROPOSE taken in IDLE from a PRESENT member, not malformed: with every check of R107 passed it is accepted and the
round stored in ANSWERED; else it is declined with the reason of the first check that fails and the station stays IDLE.
Either way one ANSWER joins the round slot; a full one loses its older frame, counted, and cut off if it is being sent (R106,
R107, R108, R172, R174). Taken in a round: one with another number is ignored,
a repetition of the one accepted draws a further ACCEPT, any other a DECLINE with reason BUSY, and the round is unchanged
(R109). A malformed one only shows its source alive (R106). -/
def Obligations.ProposeAnswered : Prop :=
  (∀ (src round paths closer count crc : Byte) (s : State) (e : Entry), s.working = true → s.link.discarding = false →
    Formed s →
    rankByteOk src = true → src.toNat ≠ s.rank → s.entry src.toNat = some e → e.status = .PRESENT → s.reclose.round = none →
    round ≠ 0 → 1 ≤ paths.toNat → paths.toNat ≤ 3 → 1 ≤ closer.toNat → closer.toNat ≤ s.cfg.memberCount →
    Completes (.propose src round paths closer count crc) s fun t =>
      let ps := PathSet.ofCode paths.toNat
      let set := retirementSet s.trips.records ps
      let reason : Nat :=
        if s.phase ≠ .OPERATING then 7
        else if s.coordinator ≠ some src.toNat then 1
        else if s.stop.sense = true then 8
        else if s.trips.full = true then 5
        else if s.charge.state = .FAULTED ∨ s.discharge.state = .FAULTED ∨
            (ps.charge = true ∧ s.charge.state = .OPENING) ∨ (ps.discharge = true ∧ s.discharge.state = .OPENING) then 9
        else if (ps.charge = true ∧ s.blocked .charge = true) ∨ (ps.discharge = true ∧ s.blocked .discharge = true) then 2
        else if s.watchMeets ps = true then 3
        else if s.latched = true ∧ (∃ k ∈ set, k.kind.currentClass = true) then 6
        else if set.length ≠ count.toNat ∨ retirementCrc set ≠ crc then 4
        else 0
      let answer : Content := if reason = 0 then .answer round 1 0 else .answer round 2 (byteOf reason)
      let taken : Round :=
        { stage := .ANSWERED, number := round.toNat, paths := ps, coordinator := src.toNat, closer := closer.toNat
          role := if closer.toNat = s.rank then .closer else .member
          retire := set, digestCount := count.toNat, digestCrc := crc
          accepts := [], closedHeld := [], closedSet := { charge := false, discharge := false }
          window := .running (3 * s.cfg.tBeat) }
      t.reclose = { s.reclose with round := if reason = 0 then some taken else none } ∧
      t.link.rounds = (if s.link.rounds.length < 2 then s.link.rounds else s.link.rounds.tail) ++
        [{ dst := src, content := answer, collisions := 0 }] ∧
      t.link.counters.roundsReplaced =
        (if s.link.rounds.length < 2 then s.link.counters.roundsReplaced
         else min (s.link.counters.roundsReplaced + 1) 65535) ∧
      (s.link.rounds.length < 2 ∨ s.link.sending ≠ some .round →
        t.link.sending = s.link.sending ∧ t.link.cut = s.link.cut) ∧
      (2 ≤ s.link.rounds.length → s.link.sending = some .round → t.link.sending = none ∧ t.link.cut = true) ∧
      t.charge = s.charge ∧ t.discharge = s.discharge ∧ t.trips = s.trips ∧ t.conds = s.conds ∧ t.stop = s.stop ∧
      t.budget.epoch = s.budget.epoch ∧ t.budget.count = s.budget.count ∧ t.phase = s.phase ∧ t.meas = s.meas) ∧
  (∀ (src round paths closer count crc : Byte) (s : State) (e : Entry), s.working = true → s.link.discarding = false →
    Formed s →
    rankByteOk src = true → src.toNat ≠ s.rank → s.entry src.toNat = some e → e.status = .PRESENT →
    let malformed : Prop :=
      round = 0 ∨ paths = 0 ∨ 3 < paths.toNat ∨ closer = 0 ∨ s.cfg.memberCount < closer.toNat
    let counted : Counters :=
      { s.link.counters with framesGood := min (s.link.counters.framesGood + 1) 65535 }
    let heard : State := { s with
      roster := s.roster.map (fun e =>
        if e.rank = src.toNat then { e with status := .PRESENT, silence := .running (s.cfg.lossLimit * s.cfg.tBeat) }
        else e)
      link := { s.link with counters := counted } }
    (malformed → exec (.propose src round paths closer count crc) s = .next heard) ∧
    (∀ r, s.reclose.round = some r → ¬ malformed →
      let repeats : Prop :=
        r.coordinator = src.toNat ∧ r.stage = .ANSWERED ∧ r.paths = PathSet.ofCode paths.toNat ∧
        r.closer = closer.toNat ∧ r.digestCount = count.toNat ∧ r.digestCrc = crc
      let answered (answer : Content) : Prop :=
        Completes (.propose src round paths closer count crc) s fun t =>
          t.link.rounds = (if s.link.rounds.length < 2 then s.link.rounds else s.link.rounds.tail) ++
            [{ dst := src, content := answer, collisions := 0 }] ∧
          { t with link := heard.link } = heard ∧ t.link.notices = s.link.notices ∧ t.link.beat = s.link.beat ∧
          t.link.reply = s.link.reply
      (r.number ≠ round.toNat → exec (.propose src round paths closer count crc) s = .next heard) ∧
      (r.number = round.toNat → repeats → answered (.answer round 1 0)) ∧
      (r.number = round.toNat → ¬ repeats → answered (.answer round 2 10))))

/-- At the coordinator in COLLECTING, an ACCEPT from a PRESENT member joins the accepts held; the last one queues PROCEED
and moves on to GATHERING as closer, else closes each OPEN round switch that no cause holds and waits in CLOSING, or in
CLOSED-WAIT with CLOSED queued where every one is CLOSED already; a DECLINE queues ABANDON, counts and ends the round
(R110, R111, R112, R113, R120, R141). -/
def Obligations.AnswerGathersOrAbandons : Prop :=
  ∀ (src dst round answer reason : Byte) (s : State) (e : Entry) (r : Round), s.working = true → s.link.discarding = false →
    rankByteOk src = true → dst.toNat = s.rank → src.toNat ≠ s.rank → s.entry src.toNat = some e →
    e.status = .PRESENT → s.reclose.round = some r → r.stage = .COLLECTING → round.toNat = r.number →
    Completes (.answer src dst round answer reason) s fun t =>
      (answer = 1 → s.coversRoster (insertRank src.toNat r.accepts) = false →
        t.reclose.round = some { r with accepts := insertRank src.toNat r.accepts } ∧
        t.charge = s.charge ∧ t.discharge = s.discharge) ∧
      (answer = 1 → s.coversRoster (insertRank src.toNat r.accepts) = true →
        (∃ f ∈ t.link.rounds, f.content = .proceed round) ∧
        ∃ r', t.reclose.round = some r' ∧ r'.number = r.number ∧ r'.paths = r.paths ∧
          (r.role.closes = true →
            r'.stage = .GATHERING ∧ r'.window = .running (2 * s.cfg.tBeat) ∧ t.charge = s.charge ∧
              t.discharge = s.discharge) ∧
          (r.role.closes = false →
            (∀ p, t.switch p =
              if r.paths.has p = true ∧ (s.switch p).state = .OPEN ∧ s.held p = false then
                { s.switch p with state := .CLOSING, gate := true, limit := .running 4000 }
              else s.switch p) ∧
            (∀ p, r'.closedSet.has p =
              (r.closedSet.has p || (r.paths.has p && (s.switch p).state == .OPEN))) ∧
            (if s.allClosed r.paths = true then
              r'.stage = .CLOSED_WAIT ∧ r'.window = .running (3 * s.cfg.tBeat) ∧
                ∃ f ∈ t.link.rounds, f.content = .closed round
             else r'.stage = .CLOSING ∧ r'.window = .stopped))) ∧
      (answer = 2 →
        t.link.counters.roundsAbandoned = min (s.link.counters.roundsAbandoned + 1) 65535 ∧
        (∃ f ∈ t.link.rounds, f.content = .abandon (byteOf r.number)) ∧
        (∀ p, r.paths.has p = true → t.reclose.holdOff p = .running s.cfg.holdOffTime) ∧
        (t.reclose.round = none ∨
          ∃ r', t.reclose.round = some r' ∧ r'.stage = .COLLECTING ∧ r'.coordinator = s.rank)) ∧
      (answer ≠ 1 → answer ≠ 2 → t.reclose = s.reclose) ∧
      t.trips = s.trips ∧ t.conds = s.conds ∧ t.stop = s.stop ∧ t.phase = s.phase

/-- PROCEED from the round's coordinator in ANSWERED: the closer gathers; a member closes each OPEN round switch that no
cause holds, and waits in CLOSING, or in CLOSED-WAIT with CLOSED queued where every one is CLOSED already. In IDLE, a
PROCEED for the left round draws an ABANDON and clears it (R111, R112, R113, R118, R141). -/
def Obligations.ProceedCloses : Prop :=
  (∀ (src round : Byte) (s : State) (e : Entry) (r : Round), s.working = true → s.link.discarding = false →
    rankByteOk src = true →
    src.toNat ≠ s.rank → s.entry src.toNat = some e → e.status = .PRESENT → s.reclose.round = some r →
    r.stage = .ANSWERED → round.toNat = r.number → r.coordinator = src.toNat →
    Completes (.proceed src round) s fun t =>
      (r.role.closes = true →
        t.reclose.round = some { r with stage := .GATHERING, window := .running (2 * s.cfg.tBeat) } ∧
        t.charge = s.charge ∧ t.discharge = s.discharge) ∧
      (r.role.closes = false →
        (∀ p, t.switch p =
          if r.paths.has p = true ∧ (s.switch p).state = .OPEN ∧ s.held p = false then
            { s.switch p with state := .CLOSING, gate := true, limit := .running 4000 }
          else s.switch p) ∧
        ∃ r', t.reclose.round = some r' ∧ r'.number = r.number ∧
          (∀ p, r'.closedSet.has p =
            (r.closedSet.has p || (r.paths.has p && (s.switch p).state == .OPEN))) ∧
          (if s.allClosed r.paths = true then
            r'.stage = .CLOSED_WAIT ∧ r'.window = .running (3 * s.cfg.tBeat) ∧
              ∃ f ∈ t.link.rounds, f.content = .closed round
           else r'.stage = .CLOSING ∧ r'.window = .stopped)) ∧
      t.trips = s.trips ∧ t.conds = s.conds ∧ t.stop = s.stop ∧ t.phase = s.phase) ∧
  (∀ (src round : Byte) (s : State) (e : Entry), s.working = true → s.link.discarding = false →
    Formed s → rankByteOk src = true →
    src.toNat ≠ s.rank → s.entry src.toNat = some e → e.status = .PRESENT → s.reclose.round = none →
    s.reclose.leftRound = some (round.toNat, src.toNat) →
    Completes (.proceed src round) s fun t =>
      t.reclose = { s.reclose with leftRound := none } ∧
      (∃ f ∈ t.link.rounds, f.content = .abandon round) ∧
      t.charge = s.charge ∧ t.discharge = s.discharge ∧ t.trips = s.trips ∧ t.link.counters.roundsAbandoned =
        s.link.counters.roundsAbandoned)

/-- At the closer, a CLOSED from a PRESENT member is held, in ANSWERED with entry to GATHERING; once every roster rank's
is held, the closer closes each OPEN round switch that no cause holds and waits in FINISHING, or queues COMPLETE and
completes at once, back in IDLE or in a round it then starts, where every one is CLOSED already (R111, R113, R114). -/
def Obligations.ClosedGathered : Prop :=
  ∀ (src round : Byte) (s : State) (e : Entry) (r : Round), s.working = true → s.link.discarding = false →
    rankByteOk src = true →
    src.toNat ≠ s.rank → s.entry src.toNat = some e → e.status = .PRESENT → s.reclose.round = some r →
    (r.stage = .ANSWERED ∨ r.stage = .GATHERING) → r.role.closes = true → round.toNat = r.number →
    Completes (.closed src round) s fun t =>
      let held := insertRank src.toNat r.closedHeld
      (s.coversRoster held = false →
        t.reclose.round = some { r with
          stage := .GATHERING, closedHeld := held
          window := if r.stage = .ANSWERED then .running (2 * s.cfg.tBeat) else r.window } ∧
        t.charge = s.charge ∧ t.discharge = s.discharge ∧ t.trips = s.trips) ∧
      (s.coversRoster held = true → s.allClosed r.paths = false →
        (∃ r', t.reclose.round = some r' ∧ r'.stage = .FINISHING ∧ r'.window = .stopped ∧ r'.closedHeld = held) ∧
        (∀ p, t.switch p =
          if r.paths.has p = true ∧ (s.switch p).state = .OPEN ∧ s.held p = false then
            { s.switch p with state := .CLOSING, gate := true, limit := .running 4000 }
          else s.switch p) ∧
        t.trips = s.trips) ∧
      (s.coversRoster held = true → s.allClosed r.paths = true →
        (∃ f ∈ t.link.rounds, f.dst = 0 ∧ f.content = .complete round) ∧
        t.reclose.lastRound = r.number ∧ t.reclose.lastCloser = r.closer ∧
        (t.reclose.round = none ∨
          ∃ r', t.reclose.round = some r' ∧ r'.stage = .COLLECTING ∧ r'.coordinator = s.rank) ∧
        t.trips.records = s.trips.records.filter (fun x => !r.retire.any fun k => k.retires x) ∧
        t.charge = s.charge ∧ t.discharge = s.discharge) ∧
      t.conds = s.conds ∧ t.stop = s.stop ∧ t.phase = s.phase

/-- COMPLETE from the round's closer, a PRESENT member: in CLOSED-WAIT the retirement set leaves the list, the last round
and last closer move on and the station leaves the round; in ANSWERED and CLOSING it is taken as an ABANDON (R20, R99,
R115, R117, R120). -/
def Obligations.CompleteRetires : Prop :=
  ∀ (src round : Byte) (s : State) (e : Entry) (r : Round), s.working = true → s.link.discarding = false →
    rankByteOk src = true →
    src.toNat ≠ s.rank → s.entry src.toNat = some e → e.status = .PRESENT → s.reclose.round = some r →
    round.toNat = r.number → r.closer = src.toNat →
    Completes (.complete src round) s fun t =>
      (r.stage = .CLOSED_WAIT →
        t.trips.records = s.trips.records.filter (fun x => !r.retire.any fun k => k.retires x) ∧
        t.reclose.lastRound = r.number ∧ t.reclose.lastCloser = r.closer ∧
        t.charge = s.charge ∧ t.discharge = s.discharge ∧
        t.link.counters.roundsAbandoned = s.link.counters.roundsAbandoned) ∧
      (r.stage = .ANSWERED ∨ r.stage = .CLOSING →
        t.link.counters.roundsAbandoned = min (s.link.counters.roundsAbandoned + 1) 65535 ∧
        (∀ p, r.closedSet.has p = true → (t.switch p).isOff) ∧
        t.trips = s.trips ∧ t.reclose.lastRound = s.reclose.lastRound ∧
        t.reclose.leftRound = s.reclose.leftRound) ∧
      (r.stage = .CLOSED_WAIT ∨ r.stage = .ANSWERED ∨ r.stage = .CLOSING →
        (t.reclose.round = none ∨
          ∃ r', t.reclose.round = some r' ∧ r'.stage = .COLLECTING ∧ r'.coordinator = s.rank)) ∧
      (r.stage = .COLLECTING ∨ r.stage = .GATHERING ∨ r.stage = .FINISHING → t.reclose = s.reclose) ∧
      t.conds = s.conds ∧ t.stop = s.stop ∧ t.phase = s.phase

/-- An ABANDON for the station's round from a PRESENT member ends it: the closed set's switches are off, the hold-off of
the round's paths restarts, the abandoned counter rises, the left round stays, and no record changes (R100, R117, R118,
R120). -/
def Obligations.AbandonEndsRound : Prop :=
  ∀ (src round : Byte) (s : State) (e : Entry) (r : Round), s.working = true → s.link.discarding = false →
    rankByteOk src = true →
    src.toNat ≠ s.rank → s.entry src.toNat = some e → e.status = .PRESENT → s.reclose.round = some r →
    round.toNat = r.number →
    Completes (.abandon src round) s fun t =>
      (∀ p, r.closedSet.has p = true → (t.switch p).isOff) ∧
      (∀ p, r.closedSet.has p = false → t.switch p = s.switch p) ∧
      (∀ p, r.paths.has p = true → t.reclose.holdOff p = .running s.cfg.holdOffTime) ∧
      t.link.counters.roundsAbandoned = min (s.link.counters.roundsAbandoned + 1) 65535 ∧
      t.reclose.leftRound = s.reclose.leftRound ∧ t.reclose.lastRound = s.reclose.lastRound ∧
      (t.reclose.round = none ∨
        ∃ r', t.reclose.round = some r' ∧ r'.stage = .COLLECTING ∧ r'.coordinator = s.rank) ∧
      t.trips = s.trips ∧ t.conds = s.conds ∧ t.stop = s.stop ∧ t.phase = s.phase

/-- A REPLY counts as a good frame and shows its source alive: a PRESENT member's silence timer restarts and nothing else
changes (R79, R80, R163). A member's frame from a rank that is neither the own nor in the roster, or at a HALTED station,
changes nothing but the counter (R79, R163). A BEAT out of its ranges only counts as a bad frame (R161). Before the medium has
been idle after LOADING, no frame of a member and no request changes anything (R157, R178). -/
def Obligations.FramesOnlyHeard : Prop :=
  (∀ (src dst : Byte) (payload : List Byte) (s : State), s.working = true → s.link.discarding = false →
    Formed s → rankByteOk src = true →
      rankByteOk dst = true → payload.length % 2 = 0 → payload.length ≤ 192 → src.toNat ≠ s.rank →
      (∀ e, s.entry src.toNat = some e → e.status = .PRESENT) →
      exec (.reply src dst payload) s = .next { s with
        roster := s.roster.map (fun e =>
          if e.rank = src.toNat then { e with status := .PRESENT, silence := .running (s.cfg.lossLimit * s.cfg.tBeat) }
          else e)
        link := { s.link with counters :=
          { s.link.counters with framesGood := min (s.link.counters.framesGood + 1) 65535 } } }) ∧
  (∀ (src : Byte) (c : Instr) (s : State), s.link.discarding = true → c.isMemberFrame src ∨ c.isRequest src →
    exec c s = .next s) ∧
  (∀ (src : Byte) (c : Instr) (s : State), s.link.discarding = false → rankByteOk src = true → c.isMemberFrame src →
    (s.phase = .HALTED ∨ s.working = true ∧ src.toNat ≠ s.rank ∧ s.entry src.toNat = none) →
    exec c s = .next { s with link := { s.link with counters :=
      { s.link.counters with framesGood := min (s.link.counters.framesGood + 1) 65535 } } }) ∧
  (∀ (src : Byte) (b : BeatFields) (s : State), s.phase ≠ .LOADING → s.link.discarding = false →
    (rankByteOk src = false ∨ b.wf = false) →
    exec (.beat src b) s = .next { s with link := { s.link with counters :=
      { s.link.counters with badFrames := min (s.link.counters.badFrames + 1) 65535 } } })

/-! ### Requests -/

/-- The six reading requests, taken with the reply slot empty from a source that is not the own rank (and, where it is a
member, PRESENT): one REPLY with the status DONE and the data of R184 to R190, and no side effect but the counter and the
source's silence timer (R181, R182, R184, R185, R186, R187, R188, R190). READ LIST of a page above 7 is REFUSED with BAD
ARGUMENT (R185), READ ROSTER with NOT EVALUATING in HALTED and otherwise with BAD ARGUMENT for a rank not in the roster
(R186), with no data and no more effect. The data of READ STATUS, READ LIST, READ ROSTER and READ MEASUREMENTS are those of the
tables of R184, R185, R186 and R187, byte by byte; a silence time that is no whole number of milliseconds is rounded either way
(log entry 13). -/
def Obligations.ReadingAnswersDone : Prop :=
  (∀ (h : ReqHead) (c : Instr) (code status reason : Byte) (data : List Byte) (s : State),
    s.phase ≠ .LOADING → s.link.discarding = false → Formed s → rankByteOk h.src = true → h.dst.toNat = s.rank →
    h.src.toNat ≠ s.rank → (∀ e, s.entry h.src.toNat = some e → e.status = .PRESENT) → s.link.reply = none →
    (status = 1 ∧ reason = 0 ∧
        (c = .readStatus h [] ∧ code = 1 ∧ data = statusData s ∨
          (∃ page pad, c = .readList h [page, pad] ∧ code = 2 ∧ page.toNat ≤ 7 ∧
            data = pageData page.toNat s.trips.records ++ [0]) ∨
          (∃ rank pad e, c = .readRoster h [rank, pad] ∧ code = 3 ∧ s.phase ≠ .HALTED ∧ rank ≠ h.src ∧
            s.entry rank.toNat = some e ∧ data = rosterData e) ∨
          c = .readMeasurements h [] ∧ code = 4 ∧ data = measurementsData s.meas ∨
          c = .readCounters h [] ∧ code = 5 ∧ data = (s.link.counters.good.list.flatMap natBytes) ∨
          c = .readConfiguration h [] ∧ code = 7 ∧
            data = [byteOf s.load.strap.toNat, byteOf s.load.haltCause] ++ halfBytes s.load.digest ++
              s.store.block.toList) ∨
      status = 2 ∧ data = [] ∧
        ((∃ page pad, c = .readList h [page, pad] ∧ code = 2 ∧ 7 < page.toNat ∧ reason = 1) ∨
          (∃ rank pad, c = .readRoster h [rank, pad] ∧ code = 3 ∧
            (s.phase = .HALTED ∧ reason = 2 ∨ s.phase ≠ .HALTED ∧ s.entry rank.toNat = none ∧ reason = 1)))) →
    Completes c s fun t =>
      t.link = { s.link with
        reply := some { dst := h.src, content := .reply ([code, h.tag, status, reason] ++ data), collisions := 0 }
        counters := { s.link.counters with framesGood := min (s.link.counters.framesGood + 1) 65535 } } ∧
      t.trips = s.trips ∧ t.conds = s.conds ∧ t.meas = s.meas ∧ t.budget = s.budget ∧ t.reclose = s.reclose ∧
      t.charge = s.charge ∧ t.discharge = s.discharge ∧ t.stop = s.stop ∧ t.phase = s.phase ∧
      t.restartPending = s.restartPending ∧ t.load = s.load ∧ t.cfg = s.cfg) ∧
  (∀ s : State, statusData s =
    phaseByte s.phase ++ oneByte s.load.haltCause ++ oneByte (s.load.strap.toNat + 1) ++ oneByte s.cfg.memberCount ++
    flagByte s.conflict ++ flagByte s.trips.full ++ oneByte s.trips.records.length ++
    switchByte s.charge.state ++ switchByte s.discharge.state ++ flagByte s.stop.driving ++ flagByte s.stop.sense ++
    flagByte (s.stop.window != .stopped) ++ oneByte (s.coordinator.getD 0) ++
    flagByte (PackClosed s .charge) ++ flagByte (PackClosed s .discharge) ++
    roundBytes s.reclose.round ++ oneByte s.reclose.lastRound ++ oneByte s.reclose.lastCloser ++
    [s.budget.epoch] ++ oneByte s.budget.count ++
    flagByte (s.cfg.latchLimit ≠ 0 ∧ s.budget.count = s.cfg.latchLimit) ++ flagByte s.budget.joined ++
    twoBytes (watchNumber s.conds) ++ twoBytes s.beats.seq.toNat ++ twoBytes s.load.digest.toNat ++
    oneByte s.trips.nextId ++ [0]) ∧
  (∀ (page : Nat) (l : List Record),
    let entries := (l.drop (8 * page)).take 8
    pageData page l = oneByte page ++ oneByte l.length ++ oneByte (min 8 (l.length - 8 * page)) ++
      entries.flatMap fun r => oneByte r.origin ++ oneByte r.kind.code ++ oneByte (r.subject.getD 0) ++ oneByte r.tripId ++
        oneByte ((if r.paths.charge = true then 1 else 0) + (if r.paths.discharge = true then 2 else 0) +
          (if r.phase = .CLEARED then 128 else 0)) ++
        oneByte ((if r.stale = true then 1 else 0) + (if r.counted = true then 2 else 0))) ∧
  (∀ e : Entry, ∃ ms : Nat,
    (e.silence = .stopped → ms = 0) ∧
    (∀ left, e.silence = .running left → ms = left / 1000 ∨ left % 1000 ≠ 0 ∧ ms = left / 1000 + 1) ∧
    rosterData e =
      oneByte e.rank ++
      oneByte (match e.status with | .EXPECTED => 1 | .PRESENT => 2 | .LOST => 3) ++ flagByte e.beat.isSome ++
      twoBytes (match e.beat with | some b => b.seq.toNat | none => 0) ++ twoBytes e.missed ++ twoBytes e.restarts ++
      (match e.beat with
       | some b => phaseByte b.phase ++ oneByte (if b.digestMatch = true then 1 else 2) ++ twoBytes b.voltage ++
           twoSigned b.current ++ switchByte b.chargeState ++ switchByte b.dischargeState ++ twoBytes b.watch.toNat ++
           flagByte b.listFull ++ [b.epoch] ++ oneByte b.count ++ oneByte b.lastRound ++ oneByte b.lastCloser
       | none => List.replicate 15 0) ++
      flagByte (e.silence != .stopped) ++ twoBytes ms ++ [0]) ∧
  (∀ m : Meas, measurementsData m =
    flagByte m.scan.isSome ++ flagByte m.sample.isSome ++ flagByte m.average.isSome ++ flagByte m.comparator ++
    (match m.scan with
     | some r => oneByte r.cells.length ++ oneByte r.codes.length ++ twoBytes (r.cells.sum / 2) ++ twoSigned r.die
     | none => [0, 0, 0, 0, 0, 0]) ++
    twoSigned (m.sample.getD 0) ++ twoSigned (m.average.getD 0) ++
    (match m.scan with
     | some r => r.cells.flatMap twoBytes ++ r.codes.flatMap twoBytes
     | none => []))

/-- CLEAR COUNTERS sets the eleven link counters and both counts of every roster entry to 0; its reply is DONE with no
data (R189). -/
def Obligations.ClearCountersZeroes : Prop :=
  ∀ (h : ReqHead) (s : State), s.phase ≠ .LOADING → s.link.discarding = false →
    Formed s → rankByteOk h.src = true → h.dst.toNat = s.rank →
    h.src.toNat ≠ s.rank → (∀ e, s.entry h.src.toNat = some e → e.status = .PRESENT) → s.link.reply = none →
    Completes (.clearCounters h []) s fun t =>
      t.link.counters = Counters.zero ∧ (∀ e ∈ t.roster, e.missed = 0 ∧ e.restarts = 0) ∧
      t.roster.map (·.rank) = s.roster.map (·.rank) ∧ t.roster.map (·.beat) = s.roster.map (·.beat) ∧
      t.link.reply = some { dst := h.src, content := .reply [6, h.tag, 1, 0], collisions := 0 } ∧
      t.trips = s.trips ∧ t.conds = s.conds ∧ t.budget = s.budget ∧ t.reclose = s.reclose ∧
      t.charge = s.charge ∧ t.discharge = s.discharge ∧ t.stop = s.stop ∧ t.phase = s.phase

/-- PLACE HOLD (R12, R51, R191): BAD ARGUMENT for a code other than 1, 2 and 3, then NOT EVALUATING in HALTED; otherwise
HOLD is TRIPPED with the named path set, its record is ACTIVE with it, its paths' switches are off, and the trip id is
the next one unless the hold stood with the same path set, when nothing changes; its NOTICE, kind 13 with that trip id and
path set, is queued where there is room (R13, R165). A round whose paths the hold meets is left
(R22, R116). -/
def Obligations.PlaceHoldHolds : Prop :=
  ∀ (h : ReqHead) (code pad : Byte) (s : State), s.phase ≠ .LOADING → s.link.discarding = false →
    HeldPathsOff s → rankByteOk h.src = true →
    h.dst.toNat = s.rank → h.src.toNat ≠ s.rank → s.entry h.src.toNat = none → s.link.reply = none →
    Completes (.placeHold h [code, pad]) s fun t =>
      let refused (reason : Byte) : Prop :=
        t = { s with link := { s.link with
          reply := some { dst := h.src, content := .reply [8, h.tag, 2, reason], collisions := 0 }
          counters := { s.link.counters with framesGood := min (s.link.counters.framesGood + 1) 65535 } } }
      (code.toNat = 0 ∨ 3 < code.toNat → refused 1) ∧
      (1 ≤ code.toNat → code.toNat ≤ 3 → s.phase = .HALTED → refused 2) ∧
      (1 ≤ code.toNat → code.toNat ≤ 3 → s.phase ≠ .HALTED →
        let ps := PathSet.ofCode code.toNat
        t.link.reply = some { dst := h.src, content := .reply [8, h.tag, 1, 0], collisions := 0 } ∧
        (s.conds.hold.state = .TRIPPED ∧
            (findRecord s.rank .hold none s.trips.records).map (·.paths) = some ps →
          t.conds = s.conds ∧ t.trips = s.trips ∧ t.link.notices = s.link.notices) ∧
        (¬ (s.conds.hold.state = .TRIPPED ∧
            (findRecord s.rank .hold none s.trips.records).map (·.paths) = some ps) →
          t.conds = { s.conds with hold := { state := .TRIPPED, count := 0, timer := .stopped },
                                   holdPaths := some ps } ∧
          (∃ r, findRecord s.rank .hold none t.trips.records = some r ∧ r.phase = .ACTIVE ∧ r.paths = ps ∧
            r.tripId = s.trips.nextId) ∧
          (∀ p, ps.has p = true → (t.switch p).isOff) ∧ LeavesRound ps s t ∧
          t.trips.nextId = (if s.trips.nextId = 255 then 1 else s.trips.nextId + 1) ∧
          t.link.notices = (if s.link.notices.length < 8 then s.link.notices ++
              [{ dst := 0, collisions := 0
                 content := .notice { kind := 13, subject := 0, tripId := byteOf s.trips.nextId, state := code } }]
            else s.link.notices))) ∧
      t.stop = s.stop ∧ t.meas = s.meas ∧ t.phase = s.phase ∧ t.roster = s.roster ∧
      t.budget.epoch = s.budget.epoch

/-- RELEASE HOLD (R11, R51, R192): NOT EVALUATING in HALTED, NO HOLD while HOLD is QUIET, with nothing changed; otherwise
HOLD is QUIET and its record CLEARED with its trip id and path set, no NOTICE is queued and no switch moves. -/
def Obligations.ReleaseHoldReleases : Prop :=
  ∀ (h : ReqHead) (s : State), s.phase ≠ .LOADING → s.link.discarding = false →
    UniqueKeys s → rankByteOk h.src = true → h.dst.toNat = s.rank →
    h.src.toNat ≠ s.rank → s.entry h.src.toNat = none → s.link.reply = none →
    Completes (.releaseHold h []) s fun t =>
      let refused (reason : Byte) : Prop :=
        t = { s with link := { s.link with
          reply := some { dst := h.src, content := .reply [9, h.tag, 2, reason], collisions := 0 }
          counters := { s.link.counters with framesGood := min (s.link.counters.framesGood + 1) 65535 } } }
      (s.phase = .HALTED → refused 2) ∧
      (s.phase ≠ .HALTED → s.conds.hold.state = .QUIET → refused 5) ∧
      (s.phase ≠ .HALTED → s.conds.hold.state ≠ .QUIET →
        t.link.reply = some { dst := h.src, content := .reply [9, h.tag, 1, 0], collisions := 0 } ∧
        t.conds = { s.conds with hold := { state := .QUIET, count := 0, timer := .stopped }, holdPaths := none } ∧
        t.trips = { s.trips with records := s.trips.records.map fun r =>
          if r.origin = s.rank ∧ r.kind = .hold ∧ r.subject = none then { r with phase := .CLEARED } else r } ∧
        t.link.notices = s.link.notices) ∧
      t.charge = s.charge ∧ t.discharge = s.discharge ∧ t.stop = s.stop ∧ t.meas = s.meas ∧ t.phase = s.phase

/-- CLEAR TRIPPED (R11, R52, R53, R193): the reply is DONE, with the condition QUIET and its record CLEARED, where every
check passes, and otherwise REFUSED with the reason of the first that fails, the station as it was. `id` is the condition
the arguments name; a kind outside 1 to 14, a subject where there should be none, none where there should be one, or one
that is no roster rank, name none. The recovery test of each kind is that of the table of R52, on the values the station
holds; a value it does not hold fails it (R52; log entry 25 for the pack kinds). -/
def Obligations.ClearTrippedClears : Prop :=
  (∀ (h : ReqHead) (kind subject : Byte) (s : State), s.phase ≠ .LOADING → s.link.discarding = false →
    UniqueKeys s → rankByteOk h.src = true →
    h.dst.toNat = s.rank → h.src.toNat ≠ s.rank → s.entry h.src.toNat = none → s.link.reply = none →
    Completes (.clearTripped h [kind, subject]) s fun t =>
      let refused (reason : Byte) : Prop :=
        t = { s with link := { s.link with
          reply := some { dst := h.src, content := .reply [10, h.tag, 2, reason], collisions := 0 }
          counters := { s.link.counters with framesGood := min (s.link.counters.framesGood + 1) 65535 } } }
      (Kind.ofCode kind.toNat = none → refused 1) ∧
      (∀ k, Kind.ofCode kind.toNat = some k →
        (k ≠ .memberLost → subject ≠ 0 → refused 1) ∧
        (k = .memberLost → s.entry subject.toNat = none → refused 1) ∧
        (∀ id, (k ≠ .memberLost ∧ subject = 0 ∧ id = ownCond k ∨
            k = .memberLost ∧ s.entry subject.toNat ≠ none ∧ id = lostCond subject.toNat) →
          (s.phase = .HALTED → refused 2) ∧
          (s.phase ≠ .HALTED → (s.conds.get id).state = .QUIET ∨ (s.conds.get id).state = .WATCH → refused 3) ∧
          (s.phase ≠ .HALTED → (s.conds.get id).state = .TRIPPED ∨ (s.conds.get id).state = .SETTLING →
            recoveryTest id s = false → refused 4) ∧
          (s.phase ≠ .HALTED → (s.conds.get id).state = .TRIPPED ∨ (s.conds.get id).state = .SETTLING →
            recoveryTest id s = true →
            t.link.reply = some { dst := h.src, content := .reply [10, h.tag, 1, 0], collisions := 0 } ∧
            t.conds = s.conds.set id { state := .QUIET, count := 0, timer := .stopped } ∧
            t.trips = { s.trips with records := s.trips.records.map fun r =>
              if r.origin = s.rank ∧ r.kind = id.kind ∧ r.subject = id.subject then { r with phase := .CLEARED }
              else r }))) ∧
      t.charge = s.charge ∧ t.discharge = s.discharge ∧ t.stop = s.stop ∧ t.phase = s.phase) ∧
  (∀ (id : CondId) (s : State), s.working = true → Formed s →
    (recoveryTest id s = true ↔
      match id.kind with
      | .cellHigh => ∃ r, s.meas.scan = some r ∧ ∀ v ∈ r.cells, v ≤ s.cfg.cellHigh - s.cfg.cellHighHyst
      | .cellLow =>
          ∃ r, s.meas.scan = some r ∧ r.cells ≠ [] ∧ ∀ v ∈ r.cells, s.cfg.cellLow + s.cfg.cellLowHyst ≤ v
      | .chargeOvercurrent => ∃ x, s.meas.sample = some x ∧ x ≤ 100 * (s.cfg.ocThreshold : Int)
      | .dischargeOvercurrent => ∃ x, s.meas.sample = some x ∧ -(100 * (s.cfg.odThreshold : Int)) ≤ x
      | .short => s.meas.comparator = false ∧ s.stop.driving = false
      | .moduleHot => ∃ r, s.meas.scan = some r ∧ ∀ x ∈ r.codes, s.cfg.hotRecovery ≤ x
      | .moduleCold => ∃ r, s.meas.scan = some r ∧ ∀ x ∈ r.codes, x ≤ s.cfg.coldRecovery
      | .dieHot => ∃ r, s.meas.scan = some r ∧ r.die ≤ (s.cfg.dieRecovery : Int)
      | .imbalance =>
          ∃ d, s.conds.imbalanceEval = some d ∧ d.1 ≤ (s.cfg.imbalanceThreshold * 10 - s.cfg.imbalanceHyst) * d.2
      | .senseMismatch => ∃ d, s.conds.mismatchEval = some d ∧ d ≤ s.cfg.mismatchThreshold * 10
      | .switchFault => s.charge.state = .OPEN ∧ s.discharge.state = .OPEN
      | .memberLost => ∃ j, id.subject = some j ∧ (s.entry j).map (·.status) = some .PRESENT
      | .hold => s.conds.hold.state ≠ .TRIPPED
      | .unexplainedStop => s.stop.sense = false))

/-- RESET BUDGET (R134): at a station that is its own coordinator and holds no ACTIVE current-class record, the epoch
advances by 1, the count is 0, the quiet timer stops and the reply is DONE; it is REFUSED with NOT COORDINATOR or CURRENT
TRIP ACTIVE otherwise, and a refused request leaves the budget as it was. -/
def Obligations.ResetBudgetNewEpoch : Prop :=
  ∀ (h : ReqHead) (s : State), s.phase ≠ .LOADING → s.link.discarding = false →
    rankByteOk h.src = true → h.dst.toNat = s.rank →
    h.src.toNat ≠ s.rank → s.entry h.src.toNat = none → s.link.reply = none →
    Completes (.resetBudget h []) s fun t =>
      let active : Prop := ∃ r ∈ s.trips.records, r.phase = .ACTIVE ∧ r.kind.currentClass = true
      let refused (reason : Byte) : Prop :=
        t = { s with link := { s.link with
          reply := some { dst := h.src, content := .reply [11, h.tag, 2, reason], collisions := 0 }
          counters := { s.link.counters with framesGood := min (s.link.counters.framesGood + 1) 65535 } } }
      (s.coordinator ≠ some s.rank → refused 6) ∧
      (s.coordinator = some s.rank → active → refused 7) ∧
      (s.coordinator = some s.rank → ¬ active → s.phase ≠ .HALTED →
        t.budget = { s.budget with epoch := s.budget.epoch + 1, count := 0, quiet := .stopped } ∧
        t.link.reply = some { dst := h.src, content := .reply [11, h.tag, 1, 0], collisions := 0 }) ∧
      t.trips = s.trips ∧ t.conds = s.conds ∧ t.charge = s.charge ∧ t.discharge = s.discharge ∧ t.stop = s.stop ∧
      t.phase = s.phase ∧ t.roster = s.roster

/-- RESTART places a DONE reply and sets the restart-pending mark; the station goes on in its phase with nothing else
changed (R195). -/
def Obligations.RestartIsMarked : Prop :=
  ∀ (h : ReqHead) (s : State), s.phase ≠ .LOADING → s.link.discarding = false →
    rankByteOk h.src = true → h.dst.toNat = s.rank →
    h.src.toNat ≠ s.rank → s.entry h.src.toNat = none → s.link.reply = none →
    exec (.restart h []) s = .next { s with
      restartPending := true
      link := { s.link with
        reply := some { dst := h.src, content := .reply [12, h.tag, 1, 0], collisions := 0 }
        counters := { s.link.counters with framesGood := min (s.link.counters.framesGood + 1) 65535 } } }

/-- A request that R181 stops at its first two checks changes nothing and is answered: BAD LENGTH with code and tag 0 for
a payload of length 0, UNKNOWN REQUEST for a code outside 1 to 12, BAD LENGTH for a length that is not its code's. A
request that finds the reply slot full is dropped and counted (R179, R180, R181, R182). The row UNKNOWN_REQUEST carrying a
code of 1 to 12 is the model's reading of that row (log entry 30); each of the twelve request rows is answered BAD LENGTH,
and dropped, in the same way. -/
def Obligations.UnknownOrDropped : Prop :=
  (∀ (src dst : Byte) (payload : List Byte) (s : State), s.phase ≠ .LOADING → s.link.discarding = false →
    rankByteOk src = true →
    dst.toNat = s.rank → src.toNat ≠ s.rank → s.entry src.toNat = none → payload.length % 2 = 0 →
    payload.length ≤ 192 →
    let heard : Counters := { s.link.counters with framesGood := min (s.link.counters.framesGood + 1) 65535 }
    let answered (bytes : List Byte) : Prop :=
      exec (.unknownRequest src dst payload) s = .next { s with link := { s.link with
        reply := some { dst := src, content := .reply bytes, collisions := 0 }, counters := heard } }
    (s.link.reply = none → payload = [] → answered [0, 0, 4, 0]) ∧
    (∀ code tag rest, s.link.reply = none → payload = code :: tag :: rest →
      (code.toNat = 0 ∨ 12 < code.toNat → answered [code, tag, 3, 0]) ∧
      (1 ≤ code.toNat → code.toNat ≤ 12 →
        rest.length ≠ (if code = 2 ∨ code = 3 ∨ code = 8 ∨ code = 10 then 2 else 0) →
        answered [code, tag, 4, 0])) ∧
    (s.link.reply ≠ none →
      exec (.unknownRequest src dst payload) s = .next { s with link := { s.link with
        counters := { heard with requestsDropped := min (s.link.counters.requestsDropped + 1) 65535 } } })) ∧
  (∀ (c : Instr) (code : Byte) (h : ReqHead) (args : List Byte) (s : State), c.request = some (code, h, args) →
    s.phase ≠ .LOADING → s.link.discarding = false → rankByteOk h.src = true → h.dst.toNat = s.rank → h.src.toNat ≠ s.rank →
    s.entry h.src.toNat = none → args.length % 2 = 0 → args.length ≤ 190 →
    let heard : Counters := { s.link.counters with framesGood := min (s.link.counters.framesGood + 1) 65535 }
    (s.link.reply = none → args.length ≠ (if code = 2 ∨ code = 3 ∨ code = 8 ∨ code = 10 then 2 else 0) →
      exec c s = .next { s with link := { s.link with
        reply := some { dst := h.src, content := .reply [code, h.tag, 4, 0], collisions := 0 }, counters := heard } }) ∧
    (s.link.reply ≠ none →
      exec c s = .next { s with link := { s.link with
        counters := { heard with requestsDropped := min (s.link.counters.requestsDropped + 1) 65535 } } }))

/-! ### Invariants -/

/-- Right after reset every invariant below holds. -/
def Obligations.ResetMeetsInvariants : Prop :=
  LinkBounded State.reset ∧ HeldPathsOff State.reset ∧ PhaseDiscipline State.reset ∧ BudgetBounded State.reset ∧
    UniqueKeys State.reset ∧ ListBounded State.reset ∧ Formed State.reset ∧ QuietTimed State.reset

/-- Every step keeps the queues within their capacities and the counters within 16 bits (R172, R177). -/
def Obligations.StepKeepsLinkBounded : Prop :=
  ∀ s t : State, LinkBounded s → step s = .next t → LinkBounded t

/-- Every step keeps each gate as its switch's state has it, and every held path's switch OPEN, OPENING or FAULTED
(R137, R139). -/
def Obligations.StepKeepsHeldPathsOff : Prop :=
  ∀ s t : State, HeldPathsOff s → step s = .next t → HeldPathsOff t

/-- A switch enters CLOSING only inside a round covering its path: in CLOSING at a non-closer, or in FINISHING at a closer
that holds CLOSED from every roster rank; and no cause holds the path (R111, R141). -/
def Obligations.ClosesOnlyInRound : Prop :=
  ∀ (s t : State) (p : Path), step s = .next t → (s.switch p).state ≠ .CLOSING → (t.switch p).state = .CLOSING →
    t.held p = false ∧
    ∃ r, t.reclose.round = some r ∧ r.paths.has p = true ∧ r.closedSet.has p = true ∧
      (r.stage = .CLOSING ∧ r.role.closes = false ∨ r.stage = .FINISHING ∧ r.role.closes = true ∧ t.coversRoster r.closedHeld = true)

/-- Every step keeps: in a round only in OPERATING, an empty list in LOADING and HALTED, and the stop line driven only
while SHORT is TRIPPED (R27, R42, R123). -/
def Obligations.StepKeepsPhaseDiscipline : Prop :=
  ∀ s t : State, PhaseDiscipline s → step s = .next t → PhaseDiscipline t

/-- Every step keeps what a load leaves for good: a HALTED station's roster empty, a working station's configuration within
its ranges, its roster one entry and its condition set one MEMBER LOST for each other rank, and an OPERATING station without
a PRESENT entry that holds digest match NO (R28, R73, R93, R200, R201, R203). With it, every step keeps the budget's count within its bound, and the budget at 0
and unjoined in LOADING and HALTED (R126, R136). And every step keeps the quiet timer running exactly while the four
conditions of R132 hold, from the full quiet time each time it starts (R132). -/
def Obligations.StepKeepsBudgetBounded : Prop :=
  (∀ s t : State, Formed s → step s = .next t → Formed t) ∧
  (∀ s t : State, Formed s → BudgetBounded s → step s = .next t → BudgetBounded t) ∧
  (∀ s t : State, QuietTimed s → step s = .next t →
    QuietTimed t ∧
    (s.budget.quiet = .stopped → t.budget.quiet = .stopped ∨ t.budget.quiet = .running (t.cfg.quietTime * 1000000)))

/-- A joined budget's epoch never becomes older: after a step the budget is joined no longer, at a reset that leaves the
station in LOADING, or its epoch is the same or newer (R131). -/
def Obligations.EpochNeverOlder : Prop :=
  ∀ s t : State, s.budget.joined = true → step s = .next t →
    (t.budget.joined = false ∧ t.phase = .LOADING) ∨ t.budget.epoch = s.budget.epoch ∨
      (1 ≤ (t.budget.epoch - s.budget.epoch).toNat ∧ (t.budget.epoch - s.budget.epoch).toNat ≤ 127)

/-- Every step keeps the list free of two records with the same origin, kind and subject (R5). -/
def Obligations.StepKeepsUniqueKeys : Prop :=
  ∀ s t : State, UniqueKeys s → step s = .next t → UniqueKeys t

/-- Every step keeps the list, with the own reserve, within 64 records: no own addition is ever without room (R5, R8,
R9). -/
def Obligations.StepKeepsListBounded : Prop :=
  ∀ s t : State, ListBounded s → step s = .next t → ListBounded t
end

