-- ==== Sys2Proof/Laws/State.lean ====
section
/-!
SUPPORT. What each named update of the state leaves and changes: one lemma per field per update.
-/
namespace Sys2Proof.Machine

@[simp] theorem State.withPhase_supplyLow (s : State) (v : Phase) : (s.withPhase v).supplyLow = s.supplyLow := rfl
@[simp] theorem State.withPhase_phase (s : State) (v : Phase) : (s.withPhase v).phase = v := rfl
@[simp] theorem State.withPhase_store (s : State) (v : Phase) : (s.withPhase v).store = s.store := rfl
@[simp] theorem State.withPhase_load (s : State) (v : Phase) : (s.withPhase v).load = s.load := rfl
@[simp] theorem State.withPhase_cfg (s : State) (v : Phase) : (s.withPhase v).cfg = s.cfg := rfl
@[simp] theorem State.withPhase_conflict (s : State) (v : Phase) : (s.withPhase v).conflict = s.conflict := rfl
@[simp] theorem State.withPhase_meas (s : State) (v : Phase) : (s.withPhase v).meas = s.meas := rfl
@[simp] theorem State.withPhase_conds (s : State) (v : Phase) : (s.withPhase v).conds = s.conds := rfl
@[simp] theorem State.withPhase_trips (s : State) (v : Phase) : (s.withPhase v).trips = s.trips := rfl
@[simp] theorem State.withPhase_roster (s : State) (v : Phase) : (s.withPhase v).roster = s.roster := rfl
@[simp] theorem State.withPhase_formation (s : State) (v : Phase) : (s.withPhase v).formation = s.formation := rfl
@[simp] theorem State.withPhase_beats (s : State) (v : Phase) : (s.withPhase v).beats = s.beats := rfl
@[simp] theorem State.withPhase_budget (s : State) (v : Phase) : (s.withPhase v).budget = s.budget := rfl
@[simp] theorem State.withPhase_reclose (s : State) (v : Phase) : (s.withPhase v).reclose = s.reclose := rfl
@[simp] theorem State.withPhase_charge (s : State) (v : Phase) : (s.withPhase v).charge = s.charge := rfl
@[simp] theorem State.withPhase_discharge (s : State) (v : Phase) : (s.withPhase v).discharge = s.discharge := rfl
@[simp] theorem State.withPhase_stop (s : State) (v : Phase) : (s.withPhase v).stop = s.stop := rfl
@[simp] theorem State.withPhase_link (s : State) (v : Phase) : (s.withPhase v).link = s.link := rfl
@[simp] theorem State.withPhase_restartPending (s : State) (v : Phase) : (s.withPhase v).restartPending = s.restartPending := rfl
@[simp] theorem State.withPhase_freeCount (s : State) (v : Phase) : (s.withPhase v).freeCount = s.freeCount := rfl
@[simp] theorem State.withPhase_pending (s : State) (v : Phase) : (s.withPhase v).pending = s.pending := rfl

@[simp] theorem State.withStore_supplyLow (s : State) (v : Store) : (s.withStore v).supplyLow = s.supplyLow := rfl
@[simp] theorem State.withStore_phase (s : State) (v : Store) : (s.withStore v).phase = s.phase := rfl
@[simp] theorem State.withStore_store (s : State) (v : Store) : (s.withStore v).store = v := rfl
@[simp] theorem State.withStore_load (s : State) (v : Store) : (s.withStore v).load = s.load := rfl
@[simp] theorem State.withStore_cfg (s : State) (v : Store) : (s.withStore v).cfg = s.cfg := rfl
@[simp] theorem State.withStore_conflict (s : State) (v : Store) : (s.withStore v).conflict = s.conflict := rfl
@[simp] theorem State.withStore_meas (s : State) (v : Store) : (s.withStore v).meas = s.meas := rfl
@[simp] theorem State.withStore_conds (s : State) (v : Store) : (s.withStore v).conds = s.conds := rfl
@[simp] theorem State.withStore_trips (s : State) (v : Store) : (s.withStore v).trips = s.trips := rfl
@[simp] theorem State.withStore_roster (s : State) (v : Store) : (s.withStore v).roster = s.roster := rfl
@[simp] theorem State.withStore_formation (s : State) (v : Store) : (s.withStore v).formation = s.formation := rfl
@[simp] theorem State.withStore_beats (s : State) (v : Store) : (s.withStore v).beats = s.beats := rfl
@[simp] theorem State.withStore_budget (s : State) (v : Store) : (s.withStore v).budget = s.budget := rfl
@[simp] theorem State.withStore_reclose (s : State) (v : Store) : (s.withStore v).reclose = s.reclose := rfl
@[simp] theorem State.withStore_charge (s : State) (v : Store) : (s.withStore v).charge = s.charge := rfl
@[simp] theorem State.withStore_discharge (s : State) (v : Store) : (s.withStore v).discharge = s.discharge := rfl
@[simp] theorem State.withStore_stop (s : State) (v : Store) : (s.withStore v).stop = s.stop := rfl
@[simp] theorem State.withStore_link (s : State) (v : Store) : (s.withStore v).link = s.link := rfl
@[simp] theorem State.withStore_restartPending (s : State) (v : Store) : (s.withStore v).restartPending = s.restartPending := rfl
@[simp] theorem State.withStore_freeCount (s : State) (v : Store) : (s.withStore v).freeCount = s.freeCount := rfl
@[simp] theorem State.withStore_pending (s : State) (v : Store) : (s.withStore v).pending = s.pending := rfl

@[simp] theorem State.withConflict_supplyLow (s : State) (v : Bool) : (s.withConflict v).supplyLow = s.supplyLow := rfl
@[simp] theorem State.withConflict_phase (s : State) (v : Bool) : (s.withConflict v).phase = s.phase := rfl
@[simp] theorem State.withConflict_store (s : State) (v : Bool) : (s.withConflict v).store = s.store := rfl
@[simp] theorem State.withConflict_load (s : State) (v : Bool) : (s.withConflict v).load = s.load := rfl
@[simp] theorem State.withConflict_cfg (s : State) (v : Bool) : (s.withConflict v).cfg = s.cfg := rfl
@[simp] theorem State.withConflict_conflict (s : State) (v : Bool) : (s.withConflict v).conflict = v := rfl
@[simp] theorem State.withConflict_meas (s : State) (v : Bool) : (s.withConflict v).meas = s.meas := rfl
@[simp] theorem State.withConflict_conds (s : State) (v : Bool) : (s.withConflict v).conds = s.conds := rfl
@[simp] theorem State.withConflict_trips (s : State) (v : Bool) : (s.withConflict v).trips = s.trips := rfl
@[simp] theorem State.withConflict_roster (s : State) (v : Bool) : (s.withConflict v).roster = s.roster := rfl
@[simp] theorem State.withConflict_formation (s : State) (v : Bool) : (s.withConflict v).formation = s.formation := rfl
@[simp] theorem State.withConflict_beats (s : State) (v : Bool) : (s.withConflict v).beats = s.beats := rfl
@[simp] theorem State.withConflict_budget (s : State) (v : Bool) : (s.withConflict v).budget = s.budget := rfl
@[simp] theorem State.withConflict_reclose (s : State) (v : Bool) : (s.withConflict v).reclose = s.reclose := rfl
@[simp] theorem State.withConflict_charge (s : State) (v : Bool) : (s.withConflict v).charge = s.charge := rfl
@[simp] theorem State.withConflict_discharge (s : State) (v : Bool) : (s.withConflict v).discharge = s.discharge := rfl
@[simp] theorem State.withConflict_stop (s : State) (v : Bool) : (s.withConflict v).stop = s.stop := rfl
@[simp] theorem State.withConflict_link (s : State) (v : Bool) : (s.withConflict v).link = s.link := rfl
@[simp] theorem State.withConflict_restartPending (s : State) (v : Bool) : (s.withConflict v).restartPending = s.restartPending := rfl
@[simp] theorem State.withConflict_freeCount (s : State) (v : Bool) : (s.withConflict v).freeCount = s.freeCount := rfl
@[simp] theorem State.withConflict_pending (s : State) (v : Bool) : (s.withConflict v).pending = s.pending := rfl

@[simp] theorem State.withMeas_supplyLow (s : State) (v : Meas) : (s.withMeas v).supplyLow = s.supplyLow := rfl
@[simp] theorem State.withMeas_phase (s : State) (v : Meas) : (s.withMeas v).phase = s.phase := rfl
@[simp] theorem State.withMeas_store (s : State) (v : Meas) : (s.withMeas v).store = s.store := rfl
@[simp] theorem State.withMeas_load (s : State) (v : Meas) : (s.withMeas v).load = s.load := rfl
@[simp] theorem State.withMeas_cfg (s : State) (v : Meas) : (s.withMeas v).cfg = s.cfg := rfl
@[simp] theorem State.withMeas_conflict (s : State) (v : Meas) : (s.withMeas v).conflict = s.conflict := rfl
@[simp] theorem State.withMeas_meas (s : State) (v : Meas) : (s.withMeas v).meas = v := rfl
@[simp] theorem State.withMeas_conds (s : State) (v : Meas) : (s.withMeas v).conds = s.conds := rfl
@[simp] theorem State.withMeas_trips (s : State) (v : Meas) : (s.withMeas v).trips = s.trips := rfl
@[simp] theorem State.withMeas_roster (s : State) (v : Meas) : (s.withMeas v).roster = s.roster := rfl
@[simp] theorem State.withMeas_formation (s : State) (v : Meas) : (s.withMeas v).formation = s.formation := rfl
@[simp] theorem State.withMeas_beats (s : State) (v : Meas) : (s.withMeas v).beats = s.beats := rfl
@[simp] theorem State.withMeas_budget (s : State) (v : Meas) : (s.withMeas v).budget = s.budget := rfl
@[simp] theorem State.withMeas_reclose (s : State) (v : Meas) : (s.withMeas v).reclose = s.reclose := rfl
@[simp] theorem State.withMeas_charge (s : State) (v : Meas) : (s.withMeas v).charge = s.charge := rfl
@[simp] theorem State.withMeas_discharge (s : State) (v : Meas) : (s.withMeas v).discharge = s.discharge := rfl
@[simp] theorem State.withMeas_stop (s : State) (v : Meas) : (s.withMeas v).stop = s.stop := rfl
@[simp] theorem State.withMeas_link (s : State) (v : Meas) : (s.withMeas v).link = s.link := rfl
@[simp] theorem State.withMeas_restartPending (s : State) (v : Meas) : (s.withMeas v).restartPending = s.restartPending := rfl
@[simp] theorem State.withMeas_freeCount (s : State) (v : Meas) : (s.withMeas v).freeCount = s.freeCount := rfl
@[simp] theorem State.withMeas_pending (s : State) (v : Meas) : (s.withMeas v).pending = s.pending := rfl

@[simp] theorem State.withConds_supplyLow (s : State) (v : Conds) : (s.withConds v).supplyLow = s.supplyLow := rfl
@[simp] theorem State.withConds_phase (s : State) (v : Conds) : (s.withConds v).phase = s.phase := rfl
@[simp] theorem State.withConds_store (s : State) (v : Conds) : (s.withConds v).store = s.store := rfl
@[simp] theorem State.withConds_load (s : State) (v : Conds) : (s.withConds v).load = s.load := rfl
@[simp] theorem State.withConds_cfg (s : State) (v : Conds) : (s.withConds v).cfg = s.cfg := rfl
@[simp] theorem State.withConds_conflict (s : State) (v : Conds) : (s.withConds v).conflict = s.conflict := rfl
@[simp] theorem State.withConds_meas (s : State) (v : Conds) : (s.withConds v).meas = s.meas := rfl
@[simp] theorem State.withConds_conds (s : State) (v : Conds) : (s.withConds v).conds = v := rfl
@[simp] theorem State.withConds_trips (s : State) (v : Conds) : (s.withConds v).trips = s.trips := rfl
@[simp] theorem State.withConds_roster (s : State) (v : Conds) : (s.withConds v).roster = s.roster := rfl
@[simp] theorem State.withConds_formation (s : State) (v : Conds) : (s.withConds v).formation = s.formation := rfl
@[simp] theorem State.withConds_beats (s : State) (v : Conds) : (s.withConds v).beats = s.beats := rfl
@[simp] theorem State.withConds_budget (s : State) (v : Conds) : (s.withConds v).budget = s.budget := rfl
@[simp] theorem State.withConds_reclose (s : State) (v : Conds) : (s.withConds v).reclose = s.reclose := rfl
@[simp] theorem State.withConds_charge (s : State) (v : Conds) : (s.withConds v).charge = s.charge := rfl
@[simp] theorem State.withConds_discharge (s : State) (v : Conds) : (s.withConds v).discharge = s.discharge := rfl
@[simp] theorem State.withConds_stop (s : State) (v : Conds) : (s.withConds v).stop = s.stop := rfl
@[simp] theorem State.withConds_link (s : State) (v : Conds) : (s.withConds v).link = s.link := rfl
@[simp] theorem State.withConds_restartPending (s : State) (v : Conds) : (s.withConds v).restartPending = s.restartPending := rfl
@[simp] theorem State.withConds_freeCount (s : State) (v : Conds) : (s.withConds v).freeCount = s.freeCount := rfl
@[simp] theorem State.withConds_pending (s : State) (v : Conds) : (s.withConds v).pending = s.pending := rfl

@[simp] theorem State.withTrips_supplyLow (s : State) (v : TripList) : (s.withTrips v).supplyLow = s.supplyLow := rfl
@[simp] theorem State.withTrips_phase (s : State) (v : TripList) : (s.withTrips v).phase = s.phase := rfl
@[simp] theorem State.withTrips_store (s : State) (v : TripList) : (s.withTrips v).store = s.store := rfl
@[simp] theorem State.withTrips_load (s : State) (v : TripList) : (s.withTrips v).load = s.load := rfl
@[simp] theorem State.withTrips_cfg (s : State) (v : TripList) : (s.withTrips v).cfg = s.cfg := rfl
@[simp] theorem State.withTrips_conflict (s : State) (v : TripList) : (s.withTrips v).conflict = s.conflict := rfl
@[simp] theorem State.withTrips_meas (s : State) (v : TripList) : (s.withTrips v).meas = s.meas := rfl
@[simp] theorem State.withTrips_conds (s : State) (v : TripList) : (s.withTrips v).conds = s.conds := rfl
@[simp] theorem State.withTrips_trips (s : State) (v : TripList) : (s.withTrips v).trips = v := rfl
@[simp] theorem State.withTrips_roster (s : State) (v : TripList) : (s.withTrips v).roster = s.roster := rfl
@[simp] theorem State.withTrips_formation (s : State) (v : TripList) : (s.withTrips v).formation = s.formation := rfl
@[simp] theorem State.withTrips_beats (s : State) (v : TripList) : (s.withTrips v).beats = s.beats := rfl
@[simp] theorem State.withTrips_budget (s : State) (v : TripList) : (s.withTrips v).budget = s.budget := rfl
@[simp] theorem State.withTrips_reclose (s : State) (v : TripList) : (s.withTrips v).reclose = s.reclose := rfl
@[simp] theorem State.withTrips_charge (s : State) (v : TripList) : (s.withTrips v).charge = s.charge := rfl
@[simp] theorem State.withTrips_discharge (s : State) (v : TripList) : (s.withTrips v).discharge = s.discharge := rfl
@[simp] theorem State.withTrips_stop (s : State) (v : TripList) : (s.withTrips v).stop = s.stop := rfl
@[simp] theorem State.withTrips_link (s : State) (v : TripList) : (s.withTrips v).link = s.link := rfl
@[simp] theorem State.withTrips_restartPending (s : State) (v : TripList) : (s.withTrips v).restartPending = s.restartPending := rfl
@[simp] theorem State.withTrips_freeCount (s : State) (v : TripList) : (s.withTrips v).freeCount = s.freeCount := rfl
@[simp] theorem State.withTrips_pending (s : State) (v : TripList) : (s.withTrips v).pending = s.pending := rfl

@[simp] theorem State.withRoster_supplyLow (s : State) (v : List Entry) : (s.withRoster v).supplyLow = s.supplyLow := rfl
@[simp] theorem State.withRoster_phase (s : State) (v : List Entry) : (s.withRoster v).phase = s.phase := rfl
@[simp] theorem State.withRoster_store (s : State) (v : List Entry) : (s.withRoster v).store = s.store := rfl
@[simp] theorem State.withRoster_load (s : State) (v : List Entry) : (s.withRoster v).load = s.load := rfl
@[simp] theorem State.withRoster_cfg (s : State) (v : List Entry) : (s.withRoster v).cfg = s.cfg := rfl
@[simp] theorem State.withRoster_conflict (s : State) (v : List Entry) : (s.withRoster v).conflict = s.conflict := rfl
@[simp] theorem State.withRoster_meas (s : State) (v : List Entry) : (s.withRoster v).meas = s.meas := rfl
@[simp] theorem State.withRoster_conds (s : State) (v : List Entry) : (s.withRoster v).conds = s.conds := rfl
@[simp] theorem State.withRoster_trips (s : State) (v : List Entry) : (s.withRoster v).trips = s.trips := rfl
@[simp] theorem State.withRoster_roster (s : State) (v : List Entry) : (s.withRoster v).roster = v := rfl
@[simp] theorem State.withRoster_formation (s : State) (v : List Entry) : (s.withRoster v).formation = s.formation := rfl
@[simp] theorem State.withRoster_beats (s : State) (v : List Entry) : (s.withRoster v).beats = s.beats := rfl
@[simp] theorem State.withRoster_budget (s : State) (v : List Entry) : (s.withRoster v).budget = s.budget := rfl
@[simp] theorem State.withRoster_reclose (s : State) (v : List Entry) : (s.withRoster v).reclose = s.reclose := rfl
@[simp] theorem State.withRoster_charge (s : State) (v : List Entry) : (s.withRoster v).charge = s.charge := rfl
@[simp] theorem State.withRoster_discharge (s : State) (v : List Entry) : (s.withRoster v).discharge = s.discharge := rfl
@[simp] theorem State.withRoster_stop (s : State) (v : List Entry) : (s.withRoster v).stop = s.stop := rfl
@[simp] theorem State.withRoster_link (s : State) (v : List Entry) : (s.withRoster v).link = s.link := rfl
@[simp] theorem State.withRoster_restartPending (s : State) (v : List Entry) : (s.withRoster v).restartPending = s.restartPending := rfl
@[simp] theorem State.withRoster_freeCount (s : State) (v : List Entry) : (s.withRoster v).freeCount = s.freeCount := rfl
@[simp] theorem State.withRoster_pending (s : State) (v : List Entry) : (s.withRoster v).pending = s.pending := rfl

@[simp] theorem State.withFormation_supplyLow (s : State) (v : Timer) : (s.withFormation v).supplyLow = s.supplyLow := rfl
@[simp] theorem State.withFormation_phase (s : State) (v : Timer) : (s.withFormation v).phase = s.phase := rfl
@[simp] theorem State.withFormation_store (s : State) (v : Timer) : (s.withFormation v).store = s.store := rfl
@[simp] theorem State.withFormation_load (s : State) (v : Timer) : (s.withFormation v).load = s.load := rfl
@[simp] theorem State.withFormation_cfg (s : State) (v : Timer) : (s.withFormation v).cfg = s.cfg := rfl
@[simp] theorem State.withFormation_conflict (s : State) (v : Timer) : (s.withFormation v).conflict = s.conflict := rfl
@[simp] theorem State.withFormation_meas (s : State) (v : Timer) : (s.withFormation v).meas = s.meas := rfl
@[simp] theorem State.withFormation_conds (s : State) (v : Timer) : (s.withFormation v).conds = s.conds := rfl
@[simp] theorem State.withFormation_trips (s : State) (v : Timer) : (s.withFormation v).trips = s.trips := rfl
@[simp] theorem State.withFormation_roster (s : State) (v : Timer) : (s.withFormation v).roster = s.roster := rfl
@[simp] theorem State.withFormation_formation (s : State) (v : Timer) : (s.withFormation v).formation = v := rfl
@[simp] theorem State.withFormation_beats (s : State) (v : Timer) : (s.withFormation v).beats = s.beats := rfl
@[simp] theorem State.withFormation_budget (s : State) (v : Timer) : (s.withFormation v).budget = s.budget := rfl
@[simp] theorem State.withFormation_reclose (s : State) (v : Timer) : (s.withFormation v).reclose = s.reclose := rfl
@[simp] theorem State.withFormation_charge (s : State) (v : Timer) : (s.withFormation v).charge = s.charge := rfl
@[simp] theorem State.withFormation_discharge (s : State) (v : Timer) : (s.withFormation v).discharge = s.discharge := rfl
@[simp] theorem State.withFormation_stop (s : State) (v : Timer) : (s.withFormation v).stop = s.stop := rfl
@[simp] theorem State.withFormation_link (s : State) (v : Timer) : (s.withFormation v).link = s.link := rfl
@[simp] theorem State.withFormation_restartPending (s : State) (v : Timer) : (s.withFormation v).restartPending = s.restartPending := rfl
@[simp] theorem State.withFormation_freeCount (s : State) (v : Timer) : (s.withFormation v).freeCount = s.freeCount := rfl
@[simp] theorem State.withFormation_pending (s : State) (v : Timer) : (s.withFormation v).pending = s.pending := rfl

@[simp] theorem State.withBeats_supplyLow (s : State) (v : Beats) : (s.withBeats v).supplyLow = s.supplyLow := rfl
@[simp] theorem State.withBeats_phase (s : State) (v : Beats) : (s.withBeats v).phase = s.phase := rfl
@[simp] theorem State.withBeats_store (s : State) (v : Beats) : (s.withBeats v).store = s.store := rfl
@[simp] theorem State.withBeats_load (s : State) (v : Beats) : (s.withBeats v).load = s.load := rfl
@[simp] theorem State.withBeats_cfg (s : State) (v : Beats) : (s.withBeats v).cfg = s.cfg := rfl
@[simp] theorem State.withBeats_conflict (s : State) (v : Beats) : (s.withBeats v).conflict = s.conflict := rfl
@[simp] theorem State.withBeats_meas (s : State) (v : Beats) : (s.withBeats v).meas = s.meas := rfl
@[simp] theorem State.withBeats_conds (s : State) (v : Beats) : (s.withBeats v).conds = s.conds := rfl
@[simp] theorem State.withBeats_trips (s : State) (v : Beats) : (s.withBeats v).trips = s.trips := rfl
@[simp] theorem State.withBeats_roster (s : State) (v : Beats) : (s.withBeats v).roster = s.roster := rfl
@[simp] theorem State.withBeats_formation (s : State) (v : Beats) : (s.withBeats v).formation = s.formation := rfl
@[simp] theorem State.withBeats_beats (s : State) (v : Beats) : (s.withBeats v).beats = v := rfl
@[simp] theorem State.withBeats_budget (s : State) (v : Beats) : (s.withBeats v).budget = s.budget := rfl
@[simp] theorem State.withBeats_reclose (s : State) (v : Beats) : (s.withBeats v).reclose = s.reclose := rfl
@[simp] theorem State.withBeats_charge (s : State) (v : Beats) : (s.withBeats v).charge = s.charge := rfl
@[simp] theorem State.withBeats_discharge (s : State) (v : Beats) : (s.withBeats v).discharge = s.discharge := rfl
@[simp] theorem State.withBeats_stop (s : State) (v : Beats) : (s.withBeats v).stop = s.stop := rfl
@[simp] theorem State.withBeats_link (s : State) (v : Beats) : (s.withBeats v).link = s.link := rfl
@[simp] theorem State.withBeats_restartPending (s : State) (v : Beats) : (s.withBeats v).restartPending = s.restartPending := rfl
@[simp] theorem State.withBeats_freeCount (s : State) (v : Beats) : (s.withBeats v).freeCount = s.freeCount := rfl
@[simp] theorem State.withBeats_pending (s : State) (v : Beats) : (s.withBeats v).pending = s.pending := rfl

@[simp] theorem State.withBudget_supplyLow (s : State) (v : Budget) : (s.withBudget v).supplyLow = s.supplyLow := rfl
@[simp] theorem State.withBudget_phase (s : State) (v : Budget) : (s.withBudget v).phase = s.phase := rfl
@[simp] theorem State.withBudget_store (s : State) (v : Budget) : (s.withBudget v).store = s.store := rfl
@[simp] theorem State.withBudget_load (s : State) (v : Budget) : (s.withBudget v).load = s.load := rfl
@[simp] theorem State.withBudget_cfg (s : State) (v : Budget) : (s.withBudget v).cfg = s.cfg := rfl
@[simp] theorem State.withBudget_conflict (s : State) (v : Budget) : (s.withBudget v).conflict = s.conflict := rfl
@[simp] theorem State.withBudget_meas (s : State) (v : Budget) : (s.withBudget v).meas = s.meas := rfl
@[simp] theorem State.withBudget_conds (s : State) (v : Budget) : (s.withBudget v).conds = s.conds := rfl
@[simp] theorem State.withBudget_trips (s : State) (v : Budget) : (s.withBudget v).trips = s.trips := rfl
@[simp] theorem State.withBudget_roster (s : State) (v : Budget) : (s.withBudget v).roster = s.roster := rfl
@[simp] theorem State.withBudget_formation (s : State) (v : Budget) : (s.withBudget v).formation = s.formation := rfl
@[simp] theorem State.withBudget_beats (s : State) (v : Budget) : (s.withBudget v).beats = s.beats := rfl
@[simp] theorem State.withBudget_budget (s : State) (v : Budget) : (s.withBudget v).budget = v := rfl
@[simp] theorem State.withBudget_reclose (s : State) (v : Budget) : (s.withBudget v).reclose = s.reclose := rfl
@[simp] theorem State.withBudget_charge (s : State) (v : Budget) : (s.withBudget v).charge = s.charge := rfl
@[simp] theorem State.withBudget_discharge (s : State) (v : Budget) : (s.withBudget v).discharge = s.discharge := rfl
@[simp] theorem State.withBudget_stop (s : State) (v : Budget) : (s.withBudget v).stop = s.stop := rfl
@[simp] theorem State.withBudget_link (s : State) (v : Budget) : (s.withBudget v).link = s.link := rfl
@[simp] theorem State.withBudget_restartPending (s : State) (v : Budget) : (s.withBudget v).restartPending = s.restartPending := rfl
@[simp] theorem State.withBudget_freeCount (s : State) (v : Budget) : (s.withBudget v).freeCount = s.freeCount := rfl
@[simp] theorem State.withBudget_pending (s : State) (v : Budget) : (s.withBudget v).pending = s.pending := rfl

@[simp] theorem State.withReclose_supplyLow (s : State) (v : Reclose) : (s.withReclose v).supplyLow = s.supplyLow := rfl
@[simp] theorem State.withReclose_phase (s : State) (v : Reclose) : (s.withReclose v).phase = s.phase := rfl
@[simp] theorem State.withReclose_store (s : State) (v : Reclose) : (s.withReclose v).store = s.store := rfl
@[simp] theorem State.withReclose_load (s : State) (v : Reclose) : (s.withReclose v).load = s.load := rfl
@[simp] theorem State.withReclose_cfg (s : State) (v : Reclose) : (s.withReclose v).cfg = s.cfg := rfl
@[simp] theorem State.withReclose_conflict (s : State) (v : Reclose) : (s.withReclose v).conflict = s.conflict := rfl
@[simp] theorem State.withReclose_meas (s : State) (v : Reclose) : (s.withReclose v).meas = s.meas := rfl
@[simp] theorem State.withReclose_conds (s : State) (v : Reclose) : (s.withReclose v).conds = s.conds := rfl
@[simp] theorem State.withReclose_trips (s : State) (v : Reclose) : (s.withReclose v).trips = s.trips := rfl
@[simp] theorem State.withReclose_roster (s : State) (v : Reclose) : (s.withReclose v).roster = s.roster := rfl
@[simp] theorem State.withReclose_formation (s : State) (v : Reclose) : (s.withReclose v).formation = s.formation := rfl
@[simp] theorem State.withReclose_beats (s : State) (v : Reclose) : (s.withReclose v).beats = s.beats := rfl
@[simp] theorem State.withReclose_budget (s : State) (v : Reclose) : (s.withReclose v).budget = s.budget := rfl
@[simp] theorem State.withReclose_reclose (s : State) (v : Reclose) : (s.withReclose v).reclose = v := rfl
@[simp] theorem State.withReclose_charge (s : State) (v : Reclose) : (s.withReclose v).charge = s.charge := rfl
@[simp] theorem State.withReclose_discharge (s : State) (v : Reclose) : (s.withReclose v).discharge = s.discharge := rfl
@[simp] theorem State.withReclose_stop (s : State) (v : Reclose) : (s.withReclose v).stop = s.stop := rfl
@[simp] theorem State.withReclose_link (s : State) (v : Reclose) : (s.withReclose v).link = s.link := rfl
@[simp] theorem State.withReclose_restartPending (s : State) (v : Reclose) : (s.withReclose v).restartPending = s.restartPending := rfl
@[simp] theorem State.withReclose_freeCount (s : State) (v : Reclose) : (s.withReclose v).freeCount = s.freeCount := rfl
@[simp] theorem State.withReclose_pending (s : State) (v : Reclose) : (s.withReclose v).pending = s.pending := rfl

@[simp] theorem State.withStop_supplyLow (s : State) (v : StopLine) : (s.withStop v).supplyLow = s.supplyLow := rfl
@[simp] theorem State.withStop_phase (s : State) (v : StopLine) : (s.withStop v).phase = s.phase := rfl
@[simp] theorem State.withStop_store (s : State) (v : StopLine) : (s.withStop v).store = s.store := rfl
@[simp] theorem State.withStop_load (s : State) (v : StopLine) : (s.withStop v).load = s.load := rfl
@[simp] theorem State.withStop_cfg (s : State) (v : StopLine) : (s.withStop v).cfg = s.cfg := rfl
@[simp] theorem State.withStop_conflict (s : State) (v : StopLine) : (s.withStop v).conflict = s.conflict := rfl
@[simp] theorem State.withStop_meas (s : State) (v : StopLine) : (s.withStop v).meas = s.meas := rfl
@[simp] theorem State.withStop_conds (s : State) (v : StopLine) : (s.withStop v).conds = s.conds := rfl
@[simp] theorem State.withStop_trips (s : State) (v : StopLine) : (s.withStop v).trips = s.trips := rfl
@[simp] theorem State.withStop_roster (s : State) (v : StopLine) : (s.withStop v).roster = s.roster := rfl
@[simp] theorem State.withStop_formation (s : State) (v : StopLine) : (s.withStop v).formation = s.formation := rfl
@[simp] theorem State.withStop_beats (s : State) (v : StopLine) : (s.withStop v).beats = s.beats := rfl
@[simp] theorem State.withStop_budget (s : State) (v : StopLine) : (s.withStop v).budget = s.budget := rfl
@[simp] theorem State.withStop_reclose (s : State) (v : StopLine) : (s.withStop v).reclose = s.reclose := rfl
@[simp] theorem State.withStop_charge (s : State) (v : StopLine) : (s.withStop v).charge = s.charge := rfl
@[simp] theorem State.withStop_discharge (s : State) (v : StopLine) : (s.withStop v).discharge = s.discharge := rfl
@[simp] theorem State.withStop_stop (s : State) (v : StopLine) : (s.withStop v).stop = v := rfl
@[simp] theorem State.withStop_link (s : State) (v : StopLine) : (s.withStop v).link = s.link := rfl
@[simp] theorem State.withStop_restartPending (s : State) (v : StopLine) : (s.withStop v).restartPending = s.restartPending := rfl
@[simp] theorem State.withStop_freeCount (s : State) (v : StopLine) : (s.withStop v).freeCount = s.freeCount := rfl
@[simp] theorem State.withStop_pending (s : State) (v : StopLine) : (s.withStop v).pending = s.pending := rfl

@[simp] theorem State.withLink_supplyLow (s : State) (v : Link) : (s.withLink v).supplyLow = s.supplyLow := rfl
@[simp] theorem State.withLink_phase (s : State) (v : Link) : (s.withLink v).phase = s.phase := rfl
@[simp] theorem State.withLink_store (s : State) (v : Link) : (s.withLink v).store = s.store := rfl
@[simp] theorem State.withLink_load (s : State) (v : Link) : (s.withLink v).load = s.load := rfl
@[simp] theorem State.withLink_cfg (s : State) (v : Link) : (s.withLink v).cfg = s.cfg := rfl
@[simp] theorem State.withLink_conflict (s : State) (v : Link) : (s.withLink v).conflict = s.conflict := rfl
@[simp] theorem State.withLink_meas (s : State) (v : Link) : (s.withLink v).meas = s.meas := rfl
@[simp] theorem State.withLink_conds (s : State) (v : Link) : (s.withLink v).conds = s.conds := rfl
@[simp] theorem State.withLink_trips (s : State) (v : Link) : (s.withLink v).trips = s.trips := rfl
@[simp] theorem State.withLink_roster (s : State) (v : Link) : (s.withLink v).roster = s.roster := rfl
@[simp] theorem State.withLink_formation (s : State) (v : Link) : (s.withLink v).formation = s.formation := rfl
@[simp] theorem State.withLink_beats (s : State) (v : Link) : (s.withLink v).beats = s.beats := rfl
@[simp] theorem State.withLink_budget (s : State) (v : Link) : (s.withLink v).budget = s.budget := rfl
@[simp] theorem State.withLink_reclose (s : State) (v : Link) : (s.withLink v).reclose = s.reclose := rfl
@[simp] theorem State.withLink_charge (s : State) (v : Link) : (s.withLink v).charge = s.charge := rfl
@[simp] theorem State.withLink_discharge (s : State) (v : Link) : (s.withLink v).discharge = s.discharge := rfl
@[simp] theorem State.withLink_stop (s : State) (v : Link) : (s.withLink v).stop = s.stop := rfl
@[simp] theorem State.withLink_link (s : State) (v : Link) : (s.withLink v).link = v := rfl
@[simp] theorem State.withLink_restartPending (s : State) (v : Link) : (s.withLink v).restartPending = s.restartPending := rfl
@[simp] theorem State.withLink_freeCount (s : State) (v : Link) : (s.withLink v).freeCount = s.freeCount := rfl
@[simp] theorem State.withLink_pending (s : State) (v : Link) : (s.withLink v).pending = s.pending := rfl

@[simp] theorem State.withRestartPending_supplyLow (s : State) (v : Bool) : (s.withRestartPending v).supplyLow = s.supplyLow := rfl
@[simp] theorem State.withRestartPending_phase (s : State) (v : Bool) : (s.withRestartPending v).phase = s.phase := rfl
@[simp] theorem State.withRestartPending_store (s : State) (v : Bool) : (s.withRestartPending v).store = s.store := rfl
@[simp] theorem State.withRestartPending_load (s : State) (v : Bool) : (s.withRestartPending v).load = s.load := rfl
@[simp] theorem State.withRestartPending_cfg (s : State) (v : Bool) : (s.withRestartPending v).cfg = s.cfg := rfl
@[simp] theorem State.withRestartPending_conflict (s : State) (v : Bool) : (s.withRestartPending v).conflict = s.conflict := rfl
@[simp] theorem State.withRestartPending_meas (s : State) (v : Bool) : (s.withRestartPending v).meas = s.meas := rfl
@[simp] theorem State.withRestartPending_conds (s : State) (v : Bool) : (s.withRestartPending v).conds = s.conds := rfl
@[simp] theorem State.withRestartPending_trips (s : State) (v : Bool) : (s.withRestartPending v).trips = s.trips := rfl
@[simp] theorem State.withRestartPending_roster (s : State) (v : Bool) : (s.withRestartPending v).roster = s.roster := rfl
@[simp] theorem State.withRestartPending_formation (s : State) (v : Bool) : (s.withRestartPending v).formation = s.formation := rfl
@[simp] theorem State.withRestartPending_beats (s : State) (v : Bool) : (s.withRestartPending v).beats = s.beats := rfl
@[simp] theorem State.withRestartPending_budget (s : State) (v : Bool) : (s.withRestartPending v).budget = s.budget := rfl
@[simp] theorem State.withRestartPending_reclose (s : State) (v : Bool) : (s.withRestartPending v).reclose = s.reclose := rfl
@[simp] theorem State.withRestartPending_charge (s : State) (v : Bool) : (s.withRestartPending v).charge = s.charge := rfl
@[simp] theorem State.withRestartPending_discharge (s : State) (v : Bool) : (s.withRestartPending v).discharge = s.discharge := rfl
@[simp] theorem State.withRestartPending_stop (s : State) (v : Bool) : (s.withRestartPending v).stop = s.stop := rfl
@[simp] theorem State.withRestartPending_link (s : State) (v : Bool) : (s.withRestartPending v).link = s.link := rfl
@[simp] theorem State.withRestartPending_restartPending (s : State) (v : Bool) : (s.withRestartPending v).restartPending = v := rfl
@[simp] theorem State.withRestartPending_freeCount (s : State) (v : Bool) : (s.withRestartPending v).freeCount = s.freeCount := rfl
@[simp] theorem State.withRestartPending_pending (s : State) (v : Bool) : (s.withRestartPending v).pending = s.pending := rfl

@[simp] theorem State.withFreeCount_supplyLow (s : State) (v : Nat) : (s.withFreeCount v).supplyLow = s.supplyLow := rfl
@[simp] theorem State.withFreeCount_phase (s : State) (v : Nat) : (s.withFreeCount v).phase = s.phase := rfl
@[simp] theorem State.withFreeCount_store (s : State) (v : Nat) : (s.withFreeCount v).store = s.store := rfl
@[simp] theorem State.withFreeCount_load (s : State) (v : Nat) : (s.withFreeCount v).load = s.load := rfl
@[simp] theorem State.withFreeCount_cfg (s : State) (v : Nat) : (s.withFreeCount v).cfg = s.cfg := rfl
@[simp] theorem State.withFreeCount_conflict (s : State) (v : Nat) : (s.withFreeCount v).conflict = s.conflict := rfl
@[simp] theorem State.withFreeCount_meas (s : State) (v : Nat) : (s.withFreeCount v).meas = s.meas := rfl
@[simp] theorem State.withFreeCount_conds (s : State) (v : Nat) : (s.withFreeCount v).conds = s.conds := rfl
@[simp] theorem State.withFreeCount_trips (s : State) (v : Nat) : (s.withFreeCount v).trips = s.trips := rfl
@[simp] theorem State.withFreeCount_roster (s : State) (v : Nat) : (s.withFreeCount v).roster = s.roster := rfl
@[simp] theorem State.withFreeCount_formation (s : State) (v : Nat) : (s.withFreeCount v).formation = s.formation := rfl
@[simp] theorem State.withFreeCount_beats (s : State) (v : Nat) : (s.withFreeCount v).beats = s.beats := rfl
@[simp] theorem State.withFreeCount_budget (s : State) (v : Nat) : (s.withFreeCount v).budget = s.budget := rfl
@[simp] theorem State.withFreeCount_reclose (s : State) (v : Nat) : (s.withFreeCount v).reclose = s.reclose := rfl
@[simp] theorem State.withFreeCount_charge (s : State) (v : Nat) : (s.withFreeCount v).charge = s.charge := rfl
@[simp] theorem State.withFreeCount_discharge (s : State) (v : Nat) : (s.withFreeCount v).discharge = s.discharge := rfl
@[simp] theorem State.withFreeCount_stop (s : State) (v : Nat) : (s.withFreeCount v).stop = s.stop := rfl
@[simp] theorem State.withFreeCount_link (s : State) (v : Nat) : (s.withFreeCount v).link = s.link := rfl
@[simp] theorem State.withFreeCount_restartPending (s : State) (v : Nat) : (s.withFreeCount v).restartPending = s.restartPending := rfl
@[simp] theorem State.withFreeCount_freeCount (s : State) (v : Nat) : (s.withFreeCount v).freeCount = v := rfl
@[simp] theorem State.withFreeCount_pending (s : State) (v : Nat) : (s.withFreeCount v).pending = s.pending := rfl

@[simp] theorem State.setSwitch_supplyLow (s : State) (p : Path) (w : Switch) : (s.setSwitch p w).supplyLow = s.supplyLow := by
  cases p <;> rfl
@[simp] theorem State.setSwitch_phase (s : State) (p : Path) (w : Switch) : (s.setSwitch p w).phase = s.phase := by
  cases p <;> rfl
@[simp] theorem State.setSwitch_store (s : State) (p : Path) (w : Switch) : (s.setSwitch p w).store = s.store := by
  cases p <;> rfl
@[simp] theorem State.setSwitch_load (s : State) (p : Path) (w : Switch) : (s.setSwitch p w).load = s.load := by
  cases p <;> rfl
@[simp] theorem State.setSwitch_cfg (s : State) (p : Path) (w : Switch) : (s.setSwitch p w).cfg = s.cfg := by
  cases p <;> rfl
@[simp] theorem State.setSwitch_conflict (s : State) (p : Path) (w : Switch) : (s.setSwitch p w).conflict = s.conflict := by
  cases p <;> rfl
@[simp] theorem State.setSwitch_meas (s : State) (p : Path) (w : Switch) : (s.setSwitch p w).meas = s.meas := by
  cases p <;> rfl
@[simp] theorem State.setSwitch_conds (s : State) (p : Path) (w : Switch) : (s.setSwitch p w).conds = s.conds := by
  cases p <;> rfl
@[simp] theorem State.setSwitch_trips (s : State) (p : Path) (w : Switch) : (s.setSwitch p w).trips = s.trips := by
  cases p <;> rfl
@[simp] theorem State.setSwitch_roster (s : State) (p : Path) (w : Switch) : (s.setSwitch p w).roster = s.roster := by
  cases p <;> rfl
@[simp] theorem State.setSwitch_formation (s : State) (p : Path) (w : Switch) : (s.setSwitch p w).formation = s.formation := by
  cases p <;> rfl
@[simp] theorem State.setSwitch_beats (s : State) (p : Path) (w : Switch) : (s.setSwitch p w).beats = s.beats := by
  cases p <;> rfl
@[simp] theorem State.setSwitch_budget (s : State) (p : Path) (w : Switch) : (s.setSwitch p w).budget = s.budget := by
  cases p <;> rfl
@[simp] theorem State.setSwitch_reclose (s : State) (p : Path) (w : Switch) : (s.setSwitch p w).reclose = s.reclose := by
  cases p <;> rfl
@[simp] theorem State.setSwitch_stop (s : State) (p : Path) (w : Switch) : (s.setSwitch p w).stop = s.stop := by
  cases p <;> rfl
@[simp] theorem State.setSwitch_link (s : State) (p : Path) (w : Switch) : (s.setSwitch p w).link = s.link := by
  cases p <;> rfl
@[simp] theorem State.setSwitch_restartPending (s : State) (p : Path) (w : Switch) : (s.setSwitch p w).restartPending = s.restartPending := by
  cases p <;> rfl
@[simp] theorem State.setSwitch_freeCount (s : State) (p : Path) (w : Switch) : (s.setSwitch p w).freeCount = s.freeCount := by
  cases p <;> rfl
@[simp] theorem State.setSwitch_pending (s : State) (p : Path) (w : Switch) : (s.setSwitch p w).pending = s.pending := by
  cases p <;> rfl

@[simp] theorem State.setSwitch_charge_charge (s : State) (w : Switch) : (s.setSwitch .charge w).charge = w := rfl
@[simp] theorem State.setSwitch_charge_discharge (s : State) (w : Switch) :
    (s.setSwitch .charge w).discharge = s.discharge := rfl
@[simp] theorem State.setSwitch_discharge_charge (s : State) (w : Switch) :
    (s.setSwitch .discharge w).charge = s.charge := rfl
@[simp] theorem State.setSwitch_discharge_discharge (s : State) (w : Switch) :
    (s.setSwitch .discharge w).discharge = w := rfl
@[simp] theorem State.switch_charge (s : State) : s.switch .charge = s.charge := rfl
@[simp] theorem State.switch_discharge (s : State) : s.switch .discharge = s.discharge := rfl
@[simp] theorem State.switch_setSwitch (s : State) (p : Path) (w : Switch) : (s.setSwitch p w).switch p = w := by
  cases p <;> rfl

end Sys2Proof.Machine
end

