-- ==== Sys2Proof/Laws/Effects.lean ====
section
/-!
SUPPORT. What the shared operations over switches, rounds and the list do: which switches end off, when the round record
is absent, which record a key finds afterwards.
-/
namespace Sys2Proof.Machine

/-! ### One switch machine -/

theorem Switch.enterOpening_isOff (w : Switch) : w.enterOpening.isOff := by
  unfold Switch.enterOpening Switch.isOff
  split <;> simp

/-- After an open command the switch is off (R140). -/
theorem Switch.openCommand_isOff (w : Switch) : w.openCommand.isOff := by
  unfold Switch.openCommand
  split
  · rename_i h; exact .inl h
  · exact w.enterOpening_isOff
  · exact w.enterOpening_isOff
  · rename_i h; exact .inr (.inl h)
  · rename_i h; exact .inr (.inr h)

/-- An open command leaves a switch that is off as it is (R140). -/
theorem Switch.openCommand_of_isOff (w : Switch) (h : w.isOff) : w.openCommand = w := by
  unfold Switch.openCommand
  rcases h with h | h | h <;> rw [h]

theorem Switch.enterOpening_gate (w : Switch) : w.enterOpening.gateMatches := by
  unfold Switch.enterOpening Switch.gateMatches
  split <;> simp

theorem Switch.openCommand_gate (w : Switch) (h : w.gateMatches) : w.openCommand.gateMatches := by
  unfold Switch.openCommand
  split
  · exact h
  · exact w.enterOpening_gate
  · exact w.enterOpening_gate
  · exact h
  · exact h

theorem Switch.closeCommand_gate (held : Bool) (w : Switch) (h : w.gateMatches) :
    (w.closeCommand held).gateMatches := by
  unfold Switch.closeCommand
  split
  · split
    · exact h
    · simp [Switch.gateMatches]
  all_goals exact h

theorem Switch.feedbackOn_gate (w : Switch) (h : w.gateMatches) : w.feedbackOn.gateMatches := by
  unfold Switch.feedbackOn
  simp only
  split <;> simp_all [Switch.gateMatches, Switch.enterOpening]

theorem Switch.feedbackOff_gate (w : Switch) (h : w.gateMatches) : w.feedbackOff.1.gateMatches := by
  unfold Switch.feedbackOff
  simp only
  split <;> simp_all [Switch.gateMatches, Switch.enterOpening]

theorem Switch.closeLimit_gate (w : Switch) (h : w.gateMatches) : w.closeLimit.1.gateMatches := by
  unfold Switch.closeLimit
  split
  · split
    · exact w.enterOpening_gate
    · exact h
  · exact h

theorem Switch.openLimit_gate (w : Switch) (h : w.gateMatches) : w.openLimit.1.gateMatches := by
  unfold Switch.openLimit
  split
  · split
    · simp_all [Switch.gateMatches]
    · exact h
  · exact h

/-! ### The two switches of a station -/

@[simp] theorem setSwitch_switch_self (s : State) (p : Path) (w : Switch) : (s.setSwitch p w).switch p = w := by
  cases p <;> rfl

theorem setSwitch_switch_other (s : State) (p q : Path) (w : Switch) (h : q ≠ p) :
    (s.setSwitch p w).switch q = s.switch q := by
  cases p <;> cases q <;> first | rfl | exact absurd rfl h

/-- What a round's end does to the switches: those of the closed set take an open command. -/
theorem openClosedSet_switch (r : Round) (s : State) (q : Path) :
    (openClosedSet r s).switch q = if r.closedSet.has q then (s.switch q).openCommand else s.switch q := by
  obtain ⟨_, _, _, _, _, _, _, _, _, _, _, ⟨c, d⟩, _⟩ := r
  cases c <;> cases d <;> cases q <;> rfl

theorem startHoldOff_switch (p q : Path) (s : State) : (startHoldOff p s).switch q = s.switch q := by
  cases p <;> cases q <;> rfl

theorem holdOffs_switch (ps : PathSet) (s : State) (q : Path) :
    (forPaths ps startHoldOff s).switch q = s.switch q := by
  obtain ⟨c, d⟩ := ps
  cases c <;> cases d <;> cases q <;> rfl

theorem endRound_switch (r : Round) (s : State) (q : Path) :
    (endRound r s).switch q = if r.closedSet.has q then (s.switch q).openCommand else s.switch q := by
  have h1 : (endRound r s).switch q = (forPaths r.paths startHoldOff (openClosedSet r s)).switch q := by
    cases q <;> rfl
  rw [h1, holdOffs_switch, openClosedSet_switch]

theorem endRound_round (r : Round) (s : State) : (endRound r s).reclose.round = none := rfl

theorem rememberLeft_switch (r : Round) (s : State) (q : Path) : (rememberLeft r s).switch q = s.switch q := by
  unfold rememberLeft
  split <;> cases q <;> rfl

theorem leaveRound_round (s : State) : (leaveRound s).reclose.round = none := by
  unfold leaveRound
  split
  · assumption
  · rfl

/-- Leaving a round, a switch is as it was or has taken an open command. -/
theorem leaveRound_switch (s : State) (q : Path) :
    (leaveRound s).switch q = s.switch q ∨ (leaveRound s).switch q = (s.switch q).openCommand := by
  unfold leaveRound
  split
  · exact .inl rfl
  · rename_i r _
    have key : ∀ u : State, u.switch q = s.switch q →
        ((endRound r (rememberLeft r u)).count Counters.abandoned).switch q = s.switch q ∨
        ((endRound r (rememberLeft r u)).count Counters.abandoned).switch q = (s.switch q).openCommand := by
      intro u hu
      have h1 : ((endRound r (rememberLeft r u)).count Counters.abandoned).switch q =
          (endRound r (rememberLeft r u)).switch q := by cases q <;> rfl
      rw [h1, endRound_switch, rememberLeft_switch, hu]
      split
      · exact .inr rfl
      · exact .inl rfl
    simp only
    split
    · exact key _ (by cases q <;> rfl)
    · exact key _ rfl

theorem leaveRound_keeps_isOff (s : State) (q : Path) (h : (s.switch q).isOff) :
    ((leaveRound s).switch q).isOff := by
  rcases leaveRound_switch s q with e | e
  · rw [e]; exact h
  · rw [e]; exact Switch.openCommand_isOff _

theorem afterClosed_switch (s : State) (q : Path) : (afterClosed s).switch q = s.switch q := by
  unfold afterClosed
  split
  · rfl
  · split
    · rfl
    · split
      · cases q <;> rfl
      · split
        · cases q <;> rfl
        · rfl

/-- A move leaves each other switch as it was or opens it (R116). -/
theorem moveSwitch_switch_other (p q : Path) (w : Switch) (s : State) (h : q ≠ p) :
    (moveSwitch p w s).switch q = s.switch q ∨ (moveSwitch p w s).switch q = (s.switch q).openCommand := by
  have h0 := setSwitch_switch_other s p q w h
  unfold moveSwitch
  simp only
  split
  · exact .inl h0
  · split
    · rw [afterClosed_switch]; exact .inl h0
    · split
      · unfold afterOpen
        split
        · exact .inl h0
        · split
          · rcases leaveRound_switch (s.setSwitch p w) q with e | e
            · rw [e, h0]; exact .inl rfl
            · rw [e, h0]; exact .inr rfl
          · exact .inl h0
      · exact .inl h0

/-- A moved switch has the value it was given. -/
theorem moveSwitch_switch_self (p : Path) (w : Switch) (s : State) : (moveSwitch p w s).switch p = w := by
  unfold moveSwitch
  simp only
  split
  · exact setSwitch_switch_self s p w
  · split
    · rw [afterClosed_switch]; exact setSwitch_switch_self s p w
    · split
      · rename_i ho
        unfold afterOpen
        split
        · exact setSwitch_switch_self s p w
        · split
          · rcases leaveRound_switch (s.setSwitch p w) p with e | e
            · rw [e]; exact setSwitch_switch_self s p w
            · rw [e, setSwitch_switch_self]; exact Switch.openCommand_of_isOff w (.inl ho)
          · exact setSwitch_switch_self s p w
      · exact setSwitch_switch_self s p w

/-- A hold cause coming into force leaves the path's switch off (R139, R140). -/
theorem openPath_isOff (p : Path) (s : State) : ((openPath p s).switch p).isOff := by
  unfold openPath
  rw [moveSwitch_switch_self]
  exact Switch.openCommand_isOff _

theorem openPath_keeps_isOff (p q : Path) (s : State) (h : (s.switch q).isOff) : ((openPath p s).switch q).isOff := by
  by_cases hq : q = p
  · subst hq; exact openPath_isOff q s
  · rcases moveSwitch_switch_other p q (s.switch p).openCommand s hq with e | e
    · unfold openPath; rw [e]; exact h
    · unfold openPath; rw [e]; exact Switch.openCommand_isOff _

/-- A hold cause of both paths leaves both switches off and the station in no round (R116, R139). -/
theorem holdBoth_isOff (s : State) (q : Path) : ((holdBoth s).switch q).isOff := by
  unfold holdBoth
  refine leaveRound_keeps_isOff _ q ?_
  cases q
  · exact openPath_keeps_isOff .discharge .charge _ (openPath_isOff .charge s)
  · exact openPath_isOff .discharge _

theorem holdBoth_round (s : State) : (holdBoth s).reclose.round = none := leaveRound_round _

/-- The switches of the paths just blocked are off after the list's report (R22). -/
theorem openPaths_isOff (ps : PathSet) (s : State) (q : Path) (h : ps.has q = true) :
    ((forPaths ps openPath s).switch q).isOff := by
  obtain ⟨c, d⟩ := ps
  unfold forPaths
  cases c <;> cases d <;> cases q <;> simp_all only [PathSet.has, if_true, if_false, Bool.false_eq_true]
  · exact openPath_isOff _ _
  · exact openPath_isOff _ _
  · exact openPath_keeps_isOff _ _ _ (openPath_isOff _ _)
  · exact openPath_isOff _ _

theorem openPaths_keeps_isOff (ps : PathSet) (s : State) (q : Path) (h : (s.switch q).isOff) :
    ((forPaths ps openPath s).switch q).isOff := by
  obtain ⟨c, d⟩ := ps
  unfold forPaths
  cases c <;> cases d <;> simp only [if_true, if_false, Bool.false_eq_true]
  · exact h
  · exact openPath_keeps_isOff _ _ _ h
  · exact openPath_keeps_isOff _ _ _ h
  · exact openPath_keeps_isOff _ _ _ (openPath_keeps_isOff _ _ _ h)

/-! ### The list -/

theorem Record.hasKey_self (r : Record) : r.hasKey r.origin r.kind r.subject = true := by
  simp [Record.hasKey]

theorem find_map_of_key (p : Record → Bool) (f : Record → Record) (hf : ∀ r, p (f r) = p r) (l : List Record) :
    (l.map f).find? p = (l.find? p).map f := by
  induction l with
  | nil => rfl
  | cons x xs ih =>
      simp only [List.map_cons, List.find?_cons, hf]
      cases p x
      · exact ih
      · rfl

/-- After an own record is added or replaced, its key finds it (R5, R9, R10). -/
theorem findRecord_upsert (r : Record) (l : List Record) :
    findRecord r.origin r.kind r.subject (upsert r l) = some r := by
  unfold upsert
  split
  · rename_i h
    unfold findRecord at h ⊢
    have hf : ∀ o : Record, Record.hasKey r.origin r.kind r.subject
        (if Record.hasKey r.origin r.kind r.subject o then r else o) = Record.hasKey r.origin r.kind r.subject o := by
      intro o
      by_cases ho : Record.hasKey r.origin r.kind r.subject o = true
      · rw [if_pos ho, ho]; exact r.hasKey_self
      · rw [if_neg ho]
    rw [find_map_of_key _ _ hf]
    cases hx : l.find? (Record.hasKey r.origin r.kind r.subject) with
    | none => rw [hx] at h; exact absurd h (by simp)
    | some x =>
        have hk : Record.hasKey r.origin r.kind r.subject x = true := List.find?_some hx
        simp [hk]
  · rename_i h
    unfold findRecord at h ⊢
    rw [List.find?_append]
    cases hx : l.find? (Record.hasKey r.origin r.kind r.subject) with
    | none => simp [r.hasKey_self]
    | some x => rw [hx] at h; exact absurd rfl h

/-- The record of an own condition just activated (R9, R10). -/
theorem activateOwn_find (id : CondId) (s : State) :
    findRecord s.rank id.kind id.subject (activateOwn id s).trips.records =
      some (newOwnRecord s.rank id (s.conds.paths id) s.trips) :=
  findRecord_upsert (newOwnRecord s.rank id (s.conds.paths id) s.trips) s.trips.records

/-- Clearing an own record moves no other record and changes only its phase (R11). -/
theorem clearOwn_records (id : CondId) (s : State) :
    (clearOwn id s).trips.records = s.trips.records.map fun r =>
      if r.hasKey s.rank id.kind id.subject then { r with phase := .CLEARED } else r := rfl

/-- Counting an offer changes no key, phase or path set: the paths blocked stay the same (R23). -/
theorem takeOffers_blocked (ch : Change) (s : State) (p : Path) :
    blockedBy (takeOffers ch s).trips.records p = blockedBy s.trips.records p := by
  unfold takeOffers
  split
  · show blockedBy (s.trips.records.map _) p = _
    unfold blockedBy
    rw [List.any_map]
    congr 1
    funext r
    simp only [Function.comp_apply]
    split <;> rfl
  · rfl

/-! ### Queues -/

/-- The round slot after a frame joined it: the tail is that frame (R174). -/
theorem Link.queueRound_rounds (l : Link) (dst : Byte) (c : Content) :
    (l.queueRound dst c).rounds =
      (if l.rounds.length < 2 then l.rounds else l.rounds.drop 1) ++ [TxFrame.new dst c] := by
  unfold Link.queueRound Link.cutOff
  split
  · rfl
  · split <;> rfl

theorem Link.queueRound_capacity (l : Link) (dst : Byte) (c : Content) (h : l.rounds.length ≤ 2) :
    (l.queueRound dst c).rounds.length ≤ 2 := by
  rw [Link.queueRound_rounds]
  split <;> simp <;> omega

theorem Link.queueNotice_capacity (l : Link) (c : Content) (h : l.notices.length ≤ 8) :
    (l.queueNotice c).notices.length ≤ 8 := by
  unfold Link.queueNotice
  split
  · simp; omega
  · exact h

theorem satAdd_within (a b : Nat) : satAdd a b ≤ 65535 := Nat.min_le_right _ _

/-! ### The storage, the medium's times and the offers -/

/-- A written storage reads the same at every load (R201). -/
theorem Store.read_written (given : Vector Byte 64) (st : Store) (h : st.written = true) : st.read given = st := by
  unfold Store.read; rw [if_pos h]

/-- The first load finds the bytes the storage was written with (R197). -/
theorem Store.read_first (given : Vector Byte 64) (st : Store) (h : st.written = false) :
    st.read given = { block := given, written := true } := by
  unfold Store.read; rw [if_neg (by simp [h])]

/-- After any load the storage is written. -/
theorem Store.read_isWritten (given : Vector Byte 64) (st : Store) : (st.read given).written = true := by
  unfold Store.read; split <;> simp_all

/-- When a busy medium becomes idle (R157). -/
theorem Link.becomesIdle_iff (l : Link) :
    l.becomesIdle = true ↔ l.busy = true ∧ l.sending = none ∧ l.midCharacter = false ∧ 16 ≤ l.quiet := by
  unfold Link.becomesIdle idleTime
  simp [and_assoc]

/-- When the offered frame may start (R168). -/
theorem Link.mayStart_iff (rank : Nat) (k : TxClass) (l : Link) :
    l.mayStart rank k = true ↔ l.busy = false ∧ l.sending = none ∧ k.gap rank ≤ l.quiet := by
  unfold Link.mayStart
  simp [and_assoc]

/-- No quiet passes while a character is on the pair (R157). -/
theorem Link.tick_midCharacter (l : Link) (h : l.midCharacter = true) : l.tick.quiet = 0 := by
  unfold Link.tick; simp [h]

theorem Link.tick_quiet (l : Link) (h : l.midCharacter = false) : l.tick.quiet = l.quiet + 1 := by
  unfold Link.tick; simp [h]

/-- No frame is taken until the medium has been idle after LOADING (R178). -/
theorem receive_discarding (f : RxFrame) (s : State) (h : s.link.discarding = true) : receive f s = s := by
  unfold receive; rw [if_pos (.inr h)]

/-- A frame taken after LOADING and on a medium that has been idle (R161 to R163). -/
theorem receive_listening (f : RxFrame) (s : State) (hp : s.phase ≠ .LOADING) (hd : s.link.discarding = false) :
    receive f s = if f.valid then distribute f (s.count Counters.good) else s.count Counters.bad := by
  unfold receive; rw [if_neg (by simp [hp, hd])]

/-- The record of a condition that took the next trip id is new, whatever that id (R10, R23, R33). -/
theorem Record.newIn_activated (own : Nat) (ch : Change) (id : CondId) (r : Record) (hid : id ∈ ch.activated)
    (h : r.hasKey own id.kind id.subject = true) : r.newIn own ch = true := by
  unfold Record.newIn
  rw [Bool.or_eq_true]
  exact .inl (List.any_eq_true.mpr ⟨id, hid, h⟩)

end Sys2Proof.Machine
end

