-- ==== Sys2Proof/Laws/Lists.lean ====
section
/-!
SUPPORT. What the list and byte functions do, said once: the additions of a beat as a prefix of the entries, the first entry
of each key, the order of retirement keys, and the two CRCs as shift registers.
-/
namespace Sys2Proof.Machine

/-! ### Additions to the list (R8, R17) -/

theorem hasRoom_iff (n own : Nat) (l : List Record) : hasRoom n own l = true ↔ 0 < roomBeside n own l := by
  unfold hasRoom roomBeside ownReserve ownCount
  simp only [decide_eq_true_eq, beq_eq_decide]
  omega

theorem roomBeside_append (n own : Nat) (l : List Record) (r : Record) (h : r.origin ≠ own) :
    roomBeside n own (l ++ [r]) = roomBeside n own l - 1 := by
  unfold roomBeside
  simp only [List.filter_append, List.length_append, List.length_cons, List.length_nil]
  rw [List.filter_cons_of_neg (by simpa using h)]
  simp only [List.filter_nil, List.length_nil]
  omega

/-- The additions of a beat are those that have room, in order; one is refused where there are more (R17, R24). -/
theorem addAll_eq (n own : Nat) (rs : List Record) (h : ∀ r ∈ rs, r.origin ≠ own) (l : List Record) :
    addAll n own rs l = (l ++ rs.take (roomBeside n own l), decide (roomBeside n own l < rs.length)) := by
  induction rs generalizing l with
  | nil => simp [addAll]
  | cons r rs ih =>
      have hr : r.origin ≠ own := h r (List.mem_cons_self)
      have ht : ∀ x ∈ rs, x.origin ≠ own := fun x hx => h x (List.mem_cons_of_mem _ hx)
      unfold addAll addForeign
      by_cases hroom : hasRoom n own l = true
      · have hpos := (hasRoom_iff n own l).1 hroom
        simp only [hroom, if_true, ih ht, roomBeside_append n own l r hr]
        obtain ⟨k, hk⟩ := Nat.exists_eq_succ_of_ne_zero (Nat.pos_iff_ne_zero.1 hpos)
        simp [hk]
      · have hzero : roomBeside n own l = 0 := by
          have := mt (hasRoom_iff n own l).2 hroom
          omega
        simp [hroom, ih ht, hzero]

/-! ### The entries of a beat (R15) -/

theorem firstOfKey_sublist (l : List OwnEntry) : (firstOfKey l).Sublist l := by
  induction l with
  | nil => exact List.Sublist.refl _
  | cons e es ih => exact (List.Sublist.trans List.filter_sublist ih).cons_cons e

theorem firstOfKey_nodup (l : List OwnEntry) : ((firstOfKey l).map fun x => (x.kind, x.subject)).Nodup := by
  induction l with
  | nil => exact List.nodup_nil
  | cons e es ih =>
      unfold firstOfKey
      rw [List.map_cons, List.nodup_cons]
      refine ⟨fun hm => ?_, ih.sublist (List.filter_sublist.map _)⟩
      obtain ⟨x, hx, hk⟩ := List.mem_map.1 hm
      have := (List.mem_filter.1 hx).2
      simp only [Prod.mk.injEq] at hk
      simp [hk.1, hk.2] at this

/-! ### Retirement sets (R7, R104) -/

theorem insertKey_perm (x : RetireKey) (l : List RetireKey) : (insertKey x l).Perm (x :: l) := by
  induction l with
  | nil => exact List.Perm.refl _
  | cons y ys ih =>
      unfold insertKey
      split
      · exact List.Perm.refl _
      · exact (ih.cons y).trans (List.Perm.swap x y ys)

theorem sortKeys_perm (l : List RetireKey) : (sortKeys l).Perm l := by
  induction l with
  | nil => exact List.Perm.refl _
  | cons x xs ih => exact (insertKey_perm x _).trans (ih.cons x)

/-- The order of R7 on retirement keys. -/
def RetireKey.before (a b : RetireKey) : Prop :=
  a.origin < b.origin ∨ a.origin = b.origin ∧
    (a.kind.code < b.kind.code ∨ a.kind = b.kind ∧ a.subject.getD 0 ≤ b.subject.getD 0)

theorem Kind.code_injective {a b : Kind} (h : a.code = b.code) : a = b := by
  cases a <;> cases b <;> first | rfl | exact absurd h (by decide)

theorem RetireKey.le_iff (a b : RetireKey) : a.le b = true ↔ a.before b := by
  unfold RetireKey.le RetireKey.before
  split
  · rename_i ho
    split
    · rename_i hk
      simp [ho, hk]
    · rename_i hk
      have : a.kind.code ≠ b.kind.code := fun h => hk (Kind.code_injective h)
      simp [ho, hk]
      omega
  · simp
    omega

theorem RetireKey.before_total (a b : RetireKey) (h : ¬ a.before b) : b.before a := by
  unfold RetireKey.before at *
  by_cases hk : a.kind = b.kind
  · simp [hk] at *
    omega
  · have : a.kind.code ≠ b.kind.code := fun h => hk (Kind.code_injective h)
    simp [hk] at h
    omega

theorem RetireKey.before_trans {a b c : RetireKey} (h : a.before b) (h' : b.before c) : a.before c := by
  unfold RetireKey.before at *
  rcases h with h | ⟨h, hk | ⟨hk, hs⟩⟩ <;> rcases h' with h' | ⟨h', hk' | ⟨hk', hs'⟩⟩
  · omega
  · omega
  · omega
  · omega
  · exact .inr ⟨by omega, .inl (by omega)⟩
  · exact .inr ⟨by omega, .inl (hk' ▸ hk)⟩
  · omega
  · exact .inr ⟨by omega, .inl (hk ▸ hk')⟩
  · exact .inr ⟨by omega, .inr ⟨hk.trans hk', by omega⟩⟩

theorem insertKey_sorted (x : RetireKey) (l : List RetireKey) (h : l.Pairwise RetireKey.before) :
    (insertKey x l).Pairwise RetireKey.before := by
  induction l with
  | nil => exact List.pairwise_singleton _ _
  | cons y ys ih =>
      have hy := List.pairwise_cons.1 h
      unfold insertKey
      split
      · rename_i hle
        have hxy := (RetireKey.le_iff x y).1 hle
        refine List.pairwise_cons.2 ⟨fun z hz => ?_, h⟩
        rcases List.mem_cons.1 hz with rfl | hz
        · exact hxy
        · exact RetireKey.before_trans hxy (hy.1 z hz)
      · rename_i hle
        have hyx := RetireKey.before_total x y fun h => hle ((RetireKey.le_iff x y).2 h)
        refine List.pairwise_cons.2 ⟨fun z hz => ?_, ih hy.2⟩
        rcases List.mem_cons.1 ((insertKey_perm x ys).mem_iff.1 hz) with rfl | hz
        · exact hyx
        · exact hy.1 z hz

theorem sortKeys_sorted (l : List RetireKey) : (sortKeys l).Pairwise RetireKey.before := by
  induction l with
  | nil => exact List.Pairwise.nil
  | cons x xs ih => exact insertKey_sorted x _ ih

/-! ### Bursts and CRCs (R104, R159, R161) -/

theorem burstBytes_map (bs : List Byte) : burstBytes (bs.map .byte) = some bs := by
  induction bs with
  | nil => rfl
  | cons b bs ih => simp [burstBytes, ih]

theorem burstBytes_damaged (cs : List LineChar) (h : .damaged ∈ cs) : burstBytes cs = none := by
  induction cs with
  | nil => exact absurd h List.not_mem_nil
  | cons c cs ih =>
      cases c with
      | damaged => rfl
      | byte b =>
          have : LineChar.damaged ∈ cs := by simpa using h
          simp [burstBytes, ih this]

theorem crc8Shift_register (r : BitVec 8) :
    crc8Shift r.toNat = (if r.msb then (r <<< 1) ^^^ 7#8 else r <<< 1).toNat := by
  revert r
  decide +kernel

theorem crc16Shift_register (r : BitVec 16) :
    crc16Shift r.toNat = (if r.msb then (r <<< 1) ^^^ 0x1021#16 else r <<< 1).toNat := by
  have hlt := r.isLt
  unfold crc16Shift
  by_cases h : 32768 ≤ r.toNat
  · have hm : r.msb = true := by rw [BitVec.msb_eq_decide]; simpa using h
    rw [if_pos h, if_pos hm, BitVec.toNat_xor, BitVec.toNat_shiftLeft, Nat.shiftLeft_eq]
    rfl
  · have hm : ¬ r.msb = true := by rw [BitVec.msb_eq_decide]; simpa using h
    rw [if_neg h, if_neg hm, BitVec.toNat_shiftLeft, Nat.shiftLeft_eq]
    omega

/-- Eight shifts of a number are eight shifts of the register that holds it. -/
theorem iterate_register {w : Nat} (f : Nat → Nat) (g : BitVec w → BitVec w) (h : ∀ r, f r.toNat = (g r).toNat)
    (n : Nat) (r : BitVec w) : iterate f n r.toNat = ((List.range n).foldl (fun r _ => g r) r).toNat := by
  induction n generalizing r with
  | zero => rfl
  | succ n ih => rw [iterate, h, ih, List.range_succ_eq_map, List.foldl_cons, List.foldl_map]

/-- The 8-bit CRC is the shift register's (R104). -/
theorem crc8_register (bs : List Byte) : crc8 bs = crcRegister 7#8 0#8 (fun b => b) bs := by
  have key : ∀ r : BitVec 8,
      bs.foldl (fun r b => iterate crc8Shift 8 (Nat.xor r b.toNat)) r.toNat =
        (crcRegister 7#8 r (fun b => b) bs).toNat := by
    induction bs with
    | nil => exact fun _ => rfl
    | cons b bs ih =>
        intro r
        unfold crcRegister at *
        rw [List.foldl_cons, List.foldl_cons, ← ih, ← iterate_register crc8Shift _ crc8Shift_register, BitVec.toNat_xor]
        rfl
  exact (congrArg (BitVec.ofNat 8) (key 0#8)).trans (by rw [BitVec.ofNat_toNat, BitVec.setWidth_eq])

/-- The 16-bit CRC is the shift register's (R159). -/
theorem crc16_register (bs : List Byte) :
    crc16 bs = crcRegister 0x1021#16 0xFFFF#16 (fun b => b ++ 0#8) bs := by
  have place (b : Byte) : b.toNat * 256 = (b ++ 0#8 : BitVec 16).toNat := by
    rw [BitVec.toNat_append, Nat.shiftLeft_eq]
    simp
  have key : ∀ r : BitVec 16,
      bs.foldl (fun r b => iterate crc16Shift 8 (Nat.xor r (b.toNat * 256))) r.toNat =
        (crcRegister 0x1021#16 r (fun b => b ++ 0#8) bs).toNat := by
    induction bs with
    | nil => exact fun _ => rfl
    | cons b bs ih =>
        intro r
        unfold crcRegister at *
        rw [List.foldl_cons, List.foldl_cons, ← ih, ← iterate_register crc16Shift _ crc16Shift_register, BitVec.toNat_xor,
          ← place]
        rfl
  exact (congrArg (BitVec.ofNat 16) (key 0xFFFF#16)).trans (by rw [BitVec.ofNat_toNat, BitVec.setWidth_eq])

end Sys2Proof.Machine
end

