-- ==== Sys2Proof/Laws/Orders.lean ====
section
/-!
SUPPORT. What a free order can do: it runs every act once, in some order, and may advance the free counter.
-/
namespace Sys2Proof.Machine

theorem mem_insertEverywhere {α : Type} (x : α) (l m : List α) (h : m ∈ insertEverywhere x l) : m.Perm (x :: l) := by
  induction l generalizing m with
  | nil => simp [insertEverywhere] at h; subst h; exact List.Perm.refl _
  | cons y ys ih =>
      simp only [insertEverywhere, List.mem_cons, List.mem_map] at h
      rcases h with rfl | ⟨k, hk, rfl⟩
      · exact List.Perm.refl _
      · exact ((ih k hk).cons y).trans (List.Perm.swap x y ys)

/-- Every member of `permutations l` is a permutation of `l`. -/
theorem mem_permutations {α : Type} (l m : List α) (h : m ∈ permutations l) : m.Perm l := by
  induction l generalizing m with
  | nil => simp [permutations] at h; subst h; exact List.Perm.refl _
  | cons x xs ih =>
      simp only [permutations, List.mem_flatMap] at h
      obtain ⟨k, hk, hm⟩ := h
      exact (mem_insertEverywhere x k m hm).trans ((ih k hk).cons x)

/-- The state after a free order is that of one order of the acts, the free counter aside. -/
theorem inAnyOrder_spec (acts : List (State → State)) (s : State) :
    ∃ order n, order.Perm acts ∧
      (inAnyOrder acts s = runAll order s ∨ inAnyOrder acts s = (runAll order s).withFreeCount n) := by
  unfold inAnyOrder
  simp only
  split
  · exact ⟨acts, 0, List.Perm.refl _, .inl rfl⟩
  · generalize hi : Config.freeOrder s.freeCount % ((permutations acts).map fun o => runAll o s).length = i
    by_cases h : i < ((permutations acts).map fun o => runAll o s).length
    · refine ⟨(permutations acts)[i]'(by simpa using h), s.freeCount + 1, ?_, .inr ?_⟩
      · exact mem_permutations _ _ (List.getElem_mem _)
      · simp only [List.getD_eq_getElem?_getD, List.getElem?_eq_getElem h, Option.getD_some, List.getElem_map]
    · refine ⟨acts, s.freeCount + 1, List.Perm.refl _, .inr ?_⟩
      simp only [List.getD_eq_getElem?_getD, List.getElem?_eq_none (Nat.le_of_not_lt h), Option.getD_none]

/-- What every act of the list keeps, running them keeps. -/
theorem runAll_keeps (P : State → Prop) (acts : List (State → State)) (h : ∀ f ∈ acts, ∀ s, P s → P (f s)) (s : State)
    (hs : P s) : P (runAll acts s) := by
  induction acts generalizing s with
  | nil => simpa [runAll] using hs
  | cons f fs ih =>
      simp only [runAll, List.foldl_cons]
      exact ih (fun g hg => h g (List.mem_cons_of_mem _ hg)) (f s) (h f (List.mem_cons_self ..) s hs)

/-- What every act keeps, and the free counter does not touch, a free order keeps. -/
theorem inAnyOrder_keeps (P : State → Prop) (acts : List (State → State))
    (hfree : ∀ s n, P s → P (s.withFreeCount n)) (h : ∀ f ∈ acts, ∀ s, P s → P (f s)) (s : State) (hs : P s) :
    P (inAnyOrder acts s) := by
  obtain ⟨order, n, hperm, heq⟩ := inAnyOrder_spec acts s
  have hrun : P (runAll order s) := runAll_keeps P order (fun f hf => h f (hperm.mem_iff.mp hf)) s hs
  rcases heq with heq | heq
  · exact heq ▸ hrun
  · exact heq ▸ hfree _ _ hrun

/-- A view of the state that no act changes, nor the free counter, is unchanged by a free order. -/
theorem inAnyOrder_view {β : Type} (view : State → β) (acts : List (State → State))
    (hfree : ∀ s n, view (s.withFreeCount n) = view s) (h : ∀ f ∈ acts, ∀ s, view (f s) = view s) (s : State) :
    view (inAnyOrder acts s) = view s :=
  inAnyOrder_keeps (fun t => view t = view s) acts (fun t n ht => (hfree t n).trans ht)
    (fun f hf t ht => (h f hf t).trans ht) s rfl

/-- One act alone needs no order. -/
theorem inAnyOrder_one (f : State → State) (s : State) : inAnyOrder [f] s = f s := by
  simp [inAnyOrder, permutations, insertEverywhere, runAll]

end Sys2Proof.Machine
end

