-- ==== Sys2Proof/Laws/Settle.lean ====
section
/-!
SUPPORT. What the checks a command ends with can do: `settle` is the identity where no input of the start test changed,
and otherwise leaves everything as `EndsAs` says.
-/
namespace Sys2Proof.Machine

theorem EndsAs.refl (s : State) : EndsAs s s := ⟨rfl, fun _ => .inl rfl, .inl rfl, .inl ⟨rfl, rfl⟩⟩

/-- Starting a hold-off changes nothing but the path's hold-off timer. -/
theorem startHoldOff_endsAs (u s : State) (p : Path) (h : EndsAs u s) : EndsAs u (startHoldOff p s) := by
  obtain ⟨h1, h2, h3, h4⟩ := h
  have hc : s.cfg = u.cfg := by rw [h1]
  refine ⟨?_, fun q => ?_, h3, ?_⟩
  · generalize hm : startHoldOff p s = m
    rw [h1] at hm
    cases p <;> (subst hm; rfl)
  · cases p <;> cases q
    · exact .inr (hc ▸ rfl)
    · exact h2 .discharge
    · exact h2 .charge
    · exact .inr (hc ▸ rfl)
  · cases p <;> exact h4

theorem packEdge_endsAs (u before s : State) (p : Path) (h : EndsAs u s) : EndsAs u (packEdge before p s) := by
  unfold packEdge
  split
  · exact startHoldOff_endsAs u s p h
  · exact h

theorem quietRetest_endsAs (u s : State) (h : EndsAs u s) : EndsAs u (quietRetest s) := by
  have key : ∀ q, q = .stopped ∨ q = .running u.cfg.quietTimeUs →
      EndsAs u (s.withBudget { s.budget with quiet := q }) := by
    intro q hq
    obtain ⟨h1, h2, h3, h4⟩ := h
    refine ⟨?_, h2, .inr hq, h4⟩
    generalize hm : s.withBudget { s.budget with quiet := q } = m
    rw [h1] at hm
    subst hm; rfl
  have hc : s.cfg = u.cfg := by rw [h.1]
  unfold quietRetest
  split
  · split
    · exact h
    · exact key _ (.inr (hc ▸ rfl))
  · exact key _ (.inl rfl)

/-- A round frame that joins the slot changes the slot, the replaced counter and what is being sent. -/
theorem Link.queueRound_frame (l : Link) (dst : Byte) (c : Content) :
    l.queueRound dst c = { l with
      rounds := (l.queueRound dst c).rounds, sending := (l.queueRound dst c).sending
      cut := (l.queueRound dst c).cut, midCharacter := (l.queueRound dst c).midCharacter
      quiet := (l.queueRound dst c).quiet
      counters := { l.counters with roundsReplaced := (l.queueRound dst c).counters.roundsReplaced } } := by
  unfold Link.queueRound Link.cutOff Counters.roundReplaced
  split
  · rfl
  · split <;> rfl

/-- The start of a round, in IDLE: the round record in COLLECTING at this station, and its PROPOSE in the round slot. -/
theorem startRound_endsAs (u s : State) (h : EndsAs u s) (hidle : u.reclose.round = none) :
    EndsAs u (startRound s) := by
  obtain ⟨h1, h2, h3, _⟩ := h
  have hrank : s.rank = u.rank := by rw [h1]; rfl
  refine ⟨?_, h2, h3, .inr ⟨hidle, newRound s.eligiblePaths s, rfl, rfl, hrank⟩⟩
  have hl : (startRound s).link = s.link.queueRound 0 (newRound s.eligiblePaths s).proposal := rfl
  have hs : startRound s = { s with
      reclose := { s.reclose with round := some (newRound s.eligiblePaths s) }, link := (startRound s).link } := rfl
  have hq := s.link.queueRound_frame 0 (newRound s.eligiblePaths s).proposal
  rw [← hl] at hq
  generalize startRound s = m at hs hq ⊢
  rw [hs, hq, h1]

theorem mayStart_idle (s : State) (h : s.mayStart = true) : s.reclose.round = none := by
  unfold State.mayStart at h
  simp only [Bool.and_eq_true, Option.isNone_iff_eq_none] at h
  exact h.1.1.1.1.2

theorem startTest_endsAs (u s : State) (h : EndsAs u s) : EndsAs u (startTest s) := by
  unfold startTest
  split
  · rename_i hm
    have hs := mayStart_idle s hm
    refine startRound_endsAs u s h ?_
    rcases h.2.2.2 with ⟨h1, _⟩ | ⟨h1, _⟩
    · rw [← h1]; exact hs
    · exact h1
  · exact h

/-- What a command's closing checks leave. -/
theorem settle_endsAs (before s : State) : EndsAs s (settle before s) := by
  unfold settle
  split
  · exact EndsAs.refl s
  · exact startTest_endsAs s _ (quietRetest_endsAs s _ (packEdge_endsAs s before _ .discharge
      (packEdge_endsAs s before s .charge (EndsAs.refl s))))

/-- Where no input of the start test changed, nothing further happens. -/
theorem settle_same (before s : State) (h : before.startInputs = s.startInputs) : settle before s = s := by
  unfold settle
  rw [if_pos h]

/-! ### The closing checks, field by field -/

@[simp] theorem settle_supplyLow (b s : State) : (settle b s).supplyLow = s.supplyLow := by
  rw [(settle_endsAs b s).1]
@[simp] theorem settle_phase (b s : State) : (settle b s).phase = s.phase := by
  rw [(settle_endsAs b s).1]
@[simp] theorem settle_store (b s : State) : (settle b s).store = s.store := by
  rw [(settle_endsAs b s).1]
@[simp] theorem settle_load (b s : State) : (settle b s).load = s.load := by
  rw [(settle_endsAs b s).1]
@[simp] theorem settle_cfg (b s : State) : (settle b s).cfg = s.cfg := by
  rw [(settle_endsAs b s).1]
@[simp] theorem settle_conflict (b s : State) : (settle b s).conflict = s.conflict := by
  rw [(settle_endsAs b s).1]
@[simp] theorem settle_meas (b s : State) : (settle b s).meas = s.meas := by
  rw [(settle_endsAs b s).1]
@[simp] theorem settle_conds (b s : State) : (settle b s).conds = s.conds := by
  rw [(settle_endsAs b s).1]
@[simp] theorem settle_trips (b s : State) : (settle b s).trips = s.trips := by
  rw [(settle_endsAs b s).1]
@[simp] theorem settle_roster (b s : State) : (settle b s).roster = s.roster := by
  rw [(settle_endsAs b s).1]
@[simp] theorem settle_formation (b s : State) : (settle b s).formation = s.formation := by
  rw [(settle_endsAs b s).1]
@[simp] theorem settle_beats (b s : State) : (settle b s).beats = s.beats := by
  rw [(settle_endsAs b s).1]
@[simp] theorem settle_budget_epoch (b s : State) : (settle b s).budget.epoch = s.budget.epoch := by
  rw [(settle_endsAs b s).1]
@[simp] theorem settle_budget_count (b s : State) : (settle b s).budget.count = s.budget.count := by
  rw [(settle_endsAs b s).1]
@[simp] theorem settle_budget_joined (b s : State) : (settle b s).budget.joined = s.budget.joined := by
  rw [(settle_endsAs b s).1]
@[simp] theorem settle_reclose_leftRound (b s : State) : (settle b s).reclose.leftRound = s.reclose.leftRound := by
  rw [(settle_endsAs b s).1]
@[simp] theorem settle_reclose_lastRound (b s : State) : (settle b s).reclose.lastRound = s.reclose.lastRound := by
  rw [(settle_endsAs b s).1]
@[simp] theorem settle_reclose_lastCloser (b s : State) : (settle b s).reclose.lastCloser = s.reclose.lastCloser := by
  rw [(settle_endsAs b s).1]
@[simp] theorem settle_charge (b s : State) : (settle b s).charge = s.charge := by
  rw [(settle_endsAs b s).1]
@[simp] theorem settle_discharge (b s : State) : (settle b s).discharge = s.discharge := by
  rw [(settle_endsAs b s).1]
@[simp] theorem settle_stop (b s : State) : (settle b s).stop = s.stop := by
  rw [(settle_endsAs b s).1]
@[simp] theorem settle_link_notices (b s : State) : (settle b s).link.notices = s.link.notices := by
  rw [(settle_endsAs b s).1]
@[simp] theorem settle_link_beat (b s : State) : (settle b s).link.beat = s.link.beat := by
  rw [(settle_endsAs b s).1]
@[simp] theorem settle_link_reply (b s : State) : (settle b s).link.reply = s.link.reply := by
  rw [(settle_endsAs b s).1]
@[simp] theorem settle_link_busy (b s : State) : (settle b s).link.busy = s.link.busy := by
  rw [(settle_endsAs b s).1]
@[simp] theorem settle_link_discarding (b s : State) : (settle b s).link.discarding = s.link.discarding := by
  rw [(settle_endsAs b s).1]
@[simp] theorem settle_link_burst (b s : State) : (settle b s).link.burst = s.link.burst := by
  rw [(settle_endsAs b s).1]
@[simp] theorem settle_link_echo (b s : State) : (settle b s).link.echo = s.link.echo := by
  rw [(settle_endsAs b s).1]
@[simp] theorem settle_restartPending (b s : State) : (settle b s).restartPending = s.restartPending := by
  rw [(settle_endsAs b s).1]
@[simp] theorem settle_freeCount (b s : State) : (settle b s).freeCount = s.freeCount := by
  rw [(settle_endsAs b s).1]
@[simp] theorem settle_pending (b s : State) : (settle b s).pending = s.pending := by
  rw [(settle_endsAs b s).1]

end Sys2Proof.Machine
end

