-- ==== Sys2Proof/Laws/Scope.lean ====
section
/-!
SUPPORT. How far each shared operation reaches: the fields it may change, said once as an equation
`t = { s with the fields it may change }`. Any other field of `t` is that of `s` by `congrArg`.
-/
namespace Sys2Proof.Machine

/-- The reclose controller's reach: round record, switches, list, link. -/
def RoundReach (s t : State) : Prop :=
  t = { s with reclose := t.reclose, charge := t.charge, discharge := t.discharge, trips := t.trips, link := t.link }

/-- The trip list's reach: the reclose controller's, and the budget. -/
def ListReach (s t : State) : Prop :=
  t = { s with reclose := t.reclose, charge := t.charge, discharge := t.discharge, trips := t.trips, link := t.link,
               budget := t.budget }

/-- The condition monitor's reach: the trip list's, the conditions, the stop line, and the free counter. -/
def CondReach (s t : State) : Prop :=
  t = { s with reclose := t.reclose, charge := t.charge, discharge := t.discharge, trips := t.trips, link := t.link,
               budget := t.budget, conds := t.conds, stop := t.stop, freeCount := t.freeCount }

/-- A frame's reach: the condition monitor's, the membership unit's, and the restart-pending mark. -/
def FrameReach (s t : State) : Prop :=
  t = { s with reclose := t.reclose, charge := t.charge, discharge := t.discharge, trips := t.trips, link := t.link,
               budget := t.budget, conds := t.conds, stop := t.stop, freeCount := t.freeCount, roster := t.roster,
               phase := t.phase, conflict := t.conflict, formation := t.formation,
               restartPending := t.restartPending }

theorem RoundReach.refl (s : State) : RoundReach s s := rfl
theorem ListReach.refl (s : State) : ListReach s s := rfl
theorem CondReach.refl (s : State) : CondReach s s := rfl
theorem FrameReach.refl (s : State) : FrameReach s s := rfl

theorem RoundReach.trans {s t u : State} (h : RoundReach s t) (g : RoundReach t u) : RoundReach s u := by
  unfold RoundReach at *; rw [g, h]
theorem ListReach.trans {s t u : State} (h : ListReach s t) (g : ListReach t u) : ListReach s u := by
  unfold ListReach at *; rw [g, h]
theorem CondReach.trans {s t u : State} (h : CondReach s t) (g : CondReach t u) : CondReach s u := by
  unfold CondReach at *; rw [g, h]
theorem FrameReach.trans {s t u : State} (h : FrameReach s t) (g : FrameReach t u) : FrameReach s u := by
  unfold FrameReach at *; rw [g, h]

theorem RoundReach.list {s t : State} (h : RoundReach s t) : ListReach s t := by
  unfold RoundReach at h; unfold ListReach; rw [h]
theorem ListReach.cond {s t : State} (h : ListReach s t) : CondReach s t := by
  unfold ListReach at h; unfold CondReach; rw [h]
theorem CondReach.frame {s t : State} (h : CondReach s t) : FrameReach s t := by
  unfold CondReach at h; unfold FrameReach; rw [h]

/-! ### The reclose controller -/

theorem setSwitch_reach (s : State) (p : Path) (w : Switch) : RoundReach s (s.setSwitch p w) := by cases p <;> rfl

theorem startHoldOff_reach (p : Path) (s : State) : RoundReach s (startHoldOff p s) := rfl

theorem forPaths_reach (ps : PathSet) (f : Path → State → State) (h : ∀ p s, RoundReach s (f p s)) (s : State) :
    RoundReach s (forPaths ps f s) := by
  unfold forPaths
  simp only
  split <;> split
  · exact (h _ _).trans (h _ _)
  · exact h _ _
  · exact h _ _
  · exact RoundReach.refl s

theorem sendRound_reach (c : Content) (s : State) : RoundReach s (sendRound c s) := rfl
theorem setRound_reach (r : Option Round) (s : State) : RoundReach s (setRound r s) := rfl
theorem count_reach (s : State) (f : Counters → Counters) : RoundReach s (s.count f) := rfl

theorem openClosedSet_reach (r : Round) (s : State) : RoundReach s (openClosedSet r s) :=
  forPaths_reach _ _ (fun p t => setSwitch_reach t p _) s

theorem endRound_reach (r : Round) (s : State) : RoundReach s (endRound r s) := by
  unfold endRound
  exact ((openClosedSet_reach r s).trans (forPaths_reach _ _ startHoldOff_reach _)).trans (setRound_reach _ _)

theorem rememberLeft_reach (r : Round) (s : State) : RoundReach s (rememberLeft r s) := by
  unfold rememberLeft; split <;> rfl

theorem leaveRound_reach (s : State) : RoundReach s (leaveRound s) := by
  unfold leaveRound
  split
  · rfl
  · simp only
    refine RoundReach.trans ?_ (count_reach _ _)
    refine RoundReach.trans ?_ (endRound_reach _ _)
    refine RoundReach.trans ?_ (rememberLeft_reach _ _)
    split <;> rfl

theorem abandonRound_reach (r : Round) (s : State) : RoundReach s (abandonRound r s) := by
  unfold abandonRound
  exact ((sendRound_reach _ s).trans (endRound_reach _ _)).trans (count_reach _ _)

theorem dropRound_reach (r : Round) (s : State) : RoundReach s (dropRound r s) := by
  unfold dropRound
  exact (endRound_reach _ _).trans (count_reach _ _)

theorem lapseRound_reach (r : Round) (s : State) : RoundReach s (lapseRound r s) := by
  unfold lapseRound
  exact ((rememberLeft_reach _ _).trans (endRound_reach _ _)).trans (count_reach _ _)

theorem completeRound_reach (r : Round) (s : State) : RoundReach s (completeRound r s) := rfl

theorem afterClosed_reach (s : State) : RoundReach s (afterClosed s) := by
  unfold afterClosed
  split
  · rfl
  · split
    · rfl
    · split
      · rfl
      · split
        · rfl
        · rfl

theorem afterOpen_reach (p : Path) (s : State) : RoundReach s (afterOpen p s) := by
  unfold afterOpen
  split
  · rfl
  · split
    · exact leaveRound_reach s
    · rfl

theorem moveSwitch_reach (p : Path) (w : Switch) (s : State) : RoundReach s (moveSwitch p w s) := by
  unfold moveSwitch
  simp only
  split
  · exact setSwitch_reach s p w
  · split
    · exact (setSwitch_reach s p w).trans (afterClosed_reach _)
    · split
      · exact (setSwitch_reach s p w).trans (afterOpen_reach p _)
      · exact setSwitch_reach s p w

theorem openPath_reach (p : Path) (s : State) : RoundReach s (openPath p s) := moveSwitch_reach p _ s

theorem holdBoth_reach (s : State) : RoundReach s (holdBoth s) :=
  ((openPath_reach _ s).trans (openPath_reach _ _)).trans (leaveRound_reach _)

theorem closePath_reach (p : Path) (s : State) : RoundReach s (closePath p s) := by
  unfold closePath
  split
  · simp only
    split
    · exact setSwitch_reach s p _
    · exact (setSwitch_reach s p _).trans (setRound_reach _ _)
  · rfl

theorem closeAndEnter_reach (r : Round) (stage : Stage) (s : State) : RoundReach s (closeAndEnter r stage s) := by
  unfold closeAndEnter
  exact ((setRound_reach _ s).trans (forPaths_reach _ _ closePath_reach _)).trans (afterClosed_reach _)

theorem gatherCheck_reach (s : State) : RoundReach s (gatherCheck s) := by
  unfold gatherCheck
  split
  · rfl
  · split
    · exact closeAndEnter_reach _ _ s
    · rfl

theorem enterProceed_reach (r : Round) (s : State) : RoundReach s (enterProceed r s) := by
  unfold enterProceed
  split
  · rfl
  · exact closeAndEnter_reach _ _ s

theorem proceedCheck_reach (s : State) : RoundReach s (proceedCheck s) := by
  unfold proceedCheck
  split
  · rfl
  · split
    · exact (sendRound_reach _ s).trans (enterProceed_reach _ _)
    · rfl

theorem takePropose_reach (src : Nat) (round paths closer count crc : Byte) (s : State) :
    RoundReach s (takePropose src round paths closer count crc s) := by
  unfold takePropose answerPropose answerTo
  split
  · rfl
  · split
    · simp only
      split <;> rfl
    · split
      · rfl
      · split <;> rfl

theorem takeAnswer_reach (src : Nat) (round answer : Byte) (s : State) : RoundReach s (takeAnswer src round answer s) := by
  unfold takeAnswer
  repeat' split
  · rfl
  · rfl
  · exact (setRound_reach _ s).trans (proceedCheck_reach _)
  · exact abandonRound_reach _ s
  · rfl

theorem takeProceed_reach (src : Nat) (round : Byte) (s : State) : RoundReach s (takeProceed src round s) := by
  unfold takeProceed
  repeat' split
  · rfl
  · rfl
  · rfl
  · exact enterProceed_reach _ s

theorem takeClosed_reach (src : Nat) (round : Byte) (s : State) : RoundReach s (takeClosed src round s) := by
  unfold takeClosed
  split
  · rfl
  · split
    · rfl
    · simp only
      split
      · exact (setRound_reach _ s).trans (gatherCheck_reach _)
      · split
        · exact (setRound_reach _ s).trans (gatherCheck_reach _)
        · rfl

theorem takeComplete_reach (src : Nat) (round : Byte) (s : State) : RoundReach s (takeComplete src round s) := by
  unfold takeComplete
  repeat' split
  · rfl
  · rfl
  · exact completeRound_reach _ s
  · exact dropRound_reach _ s
  · rfl

theorem takeAbandon_reach (round : Byte) (s : State) : RoundReach s (takeAbandon round s) := by
  unfold takeAbandon
  repeat' split
  · rfl
  · rfl
  · exact dropRound_reach _ s

/-- What the reclose controller can do with a frame. -/
theorem recloseTakes_reach (f : RxFrame) (s : State) : RoundReach s (recloseTakes f s) := by
  unfold recloseTakes
  split
  · rfl
  · split
    · split <;> rfl
    · exact takePropose_reach ..
    · split
      · exact takeAnswer_reach ..
      · rfl
    · exact takeProceed_reach ..
    · exact takeClosed_reach ..
    · exact takeComplete_reach ..
    · exact takeAbandon_reach ..
    · rfl
    · rfl
    · rfl

theorem windowExpired_reach (s : State) : RoundReach s (windowExpired s) := by
  unfold windowExpired
  split
  · rfl
  · split
    · rfl
    · split
      · exact abandonRound_reach _ s
      · exact abandonRound_reach _ s
      · exact lapseRound_reach _ s
      · exact lapseRound_reach _ s
      · rfl
      · rfl

/-! ### The trip list -/

theorem takeOffers_reach (ch : Change) (s : State) : ListReach s (takeOffers ch s) := by
  unfold takeOffers; split <;> rfl

theorem listReport_reach (ch : Change) (s : State) : ListReach s (listReport ch s) := by
  unfold listReport
  simp only
  have h := (takeOffers_reach ch s).trans
    (forPaths_reach (newlyBlocked ch.before (takeOffers ch s).trips.records) openPath openPath_reach
      (takeOffers ch s)).list
  split
  · exact h
  · split
    · exact h.trans (leaveRound_reach _).list
    · exact h

theorem activateOwn_reach (id : CondId) (s : State) : RoundReach s (activateOwn id s) := rfl
theorem clearOwn_reach (id : CondId) (s : State) : RoundReach s (clearOwn id s) := rfl
theorem markStale_reach (o : Nat) (b : Bool) (s : State) : RoundReach s (markStale o b s) := rfl

theorem refuseAddition_reach (s : State) : RoundReach s (refuseAddition s) := by
  unfold refuseAddition
  simp only
  split
  · rfl
  · exact RoundReach.trans (t := s.withTrips { s.trips with full := true, fullTimer := .running s.cfg.tBeat }) rfl
      (holdBoth_reach _)

theorem changeRecords_reach (out : List Record × Bool) (s : State) : ListReach s (changeRecords out s) := by
  unfold changeRecords
  simp only
  have h : ListReach s (listReport { before := s.trips.records, activated := [] }
      (s.withTrips { s.trips with records := out.1 })) :=
    ListReach.trans (t := s.withTrips { s.trips with records := out.1 }) rfl (listReport_reach _ _)
  split
  · exact h.trans (refuseAddition_reach _).list
  · exact h

/-- What the trip list can do with a frame. -/
theorem listTakes_reach (f : RxFrame) (s : State) : ListReach s (listTakes f s) := by
  unfold listTakes
  split
  · rfl
  · split
    · exact changeRecords_reach _ s
    · simp only
      split
      · rfl
      · exact changeRecords_reach _ s
    · rfl

/-! ### The condition monitor -/

theorem freeTripOrder_reach (ids : List CondId) (s : State) : CondReach s (freeTripOrder ids s).2 := by
  unfold freeTripOrder
  split <;> rfl

theorem foldl_clearOwn_reach (ids : List CondId) (s : State) :
    RoundReach s (ids.foldl (fun t id => clearOwn id t) s) := by
  induction ids generalizing s with
  | nil => rfl
  | cons i is ih => exact (clearOwn_reach i s).trans (ih _)

theorem foldl_activateOwn_reach (ids : List CondId) (s : State) :
    RoundReach s (ids.foldl (fun t id => activateOwn id t) s) := by
  induction ids generalizing s with
  | nil => rfl
  | cons i is ih => exact (activateOwn_reach i s).trans (ih _)

theorem reportConds_reach (cleared tripped : List CondId) (s : State) : CondReach s (reportConds cleared tripped s) := by
  unfold reportConds
  exact (((foldl_clearOwn_reach cleared s).list.cond.trans (freeTripOrder_reach tripped _)).trans
    (foldl_activateOwn_reach _ _).list.cond).trans (listReport_reach _ _).cond

theorem tripConds_reach (ids : List CondId) (s : State) : CondReach s (tripConds ids s) :=
  CondReach.trans (t := s.withConds (ids.foldl (fun c id => c.set id .tripped) s.conds)) rfl (reportConds_reach _ _ _)

theorem clearCond_reach (id : CondId) (s : State) : CondReach s (clearCond id s) :=
  CondReach.trans (t := s.withConds (s.conds.set id .quiet)) rfl (reportConds_reach _ _ _)

theorem reportEvaluated_reach (e : Evaluated) (s : State) : CondReach s (reportEvaluated e s) :=
  CondReach.trans (t := s.withConds e.conds) rfl (reportConds_reach _ _ _)

theorem evaluateScan_reach (r : ScanResult) (s : State) : CondReach s (evaluateScan r s) := reportEvaluated_reach _ s
theorem evaluateSample_reach (x : Int) (s : State) : CondReach s (evaluateSample x s) := reportEvaluated_reach _ s
theorem evaluatePack_reach (s : State) : CondReach s (evaluatePack s) := reportEvaluated_reach _ s

theorem tripShort_reach (s : State) : CondReach s (tripShort s) :=
  (tripConds_reach _ s).trans rfl

theorem shortSettles_reach (s : State) : CondReach s (shortSettles s) := by
  unfold shortSettles; split <;> rfl

theorem shortAsserted_reach (s : State) : CondReach s (shortAsserted s) := by
  unfold shortAsserted
  split
  · split
    · exact tripShort_reach s
    · rfl
  · rfl
  · rfl
  · rfl

theorem shortReleased_reach (s : State) : CondReach s (shortReleased s) := by
  unfold shortReleased
  split
  · rfl
  · rfl
  · exact shortSettles_reach s
  · rfl

theorem releaseLine_reach (s : State) : CondReach s (releaseLine s) :=
  CondReach.trans (t := s.withStop s.stop.release) rfl (shortSettles_reach _)

theorem releaseIfDone_reach (s : State) : CondReach s (releaseIfDone s) := by
  unfold releaseIfDone
  split
  · exact releaseLine_reach s
  · rfl

theorem switchFaultReport_reach (s : State) : CondReach s (switchFaultReport s) := by
  unfold switchFaultReport
  split
  · exact tripConds_reach _ s
  · rfl

theorem setReleaseTimer_reach (t : Timer) (s : State) : CondReach s (setReleaseTimer t s) := by
  unfold setReleaseTimer; split <;> rfl

theorem unexplainedReport_reach (s : State) : CondReach s (unexplainedReport s) := by
  unfold unexplainedReport
  split
  · simp only
    split
    · exact tripConds_reach _ s
    · exact (tripConds_reach _ s).trans (setReleaseTimer_reach _ _)
  · rfl

theorem membersLost_reach (ids : List Nat) (s : State) : CondReach s (membersLost ids s) := tripConds_reach _ s

theorem memberFound_reach (r : Nat) (s : State) : CondReach s (memberFound r s) := by
  unfold memberFound
  split
  · exact clearCond_reach _ s
  · rfl

theorem placeHold_reach (ps : PathSet) (s : State) : CondReach s (placeHold ps s) := by
  unfold placeHold
  simp only
  split
  · rfl
  · exact CondReach.trans (t := s.withConds { s.conds with holdPaths := some ps }) rfl (tripConds_reach _ _)

theorem releaseHold_reach (s : State) : CondReach s (releaseHold s) :=
  (clearCond_reach _ s).trans rfl

theorem settleForming_reach (s : State) : ListReach s (settleForming s) := by
  unfold settleForming
  simp only
  split <;> rfl

theorem changePhase_reach (p : Phase) (s : State) : FrameReach s (changePhase p s) := by
  unfold changePhase
  simp only
  have h1 : FrameReach s (s.withPhase p) := rfl
  have h2 : FrameReach s (if s.phase = .FORMING then settleForming (s.withPhase p) else s.withPhase p) := by
    split
    · exact h1.trans (settleForming_reach _).cond.frame
    · exact h1
  have h3 : FrameReach s (if s.phase = .FORMING ∧ p = .OPERATING
      then (if s.phase = .FORMING then settleForming (s.withPhase p) else s.withPhase p).withFormation .stopped
      else (if s.phase = .FORMING then settleForming (s.withPhase p) else s.withPhase p)) := by
    split
    · exact h2.trans rfl
    · exact h2
  split
  · exact h3.trans (holdBoth_reach _).list.cond.frame
  · exact h3

/-! ### Membership, budget, service -/

theorem phaseChecks_reach (s : State) : FrameReach s (phaseChecks s) := by
  unfold phaseChecks
  repeat' split
  all_goals first | exact changePhase_reach _ s | rfl

theorem rankConflict_reach (s : State) : FrameReach s (rankConflict s) := by
  unfold rankConflict
  split
  · rfl
  · simp only
    split
    all_goals first | exact FrameReach.trans (t := s.withConflict true) rfl (changePhase_reach _ _) | rfl

theorem takeFromMember_reach (f : RxFrame) (e : Entry) (s : State) : FrameReach s (takeFromMember f e s) := by
  unfold takeFromMember
  simp only
  have h1 : FrameReach s
      (s.withRoster (updateEntry f.src.toNat (Entry.takeFrame s.cfg.silenceTime s.load.digest f.content) s.roster)) := rfl
  have h2 : FrameReach s
      (if e.status = .LOST then markStale f.src.toNat false (memberFound f.src.toNat
        (s.withRoster (updateEntry f.src.toNat (Entry.takeFrame s.cfg.silenceTime s.load.digest f.content) s.roster)))
      else s.withRoster
        (updateEntry f.src.toNat (Entry.takeFrame s.cfg.silenceTime s.load.digest f.content) s.roster)) := by
    split
    · exact (h1.trans (memberFound_reach _ _).frame).trans (markStale_reach _ _ _).list.cond.frame
    · exact h1
  by_cases h : f.content.beat?.isSome = true ∨ e.status ≠ .PRESENT
  · rw [if_pos h]
    exact h2.trans (phaseChecks_reach _)
  · rw [if_neg h]
    exact h2

/-- What the membership unit can do with a frame. -/
theorem membershipTakes_reach (f : RxFrame) (s : State) : FrameReach s (membershipTakes f s) := by
  unfold membershipTakes
  split
  · exact rankConflict_reach s
  · split
    · exact takeFromMember_reach f _ s
    · rfl

theorem entryLost_reach (r : Nat) (s : State) : FrameReach s (entryLost r s) := by
  unfold entryLost
  exact ((FrameReach.trans (t := s.withRoster (updateEntry r Entry.goLost s.roster)) rfl
    (membersLost_reach _ _).frame).trans (markStale_reach _ _ _).list.cond.frame).trans (phaseChecks_reach _)

theorem formationExpired_reach (s : State) : FrameReach s (formationExpired s) := by
  unfold formationExpired
  simp only
  generalize (s.roster.map fun e => if e.status == .EXPECTED then e.goLost else e) = rs
  have h : FrameReach s ((s.withRoster rs).withFormation .stopped) := rfl
  exact h.trans (membersLost_reach _ _).frame

theorem budgetTakes_reach (f : RxFrame) (s : State) : ListReach s (budgetTakes f s) := by
  unfold budgetTakes
  split
  · split <;> rfl
  · rfl

theorem newEpoch_reach (s : State) : ListReach s (newEpoch s) := rfl

theorem settle_reach (b s : State) : ListReach s (settle b s) := by
  unfold settle
  split
  · rfl
  · unfold startTest startRound
    have h : ListReach s (quietRetest (packEdge b .discharge (packEdge b .charge s))) := by
      have h1 : ListReach s (packEdge b .charge s) := by unfold packEdge; split <;> rfl
      have h2 : ListReach (packEdge b .charge s) (packEdge b .discharge (packEdge b .charge s)) := by
        generalize packEdge b .charge s = u
        unfold packEdge; split <;> rfl
      refine (h1.trans h2).trans ?_
      unfold quietRetest
      split
      · split <;> rfl
      · rfl
    split
    · exact h.trans rfl
    · exact h

theorem windowTakes_reach (f : RxFrame) (s : State) : CondReach s (windowTakes f s) := by
  unfold windowTakes
  split
  · split <;> rfl
  · rfl

/-- What carrying out a request can do. -/
theorem serve_reach (p : List Byte) (s : State) : FrameReach s (serve p s).state := by
  unfold serve
  split
  · rfl
  · split
    · rfl
    · split
      · rfl
      · unfold serveCode
        split
        · rfl
        · unfold serveReadList; simp only; split <;> rfl
        · unfold serveReadRoster; repeat' split
          all_goals rfl
        · rfl
        · rfl
        · rfl
        · rfl
        · unfold servePlaceHold
          simp only
          split
          · rfl
          · split
            · rfl
            · exact (placeHold_reach _ s).frame
        · unfold serveReleaseHold
          split
          · rfl
          · split
            · rfl
            · exact (releaseHold_reach s).frame
        · unfold serveClearTripped
          split
          · rfl
          · repeat' split
            · rfl
            · rfl
            · rfl
            · exact (clearCond_reach _ s).frame
        · unfold serveResetBudget
          repeat' split
          all_goals rfl
        · rfl
        · rfl

theorem serviceTakes_reach (f : RxFrame) (s : State) : FrameReach s (serviceTakes f s) := by
  unfold serviceTakes
  split
  · split
    · rfl
    · split
      · rfl
      · unfold takeRequest
        exact (serve_reach _ s).trans rfl
  · rfl

theorem takers_reach (f : RxFrame) : ∀ g ∈ takers f, ∀ s, FrameReach s (g s) := by
  intro g hg s
  unfold takers at hg
  split at hg <;> simp only [List.mem_cons, List.not_mem_nil, or_false] at hg
  all_goals
    rcases hg with rfl | hg
    · exact membershipTakes_reach f s
  · rcases hg with rfl | rfl | rfl
    · exact (listTakes_reach f s).cond.frame
    · exact (budgetTakes_reach f s).cond.frame
    · exact (recloseTakes_reach f s).list.cond.frame
  · rcases hg with rfl | rfl
    · exact (listTakes_reach f s).cond.frame
    · exact (windowTakes_reach f s).frame
  all_goals
    subst hg
    first
      | exact (recloseTakes_reach f s).list.cond.frame
      | exact serviceTakes_reach f s

/-- What a received frame can do. -/
theorem receive_reach (f : RxFrame) (s : State) : FrameReach s (receive f s) := by
  unfold receive
  split
  · rfl
  · split
    · refine FrameReach.trans (t := s.count Counters.good) rfl ?_
      generalize s.count Counters.good = u
      unfold distribute
      split
      · rfl
      · exact serviceTakes_reach f u
      · refine FrameReach.trans ?_ (settle_reach _ _).cond.frame
        exact inAnyOrder_keeps (FrameReach u) _ (fun t n h => h.trans rfl)
          (fun g hg t h => h.trans (takers_reach f g hg t)) u (FrameReach.refl u)
    · rfl

end Sys2Proof.Machine
end

