-- ==== Sys2Proof/Tests/Slice0.lean ====
section
/-!
SUPPORT. Tests: an ill-formed command for every check of `Instr.wf`; the spec's worked values; one small step a family;
and, for every statement with hypotheses, a station and operands that meet them together, clause by clause.
-/
namespace Sys2Proof.Tests

open Sys2Proof Sys2Proof.Machine

set_option Elab.async false

/-! ### A small station -/

/-- A block that passes every check with three members. -/
def goodBytes : List Byte :=
  [3, 5, 3, 0, 20, 10, 3, 20, 0, 10, 20, 0, 10, 0, 10, 4, 2, 16, 4, 50, 2] ++
  [11, 184, 50, 2, 0, 100, 0, 200, 1, 3, 32, 2, 188, 1, 100, 90, 1, 20, 0, 50, 10, 2, 2] ++
  [4, 1, 1] ++ List.replicate 15 0

/-- Bytes 0 to 61 with their CRC behind them. -/
def sealed (bs : List Byte) : Vector Byte 64 := Vector.ofFn fun i => (bs ++ halfBytes (crc16 bs)).getD i 0

def goodBlock : Vector Byte 64 := sealed goodBytes

def values : BeatValues :=
  { seq := 7, phase := .OPERATING, digestMatch := true, voltage := 7000, current := 0, chargeState := .CLOSED,
    dischargeState := .CLOSED, watch := 0, listFull := false, epoch := 1, count := 0, lastRound := 0, lastCloser := 3 }

def member (rank : Nat) : Entry :=
  { rank := rank, status := .PRESENT, beat := some values, missed := 0, restarts := 0, silence := .running 150000 }

/-- Rank 2 of three, OPERATING, both others PRESENT, both switches OPEN. -/
def calm : State :=
  { State.reset with
    phase := .OPERATING
    store := { block := goodBlock, written := true }
    load := { timer := .stopped, strap := 1, digest := 77, haltCause := 0 }
    cfg := Cfg.ofBlock (goodBytes ++ [0, 0])
    conds := { Conds.reset with lost := [{ subject := 1, cond := .quiet }, { subject := 3, cond := .quiet }] }
    roster := [member 1, member 3]
    budget := { epoch := 1, count := 0, joined := true, quiet := .stopped } }

/-- The same station as rank 1, its own coordinator. -/
def head : State :=
  { calm with
    load := { calm.load with strap := 0 }
    conds := { calm.conds with lost := [{ subject := 2, cond := .quiet }, { subject := 3, cond := .quiet }] }
    roster := [member 2, member 3] }

def calmWith (c : Conds → Conds) : State := calm.withConds (c calm.conds)
def calmStop (f : StopLine → StopLine) : State := calm.withStop (f calm.stop)
def calmLink (f : Link → Link) : State := calm.withLink (f calm.link)
def calmSwitch (w : Switch) : State := calm.setSwitch .charge w

def aBeat : BeatFields :=
  { phase := 2, listFull := 0, seq := 8, digest := 77, chargeState := 3, dischargeState := 3, voltage := 7000,
    current := 0, epoch := 1, count := 0, lastRound := 0, lastCloser := 3, watch := 0, records := [] }

def aRound (stage : Stage) (role : Role) : Round :=
  { stage := stage, number := 4, paths := { charge := true, discharge := true }, coordinator := 1, closer := 3
    role := role, retire := [], digestCount := 0, digestCrc := 0, accepts := [], closedHeld := []
    closedSet := { charge := false, discharge := false }, window := .running 5 }

def inRound (stage : Stage) (role : Role) : State :=
  { calm with reclose := { calm.reclose with round := some (aRound stage role) } }

def aRecord (kind : Kind) (phase : RecPhase) : Record :=
  { origin := 2, kind := kind, subject := none, tripId := 9, paths := { charge := true, discharge := true }
    phase := phase, stale := false, counted := false }

def tool : ReqHead := { src := 17, dst := 2, tag := 5 }

/-! ### Ill-formed commands are refused, well-formed ones pass -/

theorem test_wf_scan : (Instr.scanResult { taps := [], codes := [], die := 0 }).wf = false := by decide
theorem test_wf_recovery : (Instr.recoveryTimerExpiry .hold).wf = false := by decide
theorem test_wf_silence : (Instr.silenceTimerExpiry 0).wf = false ∧ (Instr.silenceTimerExpiry 17).wf = false := by decide
theorem test_wf_collision : (Instr.collision 199 .damaged).wf = false := by decide
theorem test_wf_source : (Instr.beat 0 aBeat).wf = false ∧ (Instr.notice 21 ⟨5, 0, 1, 3⟩).wf = false ∧
    (Instr.propose 0 1 3 1 0 0).wf = false ∧ (Instr.proceed 0 1).wf = false ∧ (Instr.closed 21 1).wf = false ∧
    (Instr.complete 0 1).wf = false ∧ (Instr.abandon 0 1).wf = false := by decide
theorem test_wf_beat : (Instr.beat 1 { aBeat with phase := 5 }).wf = false ∧
    (Instr.beat 1 { aBeat with chargeState := 0 }).wf = false ∧
    (Instr.beat 1 { aBeat with dischargeState := 6 }).wf = false ∧
    (Instr.beat 1 { aBeat with records := List.replicate 29 ⟨5, 0, 1, 3⟩ }).wf = false := by decide
theorem test_wf_answer : (Instr.answer 1 17 1 1 0).wf = false ∧ (Instr.answer 0 1 1 1 0).wf = false := by decide
theorem test_wf_reply : (Instr.reply 1 21 []).wf = false ∧ (Instr.reply 0 1 []).wf = false ∧
    (Instr.reply 1 2 [0]).wf = false ∧ (Instr.reply 1 2 (List.replicate 194 0)).wf = false := by decide +kernel
theorem test_wf_request : (Instr.readStatus { tool with src := 0 } []).wf = false ∧
    (Instr.readList { tool with dst := 0 } [0, 0]).wf = false ∧ (Instr.placeHold tool [1]).wf = false := by decide
theorem test_wf_unknown : (Instr.unknownRequest 17 2 [1, 0]).wf = false ∧
    (Instr.unknownRequest 0 2 []).wf = false := by decide
theorem test_wf_good : (Instr.beat 1 aBeat).wf = true ∧ (Instr.readList tool [0, 0]).wf = true ∧
    (Instr.unknownRequest 17 2 []).wf = true ∧ (Instr.unknownRequest 17 2 [13, 0]).wf = true ∧
    (Instr.silenceTimerExpiry 16).wf = true ∧ (Instr.collision 198 .damaged).wf = true := by decide

/-! ### The spec's worked values -/

/-- The 16-bit CRC of the nine bytes 49 to 57 is 10673 (R159). -/
theorem test_crc16 : (crc16 [49, 50, 51, 52, 53, 54, 55, 56, 57]).toNat = 10673 := by decide +kernel
/-- The 8-bit CRC of a retirement set (R104). -/
theorem test_crc8 : (crc8 [3, 5, 0, 21]).toNat = 145 := by decide
/-- The lower median (R45). -/
theorem test_median : lowerMedian [140, 151, 149, 152] = 149 := by decide
/-- The average of a window, rounded toward zero (R66). -/
theorem test_average : windowAverage (-121900) 80 = -1523 ∧ windowAverage 0 0 = 0 := by decide
/-- A sequence that wraps misses beats; one that falls back far is a restart (R83). -/
theorem test_sequence : seqMissed 3 65530 = 8 ∧ seqRestart 3 65530 = false ∧ seqRestart 0 40 = true := by decide
/-- The class gaps (R167). -/
theorem test_gaps : TxClass.gap .urgent 1 = 20 ∧ TxClass.gap .service 20 = 384 := by decide

/-! ### Small steps -/

/-- The command answers a next state that passes. -/
def after (c : Instr) (s : State) (f : State → Bool) : Bool :=
  match exec c s with
  | .next t => f t
  | _ => false

/-- An idle station's step lets one microsecond pass. -/
theorem test_idle :
    (match step State.reset with
     | .next t => t.load.timer == .running 1999 && t.link.quiet == 1 && t.phase == .LOADING
     | _ => false) = true := by decide

/-- From reset a good load forms the pack: two EXPECTED entries, the timers of 50 ms beats. -/
theorem test_load :
    after (.loadingEnd { block := goodBlock, strap := 1, feedbackCharge := false, feedbackDischarge := false
                         stopLine := false, shunt := 0 }) State.reset
      (fun t => t.phase == .FORMING && t.roster.map (·.rank) == [1, 3] && t.beats.timer == .running 6250 &&
        t.formation == .running 500000 && t.reclose.lastCloser == 3) = true := by decide +kernel

/-- The storage keeps the bytes it was written with: a second load reads them again, whatever it is told (R197, R201). -/
theorem test_store :
    after (.loadingEnd { block := Vector.replicate 64 0, strap := 1, feedbackCharge := false, feedbackDischarge := false
                         stopLine := false, shunt := 0 }) (State.reset.withStore { block := goodBlock, written := true })
      (fun t => t.phase == .FORMING && t.store == { block := goodBlock, written := true }) = true := by decide +kernel

/-- A PLACE HOLD on the charge path: record, NOTICE, reply. -/
theorem test_placeHold :
    after (.placeHold tool [1, 0]) calm (fun t =>
      t.trips.records.map (fun r => (r.kind, r.tripId, r.paths.code)) == [(.hold, 1, 1)] &&
        t.link.notices.length == 1 && t.link.reply.isSome && t.conds.hold.state == .TRIPPED) = true := by decide +kernel

/-- A BEAT with a record of SHORT blocks both paths and counts once. -/
theorem test_beat :
    after (.beat 1 { aBeat with records := [⟨5, 0, 1, 3⟩] }) calm (fun t =>
      t.blocked .charge && t.blocked .discharge && t.budget.count == 1) = true := by decide +kernel

/-! ### Hypotheses met together, statement by statement

`heldOff_of` turns checks a kernel can run into the invariant of the statements. -/

def heldOffCheck (s : State) : Bool :=
  let ok := fun p : Path => !s.held p || (s.switch p).state == .OPEN || (s.switch p).state == .OPENING ||
    (s.switch p).state == .FAULTED
  let gate := fun w : Switch => w.gate == (w.state == .CLOSING || w.state == .CLOSED)
  !s.supplyLow && gate s.charge && gate s.discharge && ok .charge && ok .discharge

theorem gate_of (w : Switch) (h : (w.gate == (w.state == .CLOSING || w.state == .CLOSED)) = true) : w.gateMatches := by
  obtain ⟨st, g, f, l⟩ := w
  unfold Switch.gateMatches
  cases st <;> cases g <;> simp_all

theorem off_of (s : State) (p : Path)
    (h : (!s.held p || (s.switch p).state == .OPEN || (s.switch p).state == .OPENING ||
      (s.switch p).state == .FAULTED) = true) : s.held p = true → (s.switch p).isOff := by
  intro hp
  unfold Switch.isOff
  simpa [hp, or_assoc] using h

theorem heldOff_of (s : State) (h : heldOffCheck s = true) : HeldPathsOff s := by
  unfold heldOffCheck at h
  simp only [Bool.and_eq_true] at h
  obtain ⟨⟨⟨⟨h0, h1⟩, h2⟩, h3⟩, h4⟩ := h
  refine ⟨fun hl => ?_, gate_of _ h1, gate_of _ h2, fun p => ?_⟩
  · rw [hl] at h0; exact absurd h0 (by decide)
  · cases p
    · exact off_of s .charge h3
    · exact off_of s .discharge h4

theorem unique_of (s : State) (h : decide ((s.trips.records.map Record.key).Nodup) = true) : UniqueKeys s := by
  unfold UniqueKeys
  exact of_decide_eq_true h

theorem calm_working : calm.working = true ∧ calm.phase ≠ .LOADING ∧ calm.phase = .OPERATING := by decide
theorem calm_held : HeldPathsOff calm := heldOff_of _ (by decide +kernel)
theorem calm_unique : UniqueKeys calm := unique_of _ (by decide +kernel)
theorem formed_of (s : State)
    (h : (!s.supplyLow && s.phase != .HALTED && s.cfg.rangesOk && s.cfg.relationsOk &&
      decide (s.rank ≤ s.cfg.memberCount) && s.roster.map (·.rank) == rosterRanks s.cfg.memberCount s.rank &&
      s.conds.lost.map (·.subject) == rosterRanks s.cfg.memberCount s.rank &&
      s.roster.all fun e => !(e.status == .PRESENT && e.beat.map (·.digestMatch) == some false)) = true) : Formed s := by
  simp only [Bool.and_eq_true, Bool.not_eq_true', bne_iff_ne, ne_eq, decide_eq_true_eq, beq_iff_eq, List.all_eq_true]
    at h
  obtain ⟨⟨⟨⟨⟨⟨⟨h0, h1⟩, h2⟩, h3⟩, h4⟩, h5⟩, h6⟩, h7⟩ := h
  refine ⟨fun hl => ?_, fun hp => absurd hp h1, fun _ => ⟨h2, h3, h4, h5, h6⟩, fun _ e he hb => ?_⟩
  · rw [h0] at hl; exact absurd hl (by decide)
  · have := h7 e he
    simp [hb.1, hb.2] at this

theorem calm_formed : Formed calm := formed_of _ (by decide +kernel)
/-- A HALTED station, as a failed load leaves it. -/
def halted : State := { calm with phase := .HALTED, cfg := Cfg.none, roster := [] }
theorem halted_formed : Formed halted :=
  ⟨fun h => absurd h (by decide), fun _ => rfl, fun h => absurd h (by decide), fun h => absurd h (by decide)⟩
theorem calm_source : rankByteOk 1 = true ∧ aBeat.wf = true ∧ (1 : Byte).toNat ≠ calm.rank ∧
    calm.entry 1 = some (member 1) ∧ (member 1).status = .PRESENT ∧ calm.reclose.round = none ∧
    calm.link.discarding = false := by decide +kernel
/-- A tool is no member, its request is addressed here and the reply slot is empty. -/
theorem calm_tool : rankByteOk tool.src = true ∧ tool.dst.toNat = calm.rank ∧ tool.src.toNat ≠ calm.rank ∧
    calm.entry tool.src.toNat = none ∧ calm.link.reply = none ∧ calm.link.discarding = false := by decide +kernel

theorem test_witness_SupplyResetThenLoading : (supplyReset calm).supplyLow = true := by decide +kernel

/-- A block of zeros fails check 1, one with a range broken check 2, a rank above the member count check 3. -/
theorem test_witness_FailedLoadHalts :
    State.reset.phase = .LOADING ∧ State.reset.supplyLow = false ∧ State.reset.store.written = false ∧
    (State.reset.withStore { block := goodBlock, written := true }).store.written = true ∧
    haltCauseOf (List.replicate 64 1) 1 = 1 ∧ haltCauseOf (sealed (goodBytes.set 0 17)).toList 1 = 2 ∧
    haltCauseOf goodBlock.toList 4 = 3 := by decide +kernel

/-- The reset state meets both halves; blocks with a short delay of 32 and of 0, and a shunt above the 80 mV threshold. -/
theorem test_witness_PassedLoadForms :
    State.reset.phase = .LOADING ∧ State.reset.supplyLow = false ∧ PhaseDiscipline State.reset ∧
    haltCauseOf goodBlock.toList 3 = 0 ∧ haltCauseOf (sealed (goodBytes.set 16 0)).toList 1 = 0 ∧
    (Cfg.ofBlock goodBlock.toList).shortDelayUs ≠ 0 ∧ (Cfg.ofBlock (goodBytes.set 16 0)).shortDelayUs = 0 ∧
    ((Cfg.ofBlock goodBlock.toList).shortThreshold : Int) * 20000 < 80001 ∧
    ¬ ((Cfg.ofBlock goodBlock.toList).shortThreshold : Int) * 20000 < 80000 ∧
    State.reset.conds = Conds.reset ∧ State.reset.charge = Switch.reset ∧ State.reset.discharge = Switch.reset ∧
    State.reset.stop = StopLine.reset :=
  ⟨by decide, by decide, ⟨by intro h; exact absurd h (by decide), by decide, by decide, by decide⟩, by decide +kernel,
    by decide +kernel, by decide +kernel, by decide +kernel, by decide +kernel, by decide +kernel, rfl, rfl, rfl, rfl⟩

/-- A scan trips CELL HIGH in a round: its record, its NOTICE, the next trip id, the switch off, the round left with its ABANDON;
the station meets what `OwnChangesReported` is stated under. -/
theorem test_scan_trips :
    let s : State := { inRound .CLOSING .member with
      cfg := { calm.cfg with cellHighDelay := 1 }
      charge := { Switch.reset with state := .CLOSING, gate := true } }
    HeldPathsOff s ∧ UniqueKeys s ∧
    after (.scanResult { taps := [5000, 3500, 3500, 3500], codes := [500], die := 20 }) s (fun t =>
      t.trips.records.length == 1 && t.trips.nextId == 2 && t.link.notices.length == 1 &&
        t.charge.state == .OPEN && t.reclose.round.isNone && t.link.counters.roundsAbandoned == 1 &&
        t.link.rounds == [TxFrame.new 0 (.abandon 4)]) = true :=
  ⟨heldOff_of _ (by decide +kernel), unique_of _ (by decide +kernel), by decide +kernel⟩

theorem test_witness_ScanCycle : calm.working = true ∧ Formed calm := ⟨by decide, calm_formed⟩
theorem test_witness_ScanReadingsClamped :
    calm.working = true ∧ calm.cfg.cellCount = 4 ∧ calm.cfg.thermistors = 1 ∧
    scanOf calm.cfg { taps := [-1, 0, 5000, 5001], codes := [512, 0], die := -41 } =
      { cells := [0, 0, 5000, 5000], codes := [512], die := -40 } ∧
    (scanOf calm.cfg { taps := [], codes := [], die := 151 }).die = 150 := by decide +kernel
theorem test_witness_SampleJoinsAndEvaluates :
    calm.working = true ∧ sampleOf 320010 = 32000 ∧ sampleOf (-320010) = -32000 ∧ sampleOf 19 = 1 ∧
    sampleOf (-19) = -1 := by decide
theorem test_witness_DelayedKindTable :
    Cond.delayed 1 true .quiet = (.tripped, .trip) ∧ (Cond.delayed 2 true .quiet).1.state = .WATCH ∧
    Cond.delayed 2 true (Cond.delayed 2 true .quiet).1 = (.tripped, .trip) := by decide

/-- The threshold is 80 mV: the comparator rises above 80000 and falls at 70000 microvolts of discharge. -/
theorem test_witness_ComparatorMovesShort :
    calm.working = true ∧ calm.meas.comparator = false ∧
    (calm.withMeas { calm.meas with comparator := true }).meas.comparator = true ∧
    calm.cfg.shortThreshold = 4 ∧ comparatorRises calm.cfg (-80001) = true ∧
    comparatorRises calm.cfg (-80000) = false ∧ comparatorFalls calm.cfg (-70000) = true ∧
    comparatorFalls calm.cfg (-70001) = false ∧ calm.conds.short.state = .QUIET ∧ calm.cfg.shortDelayUs = 32 ∧
    ({ calm with cfg := { calm.cfg with shortDelay := 0 } } : State).cfg.shortDelayUs = 0 ∧
    (calmWith fun c => { c with short := { c.short with state := .WATCH } }).conds.short.state = .WATCH ∧
    (calmWith fun c => { c with short := .tripped }).conds.short.state = .TRIPPED ∧
    (calmWith fun c => { c with short := { c.short with state := .SETTLING } }).conds.short.state = .SETTLING := by
  decide +kernel

def watching : State := calmWith fun c => { c with short := { state := .WATCH, count := 0, timer := .running 0 } }

theorem test_witness_ShortTripPullsLine :
    watching.working = true ∧ HeldPathsOff watching ∧ UniqueKeys watching ∧ watching.phase ≠ .FORMING ∧
    (watching.withPhase .FORMING).phase = .FORMING ∧ watching.conds.short.state = .WATCH ∧
    watching.conds.short.timer.isRunning = true ∧ watching.link.notices.length < 8 ∧
    8 ≤ (watching.withLink { watching.link with
      notices := List.replicate 8 (TxFrame.new 0 (.proceed 1)) }).link.notices.length :=
  ⟨by decide, heldOff_of _ (by decide +kernel), unique_of _ (by decide +kernel), by decide, by decide, by decide,
    by decide, by decide, by decide⟩

/-- A re-trip that draws the trip id its CLEARED record already has is counted like any other (R10, R127). -/
theorem test_retrip :
    after .shortDelayExpiry (watching.withTrips { watching.trips with
        nextId := 9, records := [{ aRecord .short .CLEARED with counted := true }] })
      (fun t => t.budget.count == 1 && t.trips.nextId == 10 &&
        t.trips.records.map (fun r => (r.phase, r.tripId, r.counted)) == [(.ACTIVE, 9, true)]) = true := by
  decide +kernel

def settling (k : Kind) : State :=
  calmWith fun c => c.set (ownCond k) { state := .SETTLING, count := 0, timer := .running 0 }

def unexplained : State :=
  calmWith fun c => { c with unexplainedStop := { state := .TRIPPED, count := 0, timer := .running 0 } }

theorem test_witness_RecoveryTimersClear :
    UniqueKeys (settling .short) ∧ (settling .short).working = true ∧ Kind.currentClass .short = true ∧
    ((settling .short).conds.get (ownCond .short)).state = .SETTLING ∧
    ((settling .chargeOvercurrent).conds.get (ownCond .chargeOvercurrent)).timer.isRunning = true ∧
    ((settling .dischargeOvercurrent).conds.get (ownCond .dischargeOvercurrent)).state = .SETTLING ∧
    unexplained.conds.unexplainedStop.state = .TRIPPED ∧
    (unexplained.conds.get (ownCond .unexplainedStop)).timer.isRunning = true :=
  ⟨unique_of _ (by decide +kernel), by decide, by decide, by decide, by decide, by decide, by decide, by decide⟩

/-- Two reporting members and a scan result evaluate both pack kinds; with one of them heard neither is evaluated. -/
theorem test_witness_BeatBuilt :
    let s := calm.withMeas { calm.meas with scan := some { cells := [3500, 3500], codes := [], die := 20 } }
    s.working = true ∧ UniqueKeys s ∧ (calm.withPhase .HALTED).phase = .HALTED ∧ calm.meas.scan = none ∧
    ReportingBeats s = [values, values] ∧ LowerMedian [0, 0] 0 ∧ LowerMedian [4, 1, 2] 2 ∧ LowerMedian [4, 1, 3, 2] 2 ∧
    ReportingBeats { s with roster := [Entry.expected 1 0 0, member 3] } = [values] :=
  ⟨by decide, unique_of _ (by decide +kernel), by decide, by decide, by decide +kernel, by unfold LowerMedian; decide,
    by unfold LowerMedian; decide, by unfold LowerMedian; decide, by decide +kernel⟩

/-- A beat that is being sent as the next one replaces it is cut off; one that only waits is not (R172, R175). -/
theorem test_beat_cut :
    let waiting (k : Option TxClass) : State := calmLink fun l =>
      { l with busy := true, sending := k, beat := some (TxFrame.new 0 (.beat aBeat)), reply := some (TxFrame.new 17 (.reply [])) }
    after .beatPeriodEvent (waiting (some .beat)) (fun t => t.link.sending.isNone && t.link.cut && t.link.midCharacter) = true ∧
    after .beatPeriodEvent (waiting (some .service)) (fun t => t.link.sending == some .service && !t.link.cut) = true ∧
    after .haltedBeat ((waiting (some .beat)).withPhase .HALTED) (fun t => t.link.sending.isNone && t.link.cut) = true ∧
    after .haltedBeat ((waiting none).withPhase .HALTED) (fun t => !t.link.cut) = true := by decide +kernel

theorem test_witness_SilenceMakesLost :
    calm.working = true ∧ HeldPathsOff calm ∧ calm.entry 1 = some (member 1) ∧ (member 1).status = .PRESENT ∧
    (member 1).silence.isRunning = true ∧ 1 ≠ calm.rank ∧ (calm.conds.get (lostCond 1)).state = .QUIET ∧
    (calm.conds.lost.any fun l => l.subject == 1) = true :=
  ⟨by decide, calm_held, by decide +kernel, by decide, by decide, by decide, by decide, by decide⟩

def forming : State :=
  { calm with phase := .FORMING, formation := .running 0, roster := [Entry.expected 1 0 0, member 3] }

/-- CONFINED by a mismatched member 1, without the conflict flag: its silence lets the station go back; with the flag not. -/
def confined : State :=
  { calm with phase := .CONFINED, roster := [{ member 1 with beat := some { values with digestMatch := false } }, member 3] }
theorem test_silence_returns :
    HeldPathsOff confined ∧ after (.silenceTimerExpiry 1) confined (fun t => t.phase == .OPERATING) = true ∧
    after (.silenceTimerExpiry 1) (confined.withConflict true) (fun t => t.phase == .CONFINED) = true ∧
    after (.silenceTimerExpiry 3) confined (fun t => t.phase == .CONFINED) = true :=
  ⟨heldOff_of _ (by decide +kernel), by decide +kernel, by decide +kernel, by decide +kernel⟩

theorem test_witness_FormationTimeoutMakesLost :
    forming.working = true ∧ forming.formation.isRunning = true ∧
    (forming.roster.any fun e => e.status == .EXPECTED) = true ∧
    (forming.conds.get (lostCond 1)).state = .QUIET ∧ Formed forming ∧ UniqueKeys forming ∧ HeldPathsOff forming :=
  ⟨by decide, by decide, by decide, by decide, formed_of _ (by decide +kernel), unique_of _ (by decide +kernel),
    heldOff_of _ (by decide +kernel)⟩

def timed : State :=
  { calm with trips := { calm.trips with full := true, fullTimer := .running 0 }
              budget := { calm.budget with quiet := .running 0 }
              reclose := { calm.reclose with holdCharge := .running 0, holdDischarge := .running 0 } }

theorem test_witness_TimersElapse :
    timed.working = true ∧ (timed.reclose.holdOff .charge).isRunning = true ∧
    (timed.reclose.holdOff .discharge).isRunning = true ∧ timed.trips.fullTimer.isRunning = true ∧
    timed.budget.quiet.isRunning = true := by decide

/-- As coordinator, with one path's hold-off about to elapse, the start test passes; on a full list it does not. -/
theorem test_witness_RoundStarts :
    let s := { head with reclose := { head.reclose with holdCharge := .running 0 } }
    s.working = true ∧ (s.reclose.holdOff .charge).isRunning = true ∧
    (s.withReclose (s.reclose.setHoldOff .charge .expired)).mayStart = true ∧
    ((s.withTrips { s.trips with full := true }).withReclose (s.reclose.setHoldOff .charge .expired)).mayStart = false :=
  by decide +kernel

/-- Each of the five conditions of R103 alone takes the path out. -/
theorem test_eligible :
    let s := { head with reclose := { head.reclose with holdCharge := .expired, holdDischarge := .expired } }
    let closed := s.setSwitch .charge { Switch.reset with state := .CLOSED, gate := true, feedback := true }
    let latched := s.withBudget { s.budget with count := 3 }
    s.eligible .charge = true ∧ closed.eligible .charge = false ∧
    (s.withTrips { s.trips with records := [aRecord .hold .ACTIVE] }).eligible .charge = false ∧
    (s.withConds { s.conds with moduleCold := { state := .WATCH, count := 1, timer := .stopped } }).eligible .charge = false ∧
    ({ s with roster := [member 2, { member 3 with beat := some { values with watch := 64 } }] } : State).eligible .charge =
      false ∧
    head.eligible .charge = false ∧ s.cfg.latchLimit = 3 ∧ latched.eligible .charge = true ∧
    (latched.withTrips { s.trips with records := [aRecord .short .CLEARED] }).eligible .charge = false := by decide +kernel

/-- The retirement set in its order, and its digest by the shift register (R7, R104). -/
theorem test_retirement :
    let r (o : Nat) (k : Kind) (sj : Option Nat) (p : RecPhase) : Record :=
      { aRecord k p with origin := o, subject := sj, tripId := 21 }
    (retirementSet [r 3 .short none .CLEARED, r 2 .memberLost (some 3) .CLEARED, r 2 .memberLost (some 1) .CLEARED,
        r 1 .short none .ACTIVE] bothPaths).map (fun k => (k.origin, k.subject)) = [(2, some 1), (2, some 3), (3, none)] ∧
    retirementSet [r 3 .short none .CLEARED] (onlyPath .charge) = [] ∧
    (crcRegister 7#8 0#8 (fun b => b) [3, 5, 0, 21]).toNat = 145 ∧
    (crcRegister 0x1021#16 0xFFFF#16 (fun b => b ++ 0#8) [49, 50, 51, 52, 53, 54, 55, 56, 57]).toNat = 10673 := by
  decide +kernel

theorem test_witness_WindowExpiryEndsRound :
    ([.COLLECTING, .ANSWERED, .CLOSING, .CLOSED_WAIT, .GATHERING, .FINISHING].all fun st =>
      (inRound st .member).working && (inRound st .member).reclose.round == some (aRound st .member) &&
        (aRound st .member).window.isRunning) = true := by decide +kernel

theorem test_witness_FeedbackMovesSwitch :
    ([.OPEN, .CLOSING, .CLOSED, .OPENING, .FAULTED].all fun st =>
      (calmSwitch { Switch.reset with state := st }).working &&
        ((calmSwitch { Switch.reset with state := st }).switch .charge).state == st) = true ∧
    calm.conds.switchFault.state = .QUIET := by decide +kernel

/-- Every round path but the charge path is CLOSED already. -/
theorem test_witness_FeedbackMovesSwitch_round :
    let s := (inRound .CLOSING .member).setSwitch .discharge { Switch.reset with state := .CLOSED }
    let s := s.setSwitch .charge { Switch.reset with state := .CLOSING }
    s.reclose.round = some (aRound .CLOSING .member) ∧ (s.switch .charge).state = .CLOSING ∧
    (s.switch .discharge).state = .CLOSED ∧ s.working = true := by decide +kernel

/-- A switch of a round path that enters OPEN in CLOSING or FINISHING ends the round: by feedback-off, by the close limit. -/
theorem test_open_ends_round :
    after (.feedbackOff .charge) ((inRound .CLOSING .member).setSwitch .charge { Switch.reset with state := .OPENING })
      (fun t => t.reclose.round.isNone && t.link.rounds == [TxFrame.new 0 (.abandon 4)]) = true ∧
    after (.closeLimitExpiry .charge) ((inRound .FINISHING .closer).setSwitch .charge
        { state := .CLOSING, gate := true, feedback := false, limit := .running 0 })
      (fun t => t.reclose.round.isNone && t.link.counters.roundsAbandoned == 1 &&
        t.conds.switchFault.state == .TRIPPED && (t.switch .charge).state == .OPEN) = true := by decide +kernel

theorem test_witness_LimitExpiryFaults :
    ([.CLOSING, .OPENING].all fun st =>
      (calmSwitch { Switch.reset with state := st, limit := .running 0 }).working &&
        ((calmSwitch { Switch.reset with state := st, limit := .running 0 }).switch .charge).state == st &&
        ((calmSwitch { Switch.reset with state := st, limit := .running 0 }).switch .charge).limit.isRunning) = true ∧
    calm.conds.switchFault.state = .QUIET ∧ unexplained.conds.unexplainedStop.state ≠ .QUIET := by decide +kernel

/-- In a round, the assertion ends it: with ABANDON from CLOSING, with the left round from ANSWERED. -/
theorem test_witness_StopAssertionOpensBoth :
    calm.working = true ∧
    after .stopLineGoingAsserted (inRound .CLOSING .member) (fun t => t.reclose.round.isNone &&
      t.link.rounds == [TxFrame.new 0 (.abandon 4)] && t.link.counters.roundsAbandoned == 1) = true ∧
    after .stopLineGoingAsserted (inRound .ANSWERED .member) (fun t =>
      t.reclose.leftRound == some (4, 1) && t.link.rounds == []) = true := by decide +kernel
theorem test_witness_StopReleaseEndsHold :
    let s := head.withStop { head.stop with sense := true }
    s.working = true ∧ s.stop.sense = true ∧
    ({ head with reclose := { head.reclose with holdCharge := .expired } } : State).mayStart = true := by decide +kernel

theorem test_witness_DriverReleases :
    let s := calmStop fun l => { l with driving := true, minTimer := .running 0, limit := .running 0 }
    s.working = true ∧ s.stop.minTimer.isRunning = true ∧ s.stop.driving = true ∧ s.stop.limit.isRunning = true := by
  decide

theorem test_witness_UnexplainedStopReported :
    let s := calmStop fun l => { l with window := .running 0, stuck := .running 0 }
    s.working = true ∧ HeldPathsOff s ∧ s.stop.window.isRunning = true ∧ s.stop.stuck.isRunning = true ∧
    s.conds.unexplainedStop.state = .QUIET ∧ unexplained.conds.unexplainedStop.state ≠ .QUIET :=
  ⟨by decide, heldOff_of _ (by decide +kernel), by decide, by decide, by decide, by decide⟩

/-- A burst of each judgement, and an idle medium after each. -/
theorem test_witness_BurstHeardAndJudged :
    let busy := calmLink fun l => { l with busy := true, quiet := 16 }
    let good : RxFrame := { src := 1, dst := 0, content := .proceed 4 }
    busy.phase ≠ .LOADING ∧ busy.link.busy = true ∧ busy.link.sending = none ∧ busy.link.midCharacter = false ∧
    16 ≤ busy.link.quiet ∧ busy.link.discarding = false ∧ busy.link.cut = false ∧ busy.link.echo = false ∧
    (calmLink fun l => { l with busy := true, quiet := 15 }).link.quiet < 16 ∧
    (calmLink fun l => { l with busy := true, midCharacter := true }).link.midCharacter = true ∧
    judgeBurst [.byte 0] = .badFrame ∧ judgeBurst [.damaged] = .badFrame ∧
    judgeBurst ((good.bytes.take 8).map .byte) = .badFrame ∧
    judgeBurst ((good.bytes.dropLast).map .byte ++ [.byte 0]) = .crcError ∧
    judgeBurst (good.bytes.map .byte) = .valid good := by decide +kernel

/-- The last two checks at the edges of source, type, destination, length and codes; a burst that fails them with a good
CRC. -/
theorem test_judge_edges :
    PassesLastChecks 20 5 0 1 [4, 0] ∧ ¬ PassesLastChecks 21 5 0 1 [4, 0] ∧ ¬ PassesLastChecks 1 11 0 1 [] ∧
    PassesLastChecks 1 9 20 0 [] ∧ ¬ PassesLastChecks 1 9 21 0 [] ∧ ¬ PassesLastChecks 1 4 17 2 [] ∧
    ¬ PassesLastChecks 1 1 0 10 [] ∧
    judgeBurst (({ src := 21, dst := 0, content := .proceed 4 } : RxFrame).bytes.map .byte) = .badFrame := by
  refine ⟨?_, ?_, ?_, ?_, ?_, ?_, ?_, by decide +kernel⟩ <;> (unfold PassesLastChecks; decide +kernel)

/-- At rank 2 the gaps are 24, 120, 216 and 312; the frames start there and not a microsecond before. -/
theorem test_witness_FrameStartTakesHighestClass :
    let f := TxFrame.new 0 (.proceed 4)
    let starts (q : Nat) (g : Link → Link) : Bool :=
      after .frameStart (calmLink fun l => g { l with quiet := q }) fun t => t.link.sending.isSome
    calm.phase ≠ .LOADING ∧ calm.link.busy = false ∧ calm.link.sending = none ∧
    (starts 24 fun l => { l with notices := [f], reply := some f }) = true ∧
    (starts 23 fun l => { l with notices := [f], reply := some f }) = false ∧
    (starts 120 fun l => { l with rounds := [f] }) = true ∧ (starts 119 fun l => { l with rounds := [f] }) = false ∧
    (starts 216 fun l => { l with beat := some f }) = true ∧ (starts 215 fun l => { l with beat := some f }) = false ∧
    (starts 312 fun l => { l with reply := some f }) = true ∧ (starts 311 fun l => { l with reply := some f }) = false ∧
    (starts 312 fun l => { l with reply := some f, busy := true }) = false := by decide +kernel

def sending (k : TxClass) (collisions : Nat) : State :=
  let f : TxFrame := { dst := 0, content := .proceed 4, collisions := collisions }
  calmLink fun l => { l with busy := true, sending := some k, notices := [f], rounds := [f], beat := some f, reply := some f }

/-- The start byte of every frame is 165; 15 collisions before make this one the last. -/
theorem test_witness_CollisionKeepsOrDrops :
    ([TxClass.urgent, .round, .beat, .service].all fun k => [0, 14, 15].all fun n =>
      (sending k n).link.sending == some k &&
        (sending k n).link.head k == some { dst := 0, content := .proceed 4, collisions := n } &&
        !(sending k n).restartPending) = true ∧
    (({ dst := 0, content := .proceed 4, collisions := 0 } : TxFrame).bytes 2)[0]? = some 165 ∧
    LineChar.damaged ≠ .byte 165 := by decide +kernel

theorem test_witness_FrameSentLeavesQueue :
    let e : EntryBytes := { kind := 5, subject := 0, tripId := 9, state := 3 }
    let s := (sending .urgent 0).withStop
      { StopLine.reset with driving := true, awaited := some 9, minTimer := .expired }
    let s := s.withLink { s.link with notices := [TxFrame.new 0 (.notice e)] }
    s.link.sending = some .urgent ∧ s.link.head .urgent = some (TxFrame.new 0 (.notice e)) ∧ e.kind = 5 ∧
    s.stop.driving = true ∧ s.stop.awaited = some e.tripId.toNat ∧ s.stop.minTimer = .expired ∧
    (s.withStop { s.stop with minTimer := .running 3 }).stop.minTimer ≠ .expired ∧
    (sending .beat 0).link.head .beat = some { dst := 0, content := .proceed 4, collisions := 0 } := by decide +kernel

theorem test_witness_RestartTakesEffect :
    let f : TxFrame := { dst := 17, content := .reply [12, 5, 1, 0], collisions := 15 }
    let s := { (calmLink fun l => { l with busy := true, sending := some .service, reply := some f }) with
               restartPending := true }
    s.restartPending = true ∧ s.link.sending = some .service ∧ s.link.reply = some f ∧ f.collisions = 15 ∧
    (f.bytes s.rank)[0]? = some 165 ∧ LineChar.byte 0 ≠ .byte 165 := by decide +kernel

theorem test_witness_FrameRoundTrip :
    RxFrame.valid { src := 20, dst := 0, content := .beat { aBeat with records := List.replicate 28 ⟨5, 0, 1, 3⟩ } } = true ∧
    RxFrame.valid { src := 1, dst := 16, content := .answer 1 2 3 } = true ∧
    RxFrame.valid { src := 17, dst := 20, content := .request [] } = true ∧
    RxFrame.valid { src := 1, dst := 1, content := .reply (List.replicate 192 7) } = true := by decide +kernel

/-! The member rows take `calm_working`, `calm_held`, `calm_unique` and `calm_source`; what each asks besides follows. -/

def lostOne : State :=
  { calm.withTrips { calm.trips with records := [{ aRecord .hold .ACTIVE with origin := 1, stale := true }] } with
    conds := { calm.conds with lost := [{ subject := 1, cond := .tripped }, { subject := 3, cond := .quiet }] }
    roster := [{ member 1 with status := .LOST, silence := .stopped }, member 3] }

theorem member_frame_proceed (src : Byte) : (Instr.proceed src 4).isMemberFrame src :=
  .inr (.inr (.inr (.inr (.inl ⟨4, .inl rfl⟩))))

theorem test_witness_BeatUpdatesEntry :
    calm.working = true ∧ rankByteOk 1 = true ∧ aBeat.wf = true ∧ calm.entry 1 = some (member 1) ∧
    (Entry.expected 1 0 0).beat = none ∧ (member 1).beat = some values ∧
    lostOne.working = true ∧ (lostOne.entry 1).map (·.status) = some .LOST ∧
    (lostOne.conds.get (lostCond 1)).state = .TRIPPED ∧ (Instr.proceed 1 4).isMemberFrame 1 :=
  ⟨by decide, by decide, by decide, by decide +kernel, by decide, by decide, by decide, by decide +kernel, by decide,
    member_frame_proceed 1⟩
theorem test_witness_PhaseFollowsBeats :
    (calm.withPhase .FORMING).working = true ∧ calm.phase = .OPERATING ∧ (calm.withPhase .CONFINED).working = true ∧
    ({ aBeat with digest := 1 } : BeatFields).digest ≠ calm.load.digest ∧ aBeat.digest = calm.load.digest ∧
    calm.conflict = false ∧ (lostOne.entry 1).map (·.status) = some .LOST ∧ lostOne.phase = .OPERATING := by decide +kernel
/-- Rank 1's first BEAT, in FORMING, is the last the formation waits for; one SHORT has not been counted. A budget that has not
joined counts it, one that has keeps its count; a foreign frame of the own rank does the same on the way to CONFINED (R128). -/
def almostFormed (joined : Bool) : State :=
  { calm with
    phase := .FORMING, formation := .running 9
    roster := [Entry.expected 1 0 0, member 3]
    budget := { calm.budget with joined := joined }
    trips := { calm.trips with records := [{ aRecord .short .ACTIVE with origin := 3 }] } }
theorem test_leaves_forming :
    ([true, false].all fun j =>
      after (.beat 1 { aBeat with phase := 1 }) (almostFormed j) (fun t =>
        t.phase == .OPERATING && t.budget.joined && t.budget.count == (if j then 0 else 1) &&
          t.trips.records.all (·.counted) &&
          t.trips.records.map (fun x => (x.key, x.tripId)) ==
            (almostFormed j).trips.records.map (fun x => (x.key, x.tripId))) &&
      after (.proceed 2 4) (almostFormed j) (fun t =>
        t.phase == .CONFINED && t.budget.joined && t.budget.count == (if j then 0 else 1))) = true ∧
    UniqueKeys (almostFormed true) ∧ UniqueKeys (almostFormed false) :=
  ⟨by decide +kernel, unique_of _ (by decide +kernel), unique_of _ (by decide +kernel)⟩
/-- A round left by confinement: by a BEAT with another digest, and by a foreign frame of the own rank (R116, R123). -/
theorem test_confinement_leaves :
    ([.beat 3 { aBeat with digest := 1 }, .proceed 2 9].all fun c =>
      after c (inRound .CLOSING .member) fun t => t.phase == .CONFINED && t.reclose.round.isNone &&
        t.link.rounds == [TxFrame.new 0 (.abandon 4)] && t.link.counters.roundsAbandoned == 1) = true ∧
    Instr.roundNumber (.beat 3 aBeat) = none ∧ Instr.roundNumber (.proceed 1 9) ≠ some (aRound .CLOSING .member).number ∧
    HeldPathsOff (inRound .CLOSING .member) :=
  ⟨by decide +kernel, rfl, by decide, heldOff_of _ (by decide +kernel)⟩
/-- A repeated sequence that reports FORMING against OPERATING raises the restart count (log entry 37). -/
theorem test_repeated_restart :
    after (.beat 3 { aBeat with seq := 7, phase := 1 }) calm (fun t =>
      (t.entry 3).map (fun e => (e.restarts, e.missed)) == some (1, 0)) = true := by decide +kernel
/-- A LOST member that holds digest match NO confines the station at any frame of it (R86, R94). -/
theorem test_lost_mismatch :
    after (.proceed 1 4) { calm with roster :=
        [{ member 1 with status := .LOST, beat := some { values with digestMatch := false } }, member 3] }
      (fun t => t.phase == .CONFINED) = true := by decide +kernel
theorem test_witness_OwnRankConfines : calm.working = true ∧ rankByteOk 2 = true ∧ (2 : Byte).toNat = calm.rank ∧
    calm.entry calm.rank = none ∧ aBeat.wf = true ∧ calm.conflict = false ∧ (calm.withConflict true).conflict = true ∧
    (Instr.proceed 2 4).isMemberFrame 2 ∧ (Instr.restart { tool with src := 2 } []).isRequest 2 :=
  ⟨by decide, by decide, by decide, by decide +kernel, by decide, by decide, by decide, member_frame_proceed 2,
    .inl ⟨12, { tool with src := 2 }, [], rfl, rfl, by decide, by decide, by decide⟩⟩
/-- 49 records of others leave no room at a member of three, 48 leave one place; an entry without room sets the flag. -/
theorem test_witness_BeatReplacesRecords :
    let held (k : Nat) : State := calm.withTrips
      { calm.trips with records := (List.range k).map fun i => { aRecord .hold .CLEARED with origin := 100 + i } }
    UniqueKeys (held 49) ∧ UniqueKeys (held 48) ∧ HeldPathsOff (held 49) ∧ aBeat.wf = true ∧
    (readEntries 3 1 [⟨5, 0, 1, 3⟩, ⟨5, 0, 2, 3⟩, ⟨12, 1, 1, 3⟩, ⟨12, 3, 1, 131⟩]).length = 2 ∧
    roomBeside 3 2 (held 48).trips.records = 1 ∧ roomBeside 3 2 (held 49).trips.records = 0 ∧
    after (.beat 1 { aBeat with records := [⟨5, 0, 1, 3⟩, ⟨3, 0, 2, 1⟩] }) (held 48) (fun t =>
      t.trips.records.length == 49 && t.trips.full && t.budget.count == 1 &&
        t.trips.fullTimer == .running t.cfg.tBeat) = true :=
  ⟨unique_of _ (by decide +kernel), unique_of _ (by decide +kernel), heldOff_of _ (by decide +kernel), by decide,
    by decide +kernel, by decide +kernel, by decide +kernel, by decide +kernel⟩
/-- A beat that blocks a path ends the round; one that changes nothing leaves it. -/
theorem test_beat_round :
    after (.beat 3 { aBeat with records := [⟨5, 0, 1, 3⟩] }) (inRound .CLOSING .member) (fun t => t.reclose.round.isNone &&
      t.link.rounds == [TxFrame.new 0 (.abandon 4)]) = true ∧
    after (.beat 3 aBeat) (inRound .CLOSING .member) (fun t =>
      t.reclose.round == some (aRound .CLOSING .member)) = true := by decide +kernel
/-- A NOTICE of DISCHARGE OVERCURRENT is counted once in OPERATING, and not in FORMING. -/
theorem test_notice_counts :
    after (.notice 3 ⟨4, 0, 9, 2⟩) calm (fun t => t.budget.count == 1 && t.trips.records.all (·.counted) &&
      after (.notice 3 ⟨4, 0, 9, 2⟩) t fun u => u.budget.count == 1) = true ∧
    after (.notice 3 ⟨4, 0, 9, 2⟩) forming (fun t =>
      t.budget.count == 0 && t.trips.records.map (·.counted) == [false]) = true := by decide +kernel
/-- Epochs at the edges of newer, older and equal; the phase codes at theirs. -/
theorem test_witness_BeatMergesBudget :
    calm.budget.joined = true ∧ calm.budget.epoch = 1 ∧ newer 2 1 = true ∧ newer 128 1 = true ∧ newer 129 1 = false ∧
    newer 0 1 = false ∧ ({ aBeat with phase := 3, epoch := 128 } : BeatFields).wf = true ∧
    ({ aBeat with phase := 1 } : BeatFields).wf = true ∧ ({ aBeat with phase := 4 } : BeatFields).wf = true ∧
    forming.working = true ∧ forming.link.discarding = false ∧ (forming.withBudget Budget.reset).budget.joined = false ∧
    calm.reclose.round = none ∧ calm.coordinator = some 1 ∧ calm.coordinator ≠ some 3 := by decide +kernel
/-- A NOTICE that activates a record, and one that sets the list-full flag, end the round. -/
theorem test_notice_ends_round :
    after (.notice 1 ⟨5, 0, 9, 3⟩) (inRound .ANSWERED .member) (fun t =>
      t.reclose.round.isNone && t.reclose.leftRound == some (4, 1) && t.link.rounds == []) = true ∧
    after (.notice 1 ⟨5, 0, 9, 3⟩) ((inRound .COLLECTING .coordinatorMember).withTrips { calm.trips with
        records := List.replicate 49 { aRecord .hold .CLEARED with origin := 1 } }) (fun t =>
      t.trips.full && t.reclose.round.isNone && t.link.rounds == [TxFrame.new 0 (.abandon 4)]) = true := by
  decide +kernel
/-- A list of 46 foreign records leaves room for a member of three with no own record only below 49. -/
theorem test_witness_NoticeAddsOrActivates :
    HeldPathsOff calm ∧ UniqueKeys calm ∧ (EntryBytes.read 3 1 ⟨5, 0, 9, 3⟩).isSome = true ∧ (EntryBytes.read 3 1 ⟨1, 0, 9, 1⟩).isSome = true ∧
    hasRoom 3 2 (List.replicate 48 { aRecord .hold .CLEARED with origin := 1 }) = true ∧
    hasRoom 3 2 (List.replicate 49 { aRecord .hold .CLEARED with origin := 1 }) = false :=
  ⟨calm_held, calm_unique, by decide, by decide, by decide +kernel, by decide +kernel⟩
/-- A full round slot loses its older frame, cut off as it is being sent (R172, R174). -/
theorem test_round_cut :
    let f := TxFrame.new 0 (.proceed 9)
    after (.propose 1 1 3 1 0 0) (calmLink fun l => { l with busy := true, sending := some .round, rounds := [f, f] }) (fun t =>
      t.link.sending.isNone && t.link.cut && t.link.rounds.length == 2 && t.link.counters.roundsReplaced == 1) = true := by
  decide +kernel
/-- Reasons at each end of the chain; in ANSWERED, a repetition, another content and another number; ranges' edges. -/
theorem test_witness_ProposeAnswered :
    Formed calm ∧ Formed (inRound .ANSWERED .member) ∧ calm.reclose.round = none ∧
    proposeReason calm 1 (PathSet.ofCode 3) 0 0 = 0 ∧ proposeReason calm 1 (PathSet.ofCode 3) 1 0 = 4 ∧
    proposeReason calm 3 (PathSet.ofCode 1) 0 0 = 1 ∧ proposeReason (calm.withPhase .CONFINED) 1 (PathSet.ofCode 1) 0 0 = 7 ∧
    (1 : Byte) ≠ 0 ∧ 1 ≤ (3 : Byte).toNat ∧ (3 : Byte).toNat ≤ calm.cfg.memberCount ∧ calm.cfg.memberCount < (4 : Byte).toNat ∧
    (inRound .ANSWERED .member).reclose.round = some (aRound .ANSWERED .member) ∧
    PathSet.ofCode 3 = (aRound .ANSWERED .member).paths ∧ PathSet.ofCode 1 ≠ (aRound .ANSWERED .member).paths ∧
    after (.propose 1 4 3 3 0 0) (inRound .ANSWERED .member) (fun t =>
      t.link.rounds == [TxFrame.new 1 (.answer 4 1 0)]) = true ∧
    after (.propose 1 4 1 3 0 0) (inRound .ANSWERED .member) (fun t =>
      t.link.rounds == [TxFrame.new 1 (.answer 4 2 10)]) = true ∧
    after (.propose 1 5 3 3 0 0) (inRound .ANSWERED .member) (fun t => t.link.rounds == []) = true ∧
    after (.propose 1 0 3 3 0 0) calm (fun t => t.link.rounds == []) = true :=
  ⟨calm_formed, formed_of _ (by decide +kernel), by decide, by decide +kernel, by decide +kernel, by decide +kernel,
    by decide +kernel, by decide, by decide, by decide, by decide, by decide, by decide, by decide, by decide +kernel,
    by decide +kernel, by decide +kernel, by decide +kernel⟩
theorem test_witness_AnswerGathersOrAbandons :
    (2 : Byte).toNat = calm.rank ∧ (inRound .COLLECTING .coordinatorMember).reclose.round =
      some (aRound .COLLECTING .coordinatorMember) ∧ (4 : Byte).toNat = (aRound .COLLECTING .coordinatorMember).number ∧
    calm.coversRoster (insertRank 1 []) = false ∧ calm.coversRoster (insertRank 1 [3]) = true ∧
    Role.closes .coordinatorMember = false ∧ calm.allClosed { charge := true, discharge := true } = false ∧
    (inRound .COLLECTING .coordinatorCloser).working = true := by decide +kernel
theorem test_witness_ProceedCloses_idle :
    Formed { calm with reclose := { calm.reclose with leftRound := some (4, 1) } } ∧
    ({ calm with reclose := { calm.reclose with leftRound := some (4, 1) } } : State).reclose.round = none :=
  ⟨formed_of _ (by decide +kernel), by decide⟩
theorem test_witness_ProceedCloses :
    (inRound .ANSWERED .member).reclose.round = some (aRound .ANSWERED .member) ∧
    (aRound .ANSWERED .member).coordinator = (1 : Byte).toNat ∧ Role.closes .closer = true ∧ Role.closes .member = false ∧
    calm.allClosed { charge := true, discharge := true } = false ∧
    ({ calm.reclose with leftRound := some (4, 1) } : Reclose).leftRound = some ((4 : Byte).toNat, (1 : Byte).toNat) := by
  decide +kernel
theorem test_witness_ClosedGathered :
    (inRound .GATHERING .closer).reclose.round = some (aRound .GATHERING .closer) ∧
    (inRound .ANSWERED .closer).reclose.round = some (aRound .ANSWERED .closer) ∧ Role.closes .closer = true ∧
    calm.coversRoster (insertRank 1 []) = false ∧ calm.coversRoster (insertRank 1 [3]) = true ∧
    ((calmSwitch { Switch.reset with state := .CLOSED }).setSwitch .discharge
      { Switch.reset with state := .CLOSED }).allClosed { charge := true, discharge := true } = true := by decide +kernel
theorem test_witness_CompleteRetires :
    ([.COLLECTING, .ANSWERED, .CLOSING, .CLOSED_WAIT, .GATHERING, .FINISHING].all fun st =>
      (inRound st .member).reclose.round == some (aRound st .member) && (inRound st .member).working &&
        (aRound st .member).closer == 3) = true ∧
    calm.entry 3 = some (member 3) ∧ (3 : Byte).toNat = 3 := by decide +kernel
theorem test_witness_AbandonEndsRound :
    (inRound .CLOSING .member).reclose.round = some (aRound .CLOSING .member) ∧
    (4 : Byte).toNat = (aRound .CLOSING .member).number ∧ calm.entry 1 = some (member 1) := by decide +kernel
theorem test_witness_EveryCommandAnswers :
    (calm.withPhase .HALTED).working = false ∧ (Instr.feedbackOn .charge).atWork = true ∧
    State.reset.phase = .LOADING ∧ State.reset.link.sending = none ∧ Instr.ofReset .mediumIdle = false := by decide
theorem test_witness_FramesOnlyHeard_strangers :
    rankByteOk 17 = true ∧ (17 : Byte).toNat ≠ calm.rank ∧ calm.entry 17 = none ∧ rankByteOk 0 = false ∧
    ({ aBeat with phase := 0 } : BeatFields).wf = false ∧ (calm.withPhase .HALTED).phase = .HALTED := by decide +kernel
/-- After LOADING_END a frame is not taken until the medium has been idle (R157, R178). -/
theorem test_discarding :
    let s := calmLink fun l => { l with busy := true, discarding := true, quiet := 16 }
    after (.beat 1 aBeat) s (fun t => decide (t = s)) = true ∧ after (.restart tool []) s (fun t => decide (t = s)) = true ∧
    after .mediumIdle s (fun t => !t.link.discarding &&
      after (.beat 1 aBeat) t fun u => u.link.counters.framesGood == 1) = true ∧
    (Instr.proceed 1 4).isMemberFrame 1 ∧ (Instr.restart tool []).isRequest 17 :=
  ⟨by decide +kernel, by decide +kernel, by decide +kernel, member_frame_proceed 1,
    .inl ⟨12, tool, [], rfl, rfl, by decide, by decide, by decide⟩⟩
theorem test_memberFrame : (Instr.proceed 17 4).isMemberFrame 17 ∧ (Instr.beat 17 aBeat).isMemberFrame 17 :=
  ⟨member_frame_proceed 17, .inl ⟨aBeat, by decide, rfl⟩⟩
theorem test_witness_FramesOnlyHeard :
    calm.working = true ∧ (∀ e, calm.entry 1 = some e → e.status = .PRESENT) ∧ rankByteOk 1 = true ∧ rankByteOk 17 = true ∧ ([0, 0] : List Byte).length % 2 = 0 ∧
    calm.entry 1 = some (member 1) ∧ calm.entry 17 = none := by decide +kernel

/-! The request rows take `calm_tool`; what each asks besides follows. -/

theorem test_witness_ReadingAnswersDone :
    Formed calm ∧ Formed halted ∧ calm.phase ≠ .LOADING ∧ rankByteOk tool.src = true ∧ tool.dst.toNat = calm.rank ∧
    tool.src.toNat ≠ calm.rank ∧ calm.entry tool.src.toNat = none ∧ calm.link.reply = none ∧ (0 : Byte).toNat ≤ 7 ∧
    (7 : Byte).toNat ≤ 7 ∧ calm.phase ≠ .HALTED ∧ (1 : Byte) ≠ tool.src ∧ calm.entry (1 : Byte).toNat = some (member 1) :=
  ⟨calm_formed, halted_formed, by decide, by decide, by decide +kernel, by decide +kernel, by decide +kernel, by decide,
    by decide, by decide, by decide, by decide, by decide +kernel⟩
/-- The three refusals of the reading requests, at the edges. -/
theorem test_refusals :
    7 < (8 : Byte).toNat ∧ halted.phase = .HALTED ∧ calm.entry (0 : Byte).toNat = none ∧
    calm.entry (2 : Byte).toNat = none ∧ calm.entry (4 : Byte).toNat = none ∧
    after (.readList tool [8, 0]) calm (fun t => t.link.reply == some (TxFrame.new 17 (.reply [2, 5, 2, 1]))) = true ∧
    after (.readRoster tool [1, 0]) halted (fun t => t.link.reply == some (TxFrame.new 17 (.reply [3, 5, 2, 2]))) = true ∧
    after (.readRoster tool [2, 0]) calm (fun t => t.link.reply == some (TxFrame.new 17 (.reply [3, 5, 2, 1]))) = true := by
  decide +kernel
theorem test_witness_ClearCountersZeroes : calm.phase ≠ .LOADING ∧ Formed calm ∧ calm.link.reply = none :=
  ⟨by decide, calm_formed, by decide⟩
theorem test_witness_PlaceHoldHolds :
    HeldPathsOff calm ∧ HeldPathsOff (calm.withPhase .HALTED) ∧ calm.phase ≠ .HALTED ∧ calm.entry 17 = none ∧
    calm.conds.hold.state = .QUIET ∧ calm.link.notices.length < 8 ∧
    after (.placeHold tool [3, 0]) calm (fun t => t.link.notices == [TxFrame.new 0 (.notice ⟨13, 0, 1, 3⟩)]) = true :=
  ⟨calm_held, heldOff_of _ (by decide +kernel), by decide, by decide +kernel, by decide, by decide, by decide +kernel⟩

def onHold : State :=
  { (calmWith fun c => { c with hold := .tripped, holdPaths := some { charge := true, discharge := true } }) with
    trips := { calm.trips with records := [aRecord .hold .ACTIVE] } }

/-- A hold that stands with both paths, one that is QUIET, and a HALTED station. -/
theorem test_witness_ReleaseHoldReleases :
    UniqueKeys onHold ∧ UniqueKeys calm ∧ onHold.conds.hold.state = .TRIPPED ∧ calm.conds.hold.state = .QUIET ∧
    (findRecord 2 .hold none onHold.trips.records).map (·.paths) = some { charge := true, discharge := true } ∧
    (calm.withPhase .HALTED).phase = .HALTED :=
  ⟨unique_of _ (by decide +kernel), calm_unique, by decide, by decide, by decide, by decide⟩

/-- The recovery test of each kind, passing and failing (R52). -/
theorem test_witness_ClearTrippedClears_table :
    let r : ScanResult := { cells := [3000], codes := [100], die := 50 }
    let s := calm.withMeas { calm.meas with scan := some r, sample := some 0 }
    Formed s ∧ s.working = true ∧ recoveryTest (ownCond .moduleHot) calm = false ∧
    recoveryTest (ownCond .chargeOvercurrent) s = true ∧ recoveryTest (ownCond .chargeOvercurrent) calm = false ∧
    recoveryTest (ownCond .switchFault) calm = true ∧ recoveryTest (ownCond .unexplainedStop) calm = true ∧
    recoveryTest (ownCond .hold) calm = true ∧ recoveryTest (ownCond .imbalance) calm = false ∧
    recoveryTest (ownCond .short) (calmStop fun l => { l with driving := true }) = false ∧
    recoveryTest (lostCond 2) calm = false :=
  ⟨formed_of _ (by decide +kernel), by decide, by decide, by decide +kernel, by decide, by decide, by decide, by decide,
    by decide, by decide, by decide +kernel⟩

/-- Kind codes at the edges of 1 to 14, and the recovery test passing and failing. -/
theorem test_witness_ClearTrippedClears :
    UniqueKeys calm ∧ Kind.ofCode 0 = none ∧ Kind.ofCode 15 = none ∧ Kind.ofCode 1 = some .cellHigh ∧
    Kind.ofCode 14 = some .unexplainedStop ∧ calm.entry 1 = some (member 1) ∧ calm.entry 2 = none ∧
    recoveryTest (ownCond .short) calm = true ∧ recoveryTest (ownCond .cellHigh) calm = false ∧
    recoveryTest (lostCond 1) calm = true :=
  ⟨calm_unique, by decide, by decide, by decide, by decide, by decide +kernel, by decide +kernel, by decide, by decide,
    by decide +kernel⟩

theorem test_witness_ResetBudgetNewEpoch :
    head.coordinator = some head.rank ∧ calm.coordinator ≠ some calm.rank ∧ head.phase ≠ .HALTED ∧
    head.entry 17 = none ∧ head.link.reply = none ∧
    activeCurrent [aRecord .short .ACTIVE] = true ∧ activeCurrent [aRecord .short .CLEARED] = false := by decide +kernel
theorem test_witness_RestartIsMarked : calm.phase ≠ .LOADING ∧ calm.link.reply = none ∧ calm.entry 17 = none := by
  decide +kernel
theorem test_witness_UnknownOrDropped :
    calm.phase ≠ .LOADING ∧ rankByteOk 17 = true ∧ calm.entry 17 = none ∧ calm.link.reply = none ∧
    (calmLink fun l => { l with reply := some (TxFrame.new 17 (.reply [1, 0, 1, 0])) }).link.reply ≠ none ∧
    ([] : List Byte).length % 2 = 0 ∧ (0 : Byte).toNat = 0 ∧ 12 < (13 : Byte).toNat ∧ (12 : Byte).toNat ≤ 12 ∧
    (Instr.placeHold tool []).request = some (8, tool, []) ∧ (Instr.restart tool [1, 2]).request = some (12, tool, [1, 2]) :=
  ⟨by decide, by decide, by decide +kernel, by decide, by decide, by decide, by decide, by decide, by decide, rfl, rfl⟩

/-! ### The invariants: a state that has each, and a step from it -/

theorem calm_bounded : LinkBounded calm := ⟨⟨by decide, by decide⟩, by unfold Counters.within; decide⟩
theorem calm_discipline : PhaseDiscipline calm :=
  ⟨fun h => absurd h (by decide), by decide, by decide, by decide⟩
theorem calm_budget : BudgetBounded calm := ⟨fun h => absurd h (by decide), by decide, by decide⟩

theorem not_unique :
    ¬ UniqueKeys (calm.withTrips { calm.trips with records := [aRecord .hold .ACTIVE, aRecord .hold .CLEARED] }) := by
  unfold UniqueKeys
  decide

theorem calm_list : ListBounded calm :=
  ⟨fun h => absurd h (by decide), calm_unique, by decide +kernel, by decide,
    fun _ => ⟨by decide +kernel, by unfold State.otherMember; decide +kernel⟩, fun r h => absurd h (List.not_mem_nil),
    by decide +kernel⟩

/-- Rank 1 of three, its own coordinator, both paths closed at every member, one fault counted. -/
def closedPack : State :=
  { head with
    charge := { Switch.reset with state := .CLOSED, gate := true, feedback := true }
    discharge := { Switch.reset with state := .CLOSED, gate := true, feedback := true }
    budget := { head.budget with count := 1, quiet := .running 5 } }

theorem timed_of (s : State) (h : (!s.supplyLow && (s.budget.quiet.isRunning == (s.working && s.coordinator == some s.rank &&
      decide (0 < s.budget.count) && s.packClosed .charge && s.packClosed .discharge &&
      s.trips.records.all fun r => !r.kind.currentClass))) = true) : QuietTimed s := by
  simp only [Bool.and_eq_true, Bool.not_eq_true', beq_iff_eq] at h
  refine ⟨fun hl => ?_, ?_⟩
  · rw [h.1] at hl; exact absurd hl (by decide)
  · rw [h.2]
    simp [and_assoc]

theorem closedPack_timed : QuietTimed closedPack ∧ closedPack.budget.quiet.isRunning = true :=
  ⟨timed_of _ (by decide +kernel), by decide⟩
theorem calm_timed : QuietTimed calm ∧ calm.budget.quiet = .stopped := ⟨timed_of _ (by decide +kernel), by decide⟩
/-- A beat in which a member's switch is open ends the quiet: the timer stops (R132). -/
theorem test_quiet_stops :
    after (.beat 2 { aBeat with chargeState := 1 }) closedPack (fun t => t.budget.quiet == .stopped) = true := by
  decide +kernel
theorem not_formed : ¬ Formed { halted with roster := [member 2] } := fun h => by
  have := h.2.1 (by decide)
  exact absurd this (by decide)

/-- Each invariant is true of a station and false of another, and an OPERATING station steps. -/
theorem test_witness_Invariants :
    LinkBounded calm ∧ HeldPathsOff calm ∧ PhaseDiscipline calm ∧ BudgetBounded calm ∧ UniqueKeys calm ∧ ListBounded calm ∧
    Formed calm ∧ QuietTimed calm ∧
    ¬ LinkBounded (calmLink fun l => { l with notices := List.replicate 9 (TxFrame.new 0 (.proceed 1)) }) ∧
    ¬ BudgetBounded (calm.withBudget { calm.budget with count := 11 }) ∧
    ¬ UniqueKeys (calm.withTrips { calm.trips with records := [aRecord .hold .ACTIVE, aRecord .hold .CLEARED] }) ∧
    ¬ PhaseDiscipline (calmStop fun l => { l with driving := true }) ∧ calm.budget.joined = true :=
  ⟨calm_bounded, calm_held, calm_discipline, calm_budget, calm_unique, calm_list, calm_formed, calm_timed.1,
    fun h => absurd h.1.1 (by decide), fun h => absurd h.2.1 (by decide),
    not_unique, fun h => absurd (h.2.2.2 (by decide)).1 (by decide), by decide⟩

/-- A member that proceeds closes its switch: the step of ClosesOnlyInRound. -/
theorem test_witness_ClosesOnlyInRound :
    (match step { (inRound .ANSWERED .member) with pending := [.proceed 1 4] } with
     | .next t => (t.switch .charge).state == .CLOSING && ((inRound .ANSWERED .member).switch .charge).state == .OPEN
     | _ => false) = true := by decide +kernel

end Sys2Proof.Tests
end

section
/-!
SUPPORT. How the records of the trip list can change: the moves one event is made of, said once of every shared operation and of
every command (R5, R6, R8, R9, R11, R16, R17, R20).
-/
namespace Sys2Proof.Machine

/-! ### Moves of the list -/

/-- The moves of a station of rank `own` in a pack of `n` whose roster holds `members`: records take new values under their keys,
records leave, an own condition's record is put under its key, and a member's record joins where there is room. -/
inductive ListMoves (n own : Nat) (members : List Nat) : List Record → List Record → Prop
  | refl (l : List Record) : ListMoves n own members l l
  | trans {l m k : List Record} :
      ListMoves n own members l m → ListMoves n own members m k → ListMoves n own members l k
  | inPlace (f : Record → Record) (hf : ∀ r, (f r).key = r.key) (l : List Record) : ListMoves n own members l (l.map f)
  | leave {l m : List Record} (h : m.Sublist l) : ListMoves n own members l m
  | ownPut (r : Record) (l : List Record) (ho : r.origin = own)
      (hlost : r.kind = .memberLost → ∃ j ∈ members, r.subject = some j)
      (hplain : r.kind ≠ .memberLost → r.subject = none) : ListMoves n own members l (upsert r l)
  | memberJoins (r : Record) (l : List Record) (ho : r.origin ∈ members) (hnew : r.key ∉ l.map Record.key)
      (hroom : hasRoom n own l = true) : ListMoves n own members l (l ++ [r])

theorem Record.hasKey_iff (o : Nat) (k : Kind) (sj : Option Nat) (r : Record) :
    r.hasKey o k sj = true ↔ r.key = (o, k, sj) := by
  simp [Record.hasKey, Record.key, and_assoc]

theorem findRecord_none_iff (o : Nat) (k : Kind) (sj : Option Nat) (l : List Record) :
    findRecord o k sj l = none ↔ (o, k, sj) ∉ l.map Record.key := by
  simp [findRecord, Record.hasKey_iff]

theorem map_key_of_keeps (f : Record → Record) (hf : ∀ r, (f r).key = r.key) (l : List Record) :
    (l.map f).map Record.key = l.map Record.key := by
  simp [Function.comp_def, hf]

/-- The keys after an own record is put under its key. -/
theorem upsert_keys (r : Record) (l : List Record) :
    (upsert r l).map Record.key =
      if r.key ∈ l.map Record.key then l.map Record.key else l.map Record.key ++ [r.key] := by
  have hkey : r.key = (r.origin, r.kind, r.subject) := rfl
  have hnone := findRecord_none_iff r.origin r.kind r.subject l
  unfold upsert
  by_cases hin : r.key ∈ l.map Record.key
  · have hsome : (findRecord r.origin r.kind r.subject l).isSome = true :=
      Option.isSome_iff_ne_none.2 fun h => hnone.1 h hin
    rw [if_pos hsome, if_pos hin]
    refine map_key_of_keeps _ (fun o => ?_) l
    split
    · rename_i ho
      exact ((Record.hasKey_iff ..).1 ho).symm
    · rfl
  · have : findRecord r.origin r.kind r.subject l = none := hnone.2 hin
    simp [this, hin]

/-- Every move keeps the keys of the list apart (R5). -/
theorem ListMoves.keys_nodup {n own : Nat} {members : List Nat} {l m : List Record} (h : ListMoves n own members l m) :
    (l.map Record.key).Nodup → (m.map Record.key).Nodup := by
  induction h with
  | refl l => exact id
  | trans _ _ ih ih' => exact fun hl => ih' (ih hl)
  | inPlace f hf l => rw [map_key_of_keeps f hf l]; exact id
  | leave h => exact fun hl => hl.sublist (h.map _)
  | ownPut r l _ _ _ =>
      intro hl
      rw [upsert_keys]
      split
      · exact hl
      · rename_i hnew
        simpa using hl.concat hnew
  | memberJoins r l _ hnew _ =>
      intro hl
      rw [List.map_append]
      simpa using hl.concat hnew

/-! ### The bound of the list -/

/-- The keys an own record of a station of rank `own` in a pack of `n` can have: 13 conditions and one MEMBER LOST for each other
rank (R28). -/
def ownKeys (n own : Nat) : List (Nat × Kind × Option Nat) :=
  ([.cellHigh, .cellLow, .chargeOvercurrent, .dischargeOvercurrent, .short, .moduleHot, .moduleCold, .dieHot, .imbalance,
    .senseMismatch, .switchFault, .hold, .unexplainedStop].map fun k => (own, k, none)) ++
    (rosterRanks n own).map fun j => (own, .memberLost, some j)

theorem mem_rosterRanks (n own j : Nat) : j ∈ rosterRanks n own ↔ 1 ≤ j ∧ j ≤ n ∧ j ≠ own := by
  simp only [rosterRanks, List.mem_filter, List.mem_map, List.mem_range, bne_iff_ne, ne_eq]
  constructor
  · rintro ⟨⟨i, hi, rfl⟩, hj⟩
    exact ⟨by omega, by omega, hj⟩
  · rintro ⟨h1, h2, h3⟩
    exact ⟨⟨j - 1, by omega, by omega⟩, h3⟩

theorem rosterRanks_nodup (n own : Nat) : (rosterRanks n own).Nodup :=
  ((List.nodup_range).map (fun _ _ h => by simpa using h)).filter _

theorem rosterRanks_length (n own : Nat) (h1 : 1 ≤ own) (h2 : own ≤ n) : (rosterRanks n own).length + 1 = n := by
  have hperm : (own :: rosterRanks n own).Perm ((List.range n).map (· + 1)) := by
    refine (List.perm_ext_iff_of_nodup ?_ ((List.nodup_range).map fun _ _ h => by simpa using h)).2 fun j => ?_
    · exact List.nodup_cons.2 ⟨fun h => ((mem_rosterRanks n own own).1 h).2.2 rfl, rosterRanks_nodup n own⟩
    · simp only [List.mem_cons, mem_rosterRanks, List.mem_map, List.mem_range]
      constructor
      · rintro (rfl | ⟨hj1, hj2, _⟩)
        · exact ⟨j - 1, by omega, by omega⟩
        · exact ⟨j - 1, by omega, by omega⟩
      · rintro ⟨i, hi, rfl⟩
        omega
  simpa using hperm.length_eq

/-- The list of a working station, well kept: keys apart, own records of own conditions, and 64 records with the own reserve. -/
structure ListKept (n own : Nat) (l : List Record) : Prop where
  keys : (l.map Record.key).Nodup
  lost : ∀ r ∈ l, r.origin = own → r.kind = .memberLost → ∃ j, r.subject = some j ∧ 1 ≤ j ∧ j ≤ n ∧ j ≠ own
  plain : ∀ r ∈ l, r.origin = own → r.kind ≠ .memberLost → r.subject = none
  fits : l.length + ownReserve n own l ≤ 64

/-- There are no more own records than own conditions (R8, R28). -/
theorem ownCount_le (n own : Nat) (l : List Record) (h1 : 1 ≤ own) (h2 : own ≤ n) (hk : (l.map Record.key).Nodup)
    (hlost : ∀ r ∈ l, r.origin = own → r.kind = .memberLost → ∃ j, r.subject = some j ∧ 1 ≤ j ∧ j ≤ n ∧ j ≠ own)
    (hplain : ∀ r ∈ l, r.origin = own → r.kind ≠ .memberLost → r.subject = none) : ownCount own l ≤ 12 + n := by
  have hsub : ((l.filter fun r => r.origin == own).map Record.key) ⊆ ownKeys n own := by
    intro key hkey
    obtain ⟨r, hr, rfl⟩ := List.mem_map.1 hkey
    obtain ⟨hmem, ho⟩ := List.mem_filter.1 hr
    have ho : r.origin = own := by simpa using ho
    unfold ownKeys
    rw [List.mem_append]
    by_cases hml : r.kind = .memberLost
    · obtain ⟨j, hj, hrange⟩ := hlost r hmem ho hml
      refine .inr (List.mem_map.2 ⟨j, (mem_rosterRanks n own j).2 hrange, ?_⟩)
      simp [Record.key, ho, hml, hj]
    · refine .inl (List.mem_map.2 ⟨r.kind, ?_, ?_⟩)
      · cases hkind : r.kind <;> simp_all
      · simp [Record.key, ho, hplain r hmem ho hml]
  have hnodup : ((l.filter fun r => r.origin == own).map Record.key).Nodup := hk.sublist (List.filter_sublist.map _)
  have hlen := (List.subperm_of_subset hnodup hsub).length_le
  have := rosterRanks_length n own h1 h2
  simp only [List.length_map, ownKeys, List.length_append, List.length_cons, List.length_nil] at hlen
  unfold ownCount
  omega

theorem ownCount_append (own : Nat) (l : List Record) (r : Record) :
    ownCount own (l ++ [r]) = ownCount own l + if r.origin = own then 1 else 0 := by
  unfold ownCount
  by_cases h : r.origin = own <;> simp [List.filter_append, h]

theorem ownCount_eq_keys (own : Nat) (l : List Record) :
    ownCount own l = ((l.map Record.key).filter fun k => k.1 == own).length := by
  unfold ownCount
  rw [List.filter_map, List.length_map]
  rfl

/-- Room for the own reserve depends on the keys of the list alone. -/
theorem fits_of_keys (n own : Nat) (l m : List Record) (h : m.map Record.key = l.map Record.key) :
    m.length + ownReserve n own m = l.length + ownReserve n own l := by
  have hlen : m.length = l.length := by simpa using congrArg List.length h
  unfold ownReserve
  rw [ownCount_eq_keys, ownCount_eq_keys, h, hlen]

theorem fits_of_sublist (n own : Nat) {l m : List Record} (h : m.Sublist l) :
    m.length + ownReserve n own m ≤ l.length + ownReserve n own l := by
  have split (k : List Record) : k.length = ownCount own k + (k.filter fun r => !(r.origin == own)).length := by
    unfold ownCount
    exact List.length_eq_length_filter_add (l := k) fun r => r.origin == own
  have h1 := split l
  have h2 := split m
  have h3 : ownCount own m ≤ ownCount own l := (h.filter _).length_le
  have h4 := (h.filter fun r => !(r.origin == own)).length_le
  unfold ownReserve
  omega

/-- Every record after an own record is put under its key is that record or one from before. -/
theorem mem_upsert {r x : Record} {l : List Record} (h : x ∈ upsert r l) : x = r ∨ x ∈ l := by
  unfold upsert at h
  split at h
  · obtain ⟨o, ho, rfl⟩ := List.mem_map.1 h
    split
    · exact .inl rfl
    · exact .inr ho
  · simpa [or_comm] using h

/-- Every move keeps the list well kept, where the roster holds other members (R5, R8, R9, R28). -/
theorem ListMoves.kept {n own : Nat} {members : List Nat} (h1 : 1 ≤ own) (h2 : own ≤ n)
    (hmem : ∀ j ∈ members, 1 ≤ j ∧ j ≤ n ∧ j ≠ own) {l m : List Record} (h : ListMoves n own members l m) :
    ListKept n own l → ListKept n own m := by
  have hkeys := fun {l m} (h : ListMoves n own members l m) => h.keys_nodup
  induction h with
  | refl l => exact id
  | trans _ _ ih ih' => exact fun hl => ih' (ih hl)
  | inPlace f hf l =>
      intro hl
      have key (r : Record) : (f r).origin = r.origin ∧ (f r).kind = r.kind ∧ (f r).subject = r.subject := by
        simpa [Record.key] using hf r
      refine ⟨hkeys (.inPlace f hf l) hl.keys, ?_, ?_, ?_⟩
      · intro x hx ho hk
        obtain ⟨r, hr, rfl⟩ := List.mem_map.1 hx
        obtain ⟨e1, e2, e3⟩ := key r
        rw [e3]
        exact hl.lost r hr (e1 ▸ ho) (e2 ▸ hk)
      · intro x hx ho hk
        obtain ⟨r, hr, rfl⟩ := List.mem_map.1 hx
        obtain ⟨e1, e2, e3⟩ := key r
        rw [e3]
        exact hl.plain r hr (e1 ▸ ho) (e2 ▸ hk)
      · rw [fits_of_keys n own l _ (map_key_of_keeps f hf l)]
        exact hl.fits
  | leave h =>
      intro hl
      exact ⟨hkeys (.leave h) hl.keys, fun r hr => hl.lost r (h.subset hr), fun r hr => hl.plain r (h.subset hr),
        (fits_of_sublist n own h).trans hl.fits⟩
  | ownPut r l ho hlost hplain =>
      intro hl
      have hlost' : ∀ x ∈ upsert r l, x.origin = own → x.kind = .memberLost →
          ∃ j, x.subject = some j ∧ 1 ≤ j ∧ j ≤ n ∧ j ≠ own := by
        intro x hx hxo hxk
        rcases mem_upsert hx with rfl | hx
        · obtain ⟨j, hj, hs⟩ := hlost hxk
          exact ⟨j, hs, hmem j hj⟩
        · exact hl.lost x hx hxo hxk
      have hplain' : ∀ x ∈ upsert r l, x.origin = own → x.kind ≠ .memberLost → x.subject = none := by
        intro x hx hxo hxk
        rcases mem_upsert hx with rfl | hx
        · exact hplain hxk
        · exact hl.plain x hx hxo hxk
      have hk' := hkeys (.ownPut r l ho hlost hplain) hl.keys
      refine ⟨hk', hlost', hplain', ?_⟩
      have hcount := ownCount_le n own _ h1 h2 hk' hlost' hplain'
      have hup := upsert_keys r l
      have hfits := hl.fits
      split at hup
      · rw [fits_of_keys n own l _ hup]
        exact hfits
      · have happ : (upsert r l).map Record.key = (l ++ [r]).map Record.key := by simpa using hup
        rw [ownCount_eq_keys, happ, ← ownCount_eq_keys, ownCount_append, if_pos ho] at hcount
        rw [fits_of_keys n own (l ++ [r]) _ happ]
        unfold ownReserve at hfits ⊢
        rw [ownCount_append, if_pos ho, List.length_append, List.length_singleton]
        omega
  | memberJoins r l ho hnew hroom =>
      intro hl
      have hother : r.origin ≠ own := (hmem _ ho).2.2
      refine ⟨hkeys (.memberJoins r l ho hnew hroom) hl.keys, ?_, ?_, ?_⟩
      · intro x hx hxo
        rcases List.mem_append.1 hx with hx | hx
        · exact hl.lost x hx hxo
        · exact absurd (List.mem_singleton.1 hx ▸ hxo) hother
      · intro x hx hxo
        rcases List.mem_append.1 hx with hx | hx
        · exact hl.plain x hx hxo
        · exact absurd (List.mem_singleton.1 hx ▸ hxo) hother
      · have hroom : l.length + 1 + ownReserve n own l ≤ 64 := by simpa [hasRoom] using hroom
        have hsame : ownReserve n own (l ++ [r]) = ownReserve n own l := by
          unfold ownReserve
          rw [ownCount_append, if_neg hother]
          rfl
        rw [hsame, List.length_append, List.length_singleton]
        exact hroom

end Sys2Proof.Machine
end

section
/-!
SUPPORT. What each shared operation does to the list and the roster ranks: the whole list stays, or it moves as `ListMoves` says.
-/
namespace Sys2Proof.Machine

/-! ### Operations that leave the list as it is -/

theorem forPaths_keeps {β : Type} (view : State → β) (ps : PathSet) (f : Path → State → State)
    (h : ∀ p s, view (f p s) = view s) (s : State) : view (forPaths ps f s) = view s := by
  unfold forPaths
  simp only
  split <;> split <;> simp only [h]

@[simp] theorem startHoldOff_trips (p : Path) (s : State) : (startHoldOff p s).trips = s.trips := rfl
@[simp] theorem setRound_trips (r : Option Round) (s : State) : (setRound r s).trips = s.trips := rfl
@[simp] theorem sendRound_trips (c : Content) (s : State) : (sendRound c s).trips = s.trips := rfl
@[simp] theorem answerTo_trips (src : Nat) (round : Byte) (answer reason : Nat) (s : State) :
    (answerTo src round answer reason s).trips = s.trips := rfl
@[simp] theorem count_trips (s : State) (f : Counters → Counters) : (s.count f).trips = s.trips := rfl

@[simp] theorem openClosedSet_trips (r : Round) (s : State) : (openClosedSet r s).trips = s.trips :=
  forPaths_keeps State.trips _ _ (fun p t => t.setSwitch_trips p _) s

@[simp] theorem endRound_trips (r : Round) (s : State) : (endRound r s).trips = s.trips :=
  (forPaths_keeps State.trips r.paths _ startHoldOff_trips _).trans (openClosedSet_trips r s)

@[simp] theorem rememberLeft_trips (r : Round) (s : State) : (rememberLeft r s).trips = s.trips := by
  unfold rememberLeft
  split <;> rfl

@[simp] theorem leaveRound_trips (s : State) : (leaveRound s).trips = s.trips := by
  unfold leaveRound
  split
  · rfl
  · simp only [count_trips, endRound_trips, rememberLeft_trips]
    split <;> rfl

@[simp] theorem abandonRound_trips (r : Round) (s : State) : (abandonRound r s).trips = s.trips := by
  simp [abandonRound]
@[simp] theorem dropRound_trips (r : Round) (s : State) : (dropRound r s).trips = s.trips := by
  simp [dropRound]
@[simp] theorem lapseRound_trips (r : Round) (s : State) : (lapseRound r s).trips = s.trips := by
  simp [lapseRound]

@[simp] theorem afterOpen_trips (p : Path) (s : State) : (afterOpen p s).trips = s.trips := by
  unfold afterOpen
  split
  · rfl
  · split
    · exact leaveRound_trips s
    · rfl

theorem Switch.openCommand_closed (w : Switch) (h : w.openCommand.state = .CLOSED) : False := by
  rcases w.openCommand_isOff with e | e | e <;> exact absurd (h.symm.trans e) (by decide)

/-- An open command: the switch takes it, and an entry to OPEN is reported (R140, R145). -/
theorem openPath_eq (p : Path) (s : State) :
    openPath p s = s.setSwitch p (s.switch p).openCommand ∨
      openPath p s = afterOpen p (s.setSwitch p (s.switch p).openCommand) := by
  unfold openPath moveSwitch
  simp only
  split
  · exact .inl rfl
  · split
    · rename_i h
      exact ((s.switch p).openCommand_closed h).elim
    · split
      · exact .inr rfl
      · exact .inl rfl

@[simp] theorem openPath_trips (p : Path) (s : State) : (openPath p s).trips = s.trips := by
  rcases openPath_eq p s with e | e <;> simp [e]

@[simp] theorem holdBoth_trips (s : State) : (holdBoth s).trips = s.trips := by
  simp [holdBoth]

@[simp] theorem closePath_trips (p : Path) (s : State) : (closePath p s).trips = s.trips := by
  unfold closePath
  split
  · simp only
    split <;> simp
  · rfl

@[simp] theorem openPaths_trips (ps : PathSet) (s : State) : (forPaths ps openPath s).trips = s.trips :=
  forPaths_keeps State.trips ps _ openPath_trips s

/-! ### Rounds: records leave by retirement alone -/

theorem completeRound_sublist (r : Round) (s : State) :
    (completeRound r s).trips.records.Sublist s.trips.records := List.filter_sublist

theorem afterClosed_sublist (s : State) : (afterClosed s).trips.records.Sublist s.trips.records := by
  unfold afterClosed
  split
  · exact List.Sublist.refl _
  · split
    · exact List.Sublist.refl _
    · split
      · simp
      · split
        · exact completeRound_sublist _ _
        · exact List.Sublist.refl _

theorem moveSwitch_sublist (p : Path) (w : Switch) (s : State) :
    (moveSwitch p w s).trips.records.Sublist s.trips.records := by
  unfold moveSwitch
  simp only
  split
  · simp
  · split
    · simpa using afterClosed_sublist (s.setSwitch p w)
    · split <;> simp

theorem closeAndEnter_sublist (r : Round) (stage : Stage) (s : State) :
    (closeAndEnter r stage s).trips.records.Sublist s.trips.records := by
  unfold closeAndEnter
  refine (afterClosed_sublist _).trans ?_
  rw [forPaths_keeps State.trips r.paths _ closePath_trips]
  simp

theorem gatherCheck_sublist (s : State) : (gatherCheck s).trips.records.Sublist s.trips.records := by
  unfold gatherCheck
  split
  · exact List.Sublist.refl _
  · split
    · exact closeAndEnter_sublist _ _ s
    · exact List.Sublist.refl _

theorem enterProceed_sublist (r : Round) (s : State) :
    (enterProceed r s).trips.records.Sublist s.trips.records := by
  unfold enterProceed
  split
  · simp
  · exact closeAndEnter_sublist _ _ s

theorem proceedCheck_sublist (s : State) : (proceedCheck s).trips.records.Sublist s.trips.records := by
  unfold proceedCheck
  split
  · exact List.Sublist.refl _
  · split
    · exact enterProceed_sublist _ _
    · exact List.Sublist.refl _

theorem takePropose_trips (src : Nat) (round paths closer count crc : Byte) (s : State) :
    (takePropose src round paths closer count crc s).trips = s.trips := by
  unfold takePropose answerPropose
  simp only
  repeat' split
  all_goals simp

theorem takeAnswer_sublist (src : Nat) (round answer : Byte) (s : State) :
    (takeAnswer src round answer s).trips.records.Sublist s.trips.records := by
  unfold takeAnswer
  repeat' split
  · exact List.Sublist.refl _
  · exact List.Sublist.refl _
  · exact proceedCheck_sublist _
  · simp
  · exact List.Sublist.refl _

theorem takeProceed_sublist (src : Nat) (round : Byte) (s : State) :
    (takeProceed src round s).trips.records.Sublist s.trips.records := by
  unfold takeProceed
  repeat' split
  · simp
  · exact List.Sublist.refl _
  · exact List.Sublist.refl _
  · exact enterProceed_sublist _ s

theorem takeClosed_sublist (src : Nat) (round : Byte) (s : State) :
    (takeClosed src round s).trips.records.Sublist s.trips.records := by
  unfold takeClosed
  simp only
  repeat' split
  · exact List.Sublist.refl _
  · exact List.Sublist.refl _
  · exact gatherCheck_sublist _
  · exact gatherCheck_sublist _
  · exact List.Sublist.refl _

theorem takeComplete_sublist (src : Nat) (round : Byte) (s : State) :
    (takeComplete src round s).trips.records.Sublist s.trips.records := by
  unfold takeComplete
  repeat' split
  · exact List.Sublist.refl _
  · exact List.Sublist.refl _
  · exact completeRound_sublist _ s
  · simp
  · exact List.Sublist.refl _

theorem takeAbandon_trips (round : Byte) (s : State) : (takeAbandon round s).trips = s.trips := by
  unfold takeAbandon
  repeat' split
  · rfl
  · rfl
  · simp

/-- Of the list, the reclose controller takes with a frame no more than a retirement set (R20). -/
theorem recloseTakes_sublist (f : RxFrame) (s : State) :
    (recloseTakes f s).trips.records.Sublist s.trips.records := by
  unfold recloseTakes
  split
  · exact List.Sublist.refl _
  · split
    · split <;> simp
    · rw [takePropose_trips]
    · split
      · exact takeAnswer_sublist ..
      · exact List.Sublist.refl _
    · exact takeProceed_sublist ..
    · exact takeClosed_sublist ..
    · exact takeComplete_sublist ..
    · rw [takeAbandon_trips]
    · exact List.Sublist.refl _
    · exact List.Sublist.refl _
    · exact List.Sublist.refl _

theorem windowExpired_trips (s : State) : (windowExpired s).trips = s.trips := by
  unfold windowExpired
  repeat' split
  all_goals simp

/-! ### What an operation leaves of the station for the list's bound -/

theorem State.working_of_phase {s : State} {p : Phase} (h : s.phase = p) (hp : p.working = true) : s.working = true := by
  unfold State.working
  rw [h, hp]

/-- The ranks of the roster (R73). -/
def State.members (s : State) : List Nat := s.roster.map (·.rank)

/-- `t` comes of `s` by moves of the list, with configuration, rank, roster ranks and supply the same and at work as before. -/
structure ListScope (s t : State) : Prop where
  cfg : t.cfg = s.cfg
  rank : t.rank = s.rank
  supply : t.supplyLow = s.supplyLow
  phase : t.phase = s.phase ∨ s.working = true ∧ t.working = true
  members : t.members = s.members
  records : ListMoves s.cfg.memberCount s.rank s.members s.trips.records t.trips.records

theorem ListScope.refl (s : State) : ListScope s s := ⟨rfl, rfl, rfl, .inl rfl, rfl, .refl _⟩

theorem ListScope.working {s t : State} (h : ListScope s t) : t.working = s.working := by
  rcases h.phase with e | ⟨hs, ht⟩
  · unfold State.working
    rw [e]
  · rw [hs, ht]

theorem ListScope.trans {s t u : State} (h : ListScope s t) (g : ListScope t u) : ListScope s u := by
  refine ⟨g.cfg.trans h.cfg, g.rank.trans h.rank, g.supply.trans h.supply, ?_, g.members.trans h.members,
    h.records.trans ?_⟩
  · rcases g.phase with e | ⟨ht, hu⟩
    · rcases h.phase with e' | ⟨hs, ht⟩
      · exact .inl (e.trans e')
      · exact .inr ⟨hs, State.working_of_phase e ht⟩
    · exact .inr ⟨h.working ▸ ht, hu⟩
  · rw [← h.cfg, ← h.rank, ← h.members]
    exact g.records

/-- Within the condition monitor's reach only the list itself is left to tell. -/
theorem CondReach.scope {s t : State} (h : CondReach s t)
    (hr : ListMoves s.cfg.memberCount s.rank s.members s.trips.records t.trips.records) : ListScope s t := by
  refine ⟨?_, ?_, ?_, ?_, ?_, hr⟩
  · rw [h]
  · unfold State.rank
    rw [h]
  · rw [h]
  · exact .inl (by rw [h])
  · unfold State.members
    rw [h]

theorem withConds_scope (s : State) (c : Conds) : ListScope s (s.withConds c) := ⟨rfl, rfl, rfl, .inl rfl, rfl, .refl _⟩
theorem withStop_scope (s : State) (l : StopLine) : ListScope s (s.withStop l) := ⟨rfl, rfl, rfl, .inl rfl, rfl, .refl _⟩
theorem withMeas_scope (s : State) (m : Meas) : ListScope s (s.withMeas m) := ⟨rfl, rfl, rfl, .inl rfl, rfl, .refl _⟩
theorem withLink_scope (s : State) (l : Link) : ListScope s (s.withLink l) := ⟨rfl, rfl, rfl, .inl rfl, rfl, .refl _⟩
theorem withFreeCount_scope (s : State) (n : Nat) : ListScope s (s.withFreeCount n) :=
  ⟨rfl, rfl, rfl, .inl rfl, rfl, .refl _⟩
theorem withFormation_scope (s : State) (t : Timer) : ListScope s (s.withFormation t) :=
  ⟨rfl, rfl, rfl, .inl rfl, rfl, .refl _⟩

theorem CondReach.scope_of_trips {s t : State} (h : CondReach s t) (ht : t.trips = s.trips) : ListScope s t :=
  h.scope (ht ▸ .refl _)

theorem CondReach.scope_of_sublist {s t : State} (h : CondReach s t)
    (ht : t.trips.records.Sublist s.trips.records) : ListScope s t :=
  h.scope (.leave ht)

/-! ### The list's own operations -/

theorem takeOffers_scope (ch : Change) (s : State) : ListScope s (takeOffers ch s) := by
  refine (takeOffers_reach ch s).cond.scope ?_
  unfold takeOffers
  split
  · exact .inPlace _ (fun r => by split <;> rfl) _
  · exact .refl _

/-- What a change of the list reports on changes no more of it than the counted flags (R23). -/
theorem listReport_trips (ch : Change) (s : State) : (listReport ch s).trips = (takeOffers ch s).trips := by
  unfold listReport
  simp only
  split
  · exact openPaths_trips _ _
  · split <;> simp

theorem listReport_scope (ch : Change) (s : State) : ListScope s (listReport ch s) :=
  (listReport_reach ch s).cond.scope (listReport_trips ch s ▸ (takeOffers_scope ch s).records)

/-- The condition is an own one, MEMBER LOST of a member (R28). -/
def CondId.isOwn (members : List Nat) (id : CondId) : Prop :=
  (id.kind = .memberLost → ∃ j ∈ members, id.subject = some j) ∧ (id.kind ≠ .memberLost → id.subject = none)

theorem ownCond_isOwn (members : List Nat) (k : Kind) (h : k ≠ .memberLost) : (ownCond k).isOwn members :=
  ⟨fun e => absurd e h, fun _ => rfl⟩

theorem lostCond_isOwn (members : List Nat) (r : Nat) (h : r ∈ members) : (lostCond r).isOwn members :=
  ⟨fun _ => ⟨r, h, rfl⟩, fun e => absurd rfl e⟩

theorem activateOwn_scope (id : CondId) (s : State) (h : id.isOwn s.members) : ListScope s (activateOwn id s) :=
  (activateOwn_reach id s).list.cond.scope (.ownPut _ _ rfl h.1 h.2)

theorem clearOwn_scope (id : CondId) (s : State) : ListScope s (clearOwn id s) :=
  (clearOwn_reach id s).list.cond.scope (.inPlace _ (fun r => by split <;> rfl) _)

theorem markStale_scope (origin : Nat) (stale : Bool) (s : State) : ListScope s (markStale origin stale s) :=
  (markStale_reach origin stale s).list.cond.scope (.inPlace _ (fun r => by split <;> rfl) _)

theorem foldl_clearOwn_scope (ids : List CondId) (s : State) : ListScope s (ids.foldl (fun t id => clearOwn id t) s) := by
  induction ids generalizing s with
  | nil => exact .refl s
  | cons i is ih => exact (clearOwn_scope i s).trans (ih _)

theorem foldl_activateOwn_scope (ids : List CondId) (s : State) (h : ∀ id ∈ ids, id.isOwn s.members) :
    ListScope s (ids.foldl (fun t id => activateOwn id t) s) := by
  induction ids generalizing s with
  | nil => exact .refl s
  | cons i is ih =>
      have hi := activateOwn_scope i s (h i List.mem_cons_self)
      exact hi.trans (ih _ fun id hid => hi.members ▸ h id (List.mem_cons_of_mem _ hid))

theorem mem_orderBy {α : Type} (n : Nat) (l : List α) (x : α) (h : x ∈ orderBy n l) : x ∈ l := by
  induction l generalizing n with
  | nil => exact absurd h List.not_mem_nil
  | cons y ys ih =>
      unfold orderBy at h
      simp only [List.mem_append, List.mem_cons] at h
      rcases h with h | rfl | h
      · exact List.mem_cons_of_mem _ (ih _ (List.mem_of_mem_take h))
      · exact List.mem_cons_self
      · exact List.mem_cons_of_mem _ (ih _ (List.mem_of_mem_drop h))

theorem mem_freeTripOrder (ids : List CondId) (s : State) (x : CondId) (h : x ∈ (freeTripOrder ids s).1) : x ∈ ids := by
  unfold freeTripOrder at h
  split at h
  · exact h
  · exact h
  · exact mem_orderBy _ _ x h

theorem freeTripOrder_scope (ids : List CondId) (s : State) : ListScope s (freeTripOrder ids s).2 := by
  refine (freeTripOrder_reach ids s).scope_of_trips ?_
  unfold freeTripOrder
  split <;> rfl

/-- Own conditions that turn QUIET and trip move the list as own records (R9 to R11). -/
theorem reportConds_scope (cleared tripped : List CondId) (s : State) (h : ∀ id ∈ tripped, id.isOwn s.members) :
    ListScope s (reportConds cleared tripped s) := by
  unfold reportConds
  have h1 := (foldl_clearOwn_scope cleared s).trans (freeTripOrder_scope tripped _)
  refine (h1.trans (foldl_activateOwn_scope _ _ fun id hid => ?_)).trans (listReport_scope _ _)
  exact h1.members ▸ h id (mem_freeTripOrder _ _ id hid)

theorem tripConds_scope (ids : List CondId) (s : State) (h : ∀ id ∈ ids, id.isOwn s.members) :
    ListScope s (tripConds ids s) :=
  (withConds_scope s _).trans (reportConds_scope [] ids _ h)

theorem tripOwn_scope (k : Kind) (s : State) (h : k ≠ .memberLost) : ListScope s (tripConds [ownCond k] s) :=
  tripConds_scope _ s fun _ hid => List.mem_singleton.1 hid ▸ ownCond_isOwn _ k h

theorem clearCond_scope (id : CondId) (s : State) : ListScope s (clearCond id s) :=
  (withConds_scope s _).trans
    (reportConds_scope [id] [] _ fun _ h => absurd h List.not_mem_nil)

/-! ### Evaluations -/

/-- Every condition the evaluation trips is an own one. -/
def Evaluated.tripsOwn (members : List Nat) (e : Evaluated) : Prop := ∀ id ∈ e.tripped, id.isOwn members

theorem Evaluated.join_tripsOwn (members : List Nat) (k : Kind) (f : Cond → Cond × CondEvent) (e : Evaluated)
    (hk : k ≠ .memberLost) (h : e.tripsOwn members) : (e.join (ownCond k) f).tripsOwn members := by
  unfold Evaluated.join
  simp only
  split
  · exact h
  · intro id hid
    rcases List.mem_append.1 hid with hid | hid
    · exact h id hid
    · exact List.mem_singleton.1 hid ▸ ownCond_isOwn members k hk
  · exact h

theorem evaluating_tripsOwn (members : List Nat) (s : State) : s.evaluating.tripsOwn members :=
  fun _ h => absurd h List.not_mem_nil

theorem reportEvaluated_scope (e : Evaluated) (s : State) (h : e.tripsOwn s.members) :
    ListScope s (reportEvaluated e s) :=
  (withConds_scope s _).trans (reportConds_scope _ _ _ h)

theorem evaluateScan_scope (r : ScanResult) (s : State) : ListScope s (evaluateScan r s) := by
  refine reportEvaluated_scope _ s ?_
  refine Evaluated.join_tripsOwn _ .dieHot _ _ (by decide) ?_
  refine Evaluated.join_tripsOwn _ .moduleCold _ _ (by decide) ?_
  refine Evaluated.join_tripsOwn _ .moduleHot _ _ (by decide) ?_
  refine Evaluated.join_tripsOwn _ .cellLow _ _ (by decide) ?_
  exact Evaluated.join_tripsOwn _ .cellHigh _ _ (by decide) (evaluating_tripsOwn _ s)

theorem evaluateSample_scope (x : Int) (s : State) : ListScope s (evaluateSample x s) := by
  refine reportEvaluated_scope _ s ?_
  refine Evaluated.join_tripsOwn _ .dischargeOvercurrent _ _ (by decide) ?_
  exact Evaluated.join_tripsOwn _ .chargeOvercurrent _ _ (by decide) (evaluating_tripsOwn _ s)

theorem joinImbalance_tripsOwn (members : List Nat) (s : State) (e : Evaluated) (h : e.tripsOwn members) :
    (joinImbalance s e).tripsOwn members := by
  unfold joinImbalance
  split <;> exact Evaluated.join_tripsOwn members .imbalance _ e (by decide) h

theorem joinMismatch_tripsOwn (members : List Nat) (s : State) (e : Evaluated) (h : e.tripsOwn members) :
    (joinMismatch s e).tripsOwn members := by
  unfold joinMismatch
  split <;> exact Evaluated.join_tripsOwn members .senseMismatch _ e (by decide) h

theorem evaluatePack_scope (s : State) : ListScope s (evaluatePack s) :=
  reportEvaluated_scope _ s (joinMismatch_tripsOwn _ s _ (joinImbalance_tripsOwn _ s _ (evaluating_tripsOwn _ s)))

/-! ### Conditions of their own events -/

theorem tripShort_scope (s : State) : ListScope s (tripShort s) :=
  (tripOwn_scope .short s (by decide)).trans (withStop_scope _ _)

@[simp] theorem shortSettles_trips (s : State) : (shortSettles s).trips = s.trips := by
  unfold shortSettles
  split <;> rfl

theorem shortAsserted_scope (s : State) : ListScope s (shortAsserted s) := by
  unfold shortAsserted
  split
  · split
    · exact tripShort_scope s
    · exact withConds_scope s _
  · exact .refl s
  · exact .refl s
  · exact withConds_scope s _

theorem shortReleased_scope (s : State) : ListScope s (shortReleased s) := by
  refine (shortReleased_reach s).scope_of_trips ?_
  unfold shortReleased
  split <;> simp

theorem releaseLine_scope (s : State) : ListScope s (releaseLine s) :=
  (releaseLine_reach s).scope_of_trips (shortSettles_trips _)

theorem releaseIfDone_scope (s : State) : ListScope s (releaseIfDone s) := by
  unfold releaseIfDone
  split
  · exact releaseLine_scope s
  · exact .refl s

theorem switchFaultReport_scope (s : State) : ListScope s (switchFaultReport s) := by
  unfold switchFaultReport
  split
  · exact tripOwn_scope .switchFault s (by decide)
  · exact .refl s

@[simp] theorem setReleaseTimer_trips (t : Timer) (s : State) : (setReleaseTimer t s).trips = s.trips := by
  unfold setReleaseTimer
  split <;> rfl

theorem setReleaseTimer_scope (t : Timer) (s : State) : ListScope s (setReleaseTimer t s) :=
  (setReleaseTimer_reach t s).scope_of_trips (setReleaseTimer_trips t s)

theorem unexplainedReport_scope (s : State) : ListScope s (unexplainedReport s) := by
  unfold unexplainedReport
  split
  · have h := tripOwn_scope .unexplainedStop s (by decide)
    simp only
    split
    · exact h
    · exact h.trans (setReleaseTimer_scope _ _)
  · exact .refl s

theorem membersLost_scope (subjects : List Nat) (s : State) (h : ∀ r ∈ subjects, r ∈ s.members) :
    ListScope s (membersLost subjects s) := by
  refine tripConds_scope _ s fun id hid => ?_
  obtain ⟨r, hr, rfl⟩ := List.mem_map.1 hid
  exact lostCond_isOwn _ r (h r (List.mem_filter.1 hr).1)

theorem memberFound_scope (r : Nat) (s : State) : ListScope s (memberFound r s) := by
  unfold memberFound
  split
  · exact clearCond_scope _ s
  · exact .refl s

theorem placeHold_scope (ps : PathSet) (s : State) : ListScope s (placeHold ps s) := by
  unfold placeHold
  simp only
  split
  · exact .refl s
  · exact (withConds_scope s _).trans (tripOwn_scope .hold _ (by decide))

theorem releaseHold_scope (s : State) : ListScope s (releaseHold s) :=
  (clearCond_scope _ s).trans (withConds_scope _ _)

theorem refuseAddition_records (s : State) : (refuseAddition s).trips.records = s.trips.records := by
  unfold refuseAddition
  simp only
  split <;> simp

theorem refuseAddition_scope (s : State) : ListScope s (refuseAddition s) :=
  (refuseAddition_reach s).list.cond.scope_of_sublist (by rw [refuseAddition_records])

theorem changeRecords_scope (out : List Record × Bool) (s : State)
    (h : ListMoves s.cfg.memberCount s.rank s.members s.trips.records out.1) : ListScope s (changeRecords out s) := by
  have h1 : ListScope s (s.withTrips { s.trips with records := out.1 }) := ⟨rfl, rfl, rfl, .inl rfl, rfl, h⟩
  have h2 := h1.trans (listReport_scope { before := s.trips.records, activated := [] } _)
  unfold changeRecords
  simp only
  split
  · exact h2.trans (refuseAddition_scope _)
  · exact h2

/-! ### Records of other origins -/

theorem OwnEntry.keys_iff (src : Nat) (e : OwnEntry) (r : Record) :
    e.keys src r = true ↔ r.key = (src, e.kind, e.subject) := Record.hasKey_iff ..

theorem addAll_moves (n own : Nat) (members : List Nat) (rs : List Record) (l : List Record)
    (ho : ∀ r ∈ rs, r.origin ∈ members) (hd : (rs.map Record.key).Nodup)
    (hnew : ∀ r ∈ rs, r.key ∉ l.map Record.key) : ListMoves n own members l (addAll n own rs l).1 := by
  induction rs generalizing l with
  | nil => exact .refl l
  | cons r rs ih =>
      obtain ⟨hr, hd⟩ := List.nodup_cons.1 hd
      have ho' := fun x hx => ho x (List.mem_cons_of_mem r hx)
      have hnew' := fun x hx => hnew x (List.mem_cons_of_mem r hx)
      unfold addAll addForeign
      by_cases hroom : hasRoom n own l = true
      · simp only [hroom, if_true]
        refine (ListMoves.memberJoins r l (ho r List.mem_cons_self) (hnew r List.mem_cons_self) hroom).trans
          (ih _ ho' hd fun x hx hin => ?_)
        rw [List.map_append, List.mem_append] at hin
        rcases hin with hin | hin
        · exact hnew' x hx hin
        · exact hr (List.mem_singleton.1 hin ▸ List.mem_map_of_mem hx)
      · simp only [hroom]
        exact ih l ho' hd hnew'

/-- A beat's three steps are moves of the list (R17). -/
theorem replaceRecords_moves (n own src : Nat) (members : List Nat) (es : List OwnEntry) (l : List Record)
    (hsrc : src ∈ members) (hd : (es.map fun x => (x.kind, x.subject)).Nodup) :
    ListMoves n own members l (replaceRecords n own src es l).1 := by
  unfold replaceRecords
  simp only
  refine .trans (.leave List.filter_sublist) (.trans (.inPlace _ (fun r => ?_) _) (addAll_moves n own members _ _ ?_ ?_ ?_))
  · split <;> rfl
  · intro r hr
    obtain ⟨e, _, rfl⟩ := List.mem_map.1 hr
    exact hsrc
  · rw [List.map_map]
    have hfun : (Record.key ∘ OwnEntry.record src) = (fun k : Kind × Option Nat => (src, k)) ∘
        fun x : OwnEntry => (x.kind, x.subject) := rfl
    rw [hfun, ← List.map_map]
    exact (hd.sublist (List.filter_sublist.map _)).map fun _ _ h => by simpa using h
  · intro r hr hin
    obtain ⟨e, he, rfl⟩ := List.mem_map.1 hr
    have hnone := (List.mem_filter.1 he).2
    obtain ⟨x, hx, hkey⟩ := List.mem_map.1 hin
    have hany := List.any_eq_true.2 ⟨x, hx, (OwnEntry.keys_iff src e x).2 hkey⟩
    simp [hany] at hnone

/-- A NOTICE's record under its key, or at the end where there is room, is a move of the list (R16). -/
theorem noticeRecords_moves (n own src : Nat) (members : List Nat) (e : OwnEntry) (l : List Record)
    (hsrc : src ∈ members) : ListMoves n own members l (noticeRecords n own src e l).1 := by
  unfold noticeRecords
  split
  · exact .inPlace _ (fun r => by split <;> rfl) l
  · rename_i hnone
    unfold addForeign
    split
    · rename_i hroom
      refine .memberJoins _ l hsrc (fun hin => hnone ?_) hroom
      obtain ⟨x, hx, hkey⟩ := List.mem_map.1 hin
      exact List.any_eq_true.2 ⟨x, hx, (OwnEntry.keys_iff src e x).2 hkey⟩
    · exact .refl l

theorem mem_members_of_isRosterRank (r : Nat) (s : State) (h : s.isRosterRank r = true) : r ∈ s.members := by
  obtain ⟨e, he⟩ := Option.isSome_iff_exists.1 h
  have hr : e.rank = r := by simpa using List.find?_some he
  exact hr ▸ List.mem_map_of_mem (List.mem_of_find?_eq_some he)

/-- What the trip list does with a frame is a move of the list (R15 to R17). -/
theorem listTakes_scope (f : RxFrame) (s : State) : ListScope s (listTakes f s) := by
  unfold listTakes
  split
  · exact .refl s
  · rename_i hr
    have hsrc := mem_members_of_isRosterRank f.src.toNat s (by simpa using hr)
    simp only
    split
    · exact changeRecords_scope _ s (replaceRecords_moves _ _ _ _ _ _ hsrc (firstOfKey_nodup _))
    · split
      · exact .refl s
      · exact changeRecords_scope _ s (noticeRecords_moves _ _ _ _ _ _ hsrc)
    · exact .refl s

/-! ### Membership, budget and service -/

@[simp] theorem settleForming_full (s : State) : (settleForming s).trips.full = s.trips.full := by
  unfold settleForming
  simp only
  split <;> rfl

theorem settleForming_scope (s : State) : ListScope s (settleForming s) := by
  refine (settleForming_reach s).cond.scope ?_
  unfold settleForming
  simp only
  split <;> exact .inPlace _ (fun r => by split <;> rfl) _

/-- A change of phase among those at work moves the list by its counted flags alone (R128, R202). -/
theorem changePhase_scope (p : Phase) (s : State) (hp : p.working = true) (hs : s.working = true) :
    ListScope s (changePhase p s) := by
  have h1 : ListScope s (s.withPhase p) := ⟨rfl, rfl, rfl, .inr ⟨hs, hp⟩, rfl, .refl _⟩
  have h2 : ListScope s (if s.phase = .FORMING then settleForming (s.withPhase p) else s.withPhase p) := by
    split
    · exact h1.trans (settleForming_scope _)
    · exact h1
  unfold changePhase
  simp only
  generalize (if s.phase = .FORMING then settleForming (s.withPhase p) else s.withPhase p) = u at h2 ⊢
  have h3 : ListScope s (if s.phase = .FORMING ∧ p = .OPERATING then u.withFormation .stopped else u) := by
    split
    · exact h2.trans (withFormation_scope u .stopped)
    · exact h2
  split
  · exact h3.trans ((holdBoth_reach _).list.cond.scope_of_trips (holdBoth_trips _))
  · exact h3

theorem phaseChecks_scope (s : State) : ListScope s (phaseChecks s) := by
  unfold phaseChecks
  split <;> rename_i hs
  · split
    · exact changePhase_scope _ s rfl (State.working_of_phase hs rfl)
    · exact .refl s
  · split
    · exact changePhase_scope _ s rfl (State.working_of_phase hs rfl)
    · exact .refl s
  · split
    · exact changePhase_scope _ s rfl (State.working_of_phase hs rfl)
    · exact .refl s
  · exact .refl s
  · exact .refl s

theorem rankConflict_scope (s : State) : ListScope s (rankConflict s) := by
  have h : ListScope s (s.withConflict true) := ⟨rfl, rfl, rfl, .inl rfl, rfl, .refl _⟩
  unfold rankConflict
  split
  · exact .refl s
  · simp only
    split <;> rename_i hs
    · exact h.trans (changePhase_scope _ _ rfl (State.working_of_phase hs rfl))
    · exact h.trans (changePhase_scope _ _ rfl (State.working_of_phase hs rfl))
    · exact h
    · exact h
    · exact h

theorem withRoster_scope (s : State) (l : List Entry) (h : l.map (·.rank) = s.members) : ListScope s (s.withRoster l) :=
  ⟨rfl, rfl, rfl, .inl rfl, h, .refl _⟩

theorem map_rank_of_keeps (f : Entry → Entry) (hf : ∀ e, (f e).rank = e.rank) (l : List Entry) :
    (l.map f).map (·.rank) = l.map (·.rank) := by
  simp [Function.comp_def, hf]

theorem updateEntry_ranks (r : Nat) (f : Entry → Entry) (hf : ∀ e, (f e).rank = e.rank) (l : List Entry) :
    (updateEntry r f l).map (·.rank) = l.map (·.rank) :=
  map_rank_of_keeps _ (fun e => by split <;> simp [hf]) l

theorem Entry.takeBeat_rank (digest : Half) (b : BeatFields) (e : Entry) : (e.takeBeat digest b).rank = e.rank := by
  unfold Entry.takeBeat
  simp only
  split <;> rfl

theorem Entry.takeFrame_rank (t : Nat) (digest : Half) (c : Content) (e : Entry) :
    (e.takeFrame t digest c).rank = e.rank := by
  unfold Entry.takeFrame
  simp only
  split
  · exact Entry.takeBeat_rank digest _ _
  · rfl

theorem takeFromMember_scope (f : RxFrame) (e : Entry) (s : State) : ListScope s (takeFromMember f e s) := by
  have h1 := withRoster_scope s _
    (updateEntry_ranks f.src.toNat _ (Entry.takeFrame_rank s.cfg.silenceTime s.load.digest f.content) s.roster)
  unfold takeFromMember
  simp only
  generalize s.withRoster (updateEntry f.src.toNat (Entry.takeFrame s.cfg.silenceTime s.load.digest f.content) s.roster) =
    u at h1 ⊢
  have h2 : ListScope s (if e.status = .LOST then markStale f.src.toNat false (memberFound f.src.toNat u) else u) := by
    split
    · exact h1.trans ((memberFound_scope _ _).trans (markStale_scope _ _ _))
    · exact h1
  by_cases h : f.content.beat?.isSome = true ∨ e.status ≠ .PRESENT
  · rw [if_pos h]
    exact h2.trans (phaseChecks_scope _)
  · rw [if_neg h]
    exact h2

theorem membershipTakes_scope (f : RxFrame) (s : State) : ListScope s (membershipTakes f s) := by
  unfold membershipTakes
  split
  · exact rankConflict_scope s
  · split
    · exact takeFromMember_scope f _ s
    · exact .refl s

theorem mem_members_of_entry (r : Nat) (e : Entry) (s : State) (h : s.entry r = some e) : r ∈ s.members :=
  mem_members_of_isRosterRank r s (by simp [State.isRosterRank, h])

theorem entryLost_scope (r : Nat) (s : State) (h : r ∈ s.members) : ListScope s (entryLost r s) := by
  have h1 := withRoster_scope s _ (updateEntry_ranks r Entry.goLost (fun _ => rfl) s.roster)
  unfold entryLost
  refine h1.trans ((membersLost_scope [r] _ ?_).trans ((markStale_scope _ _ _).trans (phaseChecks_scope _)))
  intro j hj
  rw [List.mem_singleton.1 hj, h1.members]
  exact h

theorem formationExpired_scope (s : State) : ListScope s (formationExpired s) := by
  have h1 := withRoster_scope s (s.roster.map fun e => if e.status == .EXPECTED then e.goLost else e)
    (map_rank_of_keeps _ (fun e => by split <;> rfl) s.roster)
  have h2 := h1.trans (withFormation_scope _ .stopped)
  refine h2.trans (membersLost_scope _ _ fun r hr => ?_)
  rw [h2.members]
  obtain ⟨e, he, rfl⟩ := List.mem_map.1 hr
  exact List.mem_map_of_mem (List.mem_filter.1 he).1

@[simp] theorem budgetTakes_trips (f : RxFrame) (s : State) : (budgetTakes f s).trips = s.trips := by
  unfold budgetTakes
  split
  · split <;> rfl
  · rfl

@[simp] theorem windowTakes_trips (f : RxFrame) (s : State) : (windowTakes f s).trips = s.trips := by
  unfold windowTakes
  split
  · split <;> rfl
  · rfl

theorem serveCode_scope (code : Nat) (args : List Byte) (s : State) : ListScope s (serveCode code args s).state := by
  unfold serveCode
  split
  · exact .refl s
  · unfold serveReadList
    simp only
    split <;> exact .refl s
  · unfold serveReadRoster
    repeat' split
    all_goals exact .refl s
  · exact .refl s
  · exact .refl s
  · exact ListScope.trans (withLink_scope s { s.link with counters := .zero })
      (withRoster_scope _ _ (map_rank_of_keeps Entry.clearCounts (fun _ => rfl) s.roster))
  · exact .refl s
  · unfold servePlaceHold
    simp only
    repeat' split
    · exact .refl s
    · exact .refl s
    · exact placeHold_scope _ s
  · unfold serveReleaseHold
    repeat' split
    · exact .refl s
    · exact .refl s
    · exact releaseHold_scope s
  · unfold serveClearTripped
    repeat' split
    · exact .refl s
    · exact .refl s
    · exact .refl s
    · exact .refl s
    · exact clearCond_scope _ s
  · unfold serveResetBudget
    repeat' split
    · exact .refl s
    · exact .refl s
    · exact ⟨rfl, rfl, rfl, .inl rfl, rfl, .refl _⟩
  · exact ⟨rfl, rfl, rfl, .inl rfl, rfl, .refl _⟩
  · exact .refl s

theorem serve_scope (p : List Byte) (s : State) : ListScope s (serve p s).state := by
  unfold serve
  repeat' split
  · exact .refl s
  · exact .refl s
  · exact .refl s
  · exact serveCode_scope _ _ s

theorem serviceTakes_scope (f : RxFrame) (s : State) : ListScope s (serviceTakes f s) := by
  unfold serviceTakes
  repeat' split
  · exact .refl s
  · exact withLink_scope s _
  · exact (serve_scope _ s).trans (withLink_scope _ _)
  · exact .refl s

/-- In HALTED no request reaches the list (R191 to R194). -/
theorem serveCode_halted_trips (code : Nat) (args : List Byte) (s : State) (h : s.phase = .HALTED) :
    (serveCode code args s).state.trips = s.trips := by
  have hw : s.working = false := by simp [State.working, h, Phase.working]
  unfold serveCode
  split
  · rfl
  · unfold serveReadList
    simp only
    split <;> rfl
  · simp [serveReadRoster, h, Served.refused]
  · rfl
  · rfl
  · rfl
  · rfl
  · unfold servePlaceHold
    simp only [h, if_true]
    split <;> rfl
  · simp [serveReleaseHold, h, Served.refused]
  · unfold serveClearTripped
    split
    · rfl
    · simp [hw, Served.refused]
  · unfold serveResetBudget
    repeat' split
    all_goals rfl
  · rfl
  · rfl

theorem serviceTakes_halted_trips (f : RxFrame) (s : State) (h : s.phase = .HALTED) :
    (serviceTakes f s).trips = s.trips := by
  unfold serviceTakes takeRequest serve
  repeat' split
  all_goals first | rfl | exact serveCode_halted_trips _ _ s h

theorem takers_scope (f : RxFrame) : ∀ g ∈ takers f, ∀ s, ListScope s (g s) := by
  have hm := membershipTakes_scope f
  have hl := listTakes_scope f
  have hr : ∀ s, ListScope s (recloseTakes f s) := fun s =>
    (recloseTakes_reach f s).list.cond.scope_of_sublist (recloseTakes_sublist f s)
  have hb : ∀ s, ListScope s (budgetTakes f s) := fun s =>
    (budgetTakes_reach f s).cond.scope_of_trips (budgetTakes_trips f s)
  have hw : ∀ s, ListScope s (windowTakes f s) := fun s =>
    (windowTakes_reach f s).scope_of_trips (windowTakes_trips f s)
  have hs := serviceTakes_scope f
  unfold takers
  split <;> simp only [List.mem_cons, List.not_mem_nil, or_false, forall_eq_or_imp, forall_eq]
  · exact ⟨hm, hl, hb, hr⟩
  · exact ⟨hm, hl, hw⟩
  · exact ⟨hm, hr⟩
  · exact ⟨hm, hr⟩
  · exact ⟨hm, hr⟩
  · exact ⟨hm, hr⟩
  · exact ⟨hm, hr⟩
  · exact ⟨hm, hr⟩
  · exact ⟨hm, hs⟩
  · exact hm

theorem settle_scope (b s : State) : ListScope s (settle b s) :=
  (settle_reach b s).cond.scope_of_trips (settle_trips b s)

/-! ### Commands -/

/-- What a command at any phase does to the list: its moves, and none where the station is not at work (R27). -/
structure StepScope (s t : State) : Prop extends ListScope s t where
  idle : s.working = false → t.trips.records = s.trips.records

theorem StepScope.of_trips {s t : State} (h : ListScope s t) (ht : t.trips = s.trips) : StepScope s t :=
  ⟨h, fun _ => congrArg TripList.records ht⟩

theorem StepScope.refl (s : State) : StepScope s s := .of_trips (.refl s) rfl

theorem StepScope.trans {s t u : State} (h : StepScope s t) (g : StepScope t u) : StepScope s u :=
  ⟨h.toListScope.trans g.toListScope, fun hs => (g.idle (h.working.trans hs)).trans (h.idle hs)⟩

/-- A command taken only at work, under its guard. -/
theorem StepScope.guarded {s t : State} {c : Prop} [Decidable c] (hc : c → s.working = true) (h : c → ListScope s t) :
    StepScope s (if c then t else s) := by
  split
  · rename_i hyes
    exact ⟨h hyes, fun hs => absurd ((hc hyes).symm.trans hs) (by decide)⟩
  · exact .refl s

theorem distribute_scope (f : RxFrame) (s : State) : StepScope s (distribute f s) := by
  have key (hs : s.working = true) : StepScope s (settle s (inAnyOrder (takers f) s)) := by
    refine ⟨ListScope.trans ?_ (settle_scope s _), fun h => absurd (hs.symm.trans h) (by decide)⟩
    exact inAnyOrder_keeps (ListScope s) (takers f) (fun t n h => h.trans (withFreeCount_scope t n))
      (fun g hg t h => h.trans (takers_scope f g hg t)) s (.refl s)
  unfold distribute
  cases hp : s.phase with
  | LOADING => exact .refl s
  | HALTED => exact .of_trips (serviceTakes_scope f s) (serviceTakes_halted_trips f s hp)
  | FORMING => exact key (State.working_of_phase hp rfl)
  | OPERATING => exact key (State.working_of_phase hp rfl)
  | CONFINED => exact key (State.working_of_phase hp rfl)

theorem receive_scope (f : RxFrame) (s : State) : StepScope s (receive f s) := by
  have h (g : Counters → Counters) : StepScope s (s.count g) := .of_trips (withLink_scope s _) rfl
  unfold receive
  split
  · exact .refl s
  · split
    · exact (h _).trans (distribute_scope f _)
    · exact h _

end Sys2Proof.Machine
end

section
/-!
SUPPORT. What every command and every step does to the list, and the two invariants of the list that follow: its keys stay
apart, and with the own reserve it stays within 64 records (R5, R8, R9).
-/
namespace Sys2Proof.Machine

/-! ### Commands of each family -/

theorem withReclose_scope (s : State) (r : Reclose) : ListScope s (s.withReclose r) := ⟨rfl, rfl, rfl, .inl rfl, rfl, .refl _⟩
theorem withBudget_scope (s : State) (b : Budget) : ListScope s (s.withBudget b) := ⟨rfl, rfl, rfl, .inl rfl, rfl, .refl _⟩
theorem withBeats_scope (s : State) (b : Beats) : ListScope s (s.withBeats b) := ⟨rfl, rfl, rfl, .inl rfl, rfl, .refl _⟩

theorem ListScope.settle {s t : State} (h : ListScope s t) (b : State) : ListScope s (settle b t) :=
  h.trans (settle_scope b t)

theorem switchEvent_scope (p : Path) (out : Switch × Bool) (s : State) : ListScope s (switchEvent p out s) := by
  have h := (moveSwitch_reach p out.1 s).list.cond.scope_of_sublist (moveSwitch_sublist p out.1 s)
  unfold switchEvent
  simp only
  split
  · exact h.trans (switchFaultReport_scope _)
  · exact h

theorem lineAsserted_scope (unexplained : Bool) (s : State) : ListScope s (lineAsserted unexplained s) :=
  ((withStop_scope s _).trans (setReleaseTimer_scope _ _)).trans
    ((holdBoth_reach _).list.cond.scope_of_trips (holdBoth_trips _))

theorem placeBeat_scope (b : BeatFields) (s : State) : ListScope s (placeBeat b s) :=
  (withLink_scope s _).trans (withBeats_scope _ _)

theorem beatPeriod_scope (s : State) : ListScope s (beatPeriod s) := by
  refine ListScope.trans ?_ (withBeats_scope _ _)
  refine inAnyOrder_keeps (ListScope s) _ (fun t n h => h.trans (withFreeCount_scope t n)) ?_ _ (withMeas_scope s _)
  intro g hg t h
  simp only [List.mem_cons, List.not_mem_nil, or_false] at hg
  rcases hg with rfl | rfl
  · exact h.trans (evaluatePack_scope t)
  · exact h.trans (placeBeat_scope _ t)

theorem windowExpired_scope (s : State) : ListScope s (windowExpired s) :=
  (windowExpired_reach s).list.cond.scope_of_trips (windowExpired_trips s)

theorem mediumIdle_scope (s : State) : StepScope s (mediumIdle s) := by
  have h : StepScope s (s.withLink s.link.goIdle) := .of_trips (withLink_scope s _) rfl
  have hc (u : State) (f : Counters → Counters) : StepScope u (u.count f) := .of_trips (withLink_scope u _) rfl
  unfold mediumIdle
  split
  · exact .refl s
  · refine h.trans ?_
    generalize s.withLink s.link.goIdle = u
    unfold judgeEnded
    repeat' split
    · exact .refl u
    · exact hc u _
    · exact .refl u
    · exact hc u _
    · exact hc u _
    · exact .refl u
    · exact receive_scope _ u

/-! ### Every command -/

/-- How a command leaves the list: moved from where it was, emptied by a reset, kept as LOADING begins, or as the end of
LOADING leaves it. -/
inductive ListOutcome (s t : State) : Prop
  | moved (h : StepScope s t)
  | emptied (hr : t.trips.records = []) (hp : t.phase = .LOADING) (hc : t.cfg = .none)
  | loading (hs : s.supplyLow = true) (ht : t = beginLoading s)
  | loaded (i : LoadInputs) (ht : t = endLoading i s)

theorem ListOutcome.same {s t : State} (h : ListScope s t) (ht : t.trips = s.trips) : ListOutcome s t :=
  .moved (.of_trips h ht)

theorem replyLeft_outcome {s u : State} (h : ListScope s u) (ht : u.trips = s.trips) : ListOutcome s (replyLeft u) := by
  unfold replyLeft
  split
  · exact .emptied rfl rfl rfl
  · exact .same h ht

theorem collided_outcome {s u : State} (k : TxClass) (f : TxFrame) (h : ListScope s u) (ht : u.trips = s.trips) :
    ListOutcome s (collided k f u) := by
  have h1 : ListScope s (u.count Counters.collided) := h.trans (withLink_scope u _)
  unfold collided
  simp only
  split
  · exact .same (h1.trans (withLink_scope _ _)) ht
  · have h2 : ListScope s (((u.count Counters.collided).withLink
        ((u.count Counters.collided).link.dropHead k)).count Counters.drop16) :=
      (h1.trans (withLink_scope _ _)).trans (withLink_scope _ _)
    split
    · exact replyLeft_outcome h2 ht
    · exact .same h2 ht

theorem reportSent_outcome {s u : State} (k : TxClass) (f : TxFrame) (h : ListScope s u) (ht : u.trips = s.trips) :
    ListOutcome s (reportSent k f u) := by
  unfold reportSent
  split
  · refine .same ((h.trans (withStop_scope u _)).trans (releaseIfDone_scope _)) (Eq.trans ?_ ht)
    unfold releaseIfDone releaseLine
    split <;> simp
  · split
    · exact replyLeft_outcome h ht
    · exact .same h ht

/-- A command taken only at work, under its guard, with its closing checks. -/
theorem guarded_outcome {s t : State} {c : Prop} [Decidable c] (hc : c → s.working = true) (h : ListScope s t) :
    ListOutcome s (if c then t else s) := .moved (.guarded hc fun _ => h)

/-- What every command does to the list. -/
theorem exec_outcome (c : Instr) (s : State) : ∃ t, exec c s = .next t ∧ ListOutcome s t := by
  cases c
  case supplyReset => exact ⟨_, rfl, .emptied rfl rfl rfl⟩
  case supplyResetEnd =>
    refine ⟨_, rfl, ?_⟩
    split
    · rename_i h
      exact .loading h rfl
    · exact .same (.refl s) rfl
  case loadingEnd i => exact ⟨_, rfl, .loaded i rfl⟩
  case checkIntervalExpiry => exact ⟨_, rfl, guarded_outcome id (withMeas_scope s _)⟩
  case scanResult m => exact ⟨_, rfl, guarded_outcome id (((withMeas_scope s _).trans (evaluateScan_scope _ _)).settle s)⟩
  case currentSample x =>
    exact ⟨_, rfl, guarded_outcome id (((withMeas_scope s _).trans (evaluateSample_scope _ _)).settle s)⟩
  case comparatorAssertion x =>
    exact ⟨_, rfl, guarded_outcome (·.1) (((withMeas_scope s _).trans (shortAsserted_scope _)).settle s)⟩
  case comparatorRelease x =>
    exact ⟨_, rfl, guarded_outcome (·.1) (((withMeas_scope s _).trans (shortReleased_scope _)).settle s)⟩
  case shortDelayExpiry => exact ⟨_, rfl, guarded_outcome (·.1) ((tripShort_scope s).settle s)⟩
  case recoveryTimerExpiry k => exact ⟨_, rfl, guarded_outcome (·.1) ((clearCond_scope _ s).settle s)⟩
  case releaseTimerExpiry => exact ⟨_, rfl, guarded_outcome (·.1) ((clearCond_scope _ s).settle s)⟩
  case beatPeriodEvent => exact ⟨_, rfl, guarded_outcome id ((beatPeriod_scope s).settle s)⟩
  case haltedBeat =>
    refine ⟨_, rfl, ?_⟩
    split
    · exact .same ((placeBeat_scope _ s).trans (withBeats_scope _ _)) rfl
    · exact .same (.refl s) rfl
  case silenceTimerExpiry r =>
    refine ⟨_, rfl, ?_⟩
    split
    · rename_i e he
      exact guarded_outcome (·.1) ((entryLost_scope r s (mem_members_of_entry r e s he)).settle s)
    · exact .same (.refl s) rfl
  case formationTimeout => exact ⟨_, rfl, guarded_outcome (·.1) ((formationExpired_scope s).settle s)⟩
  case holdOffExpiry p => exact ⟨_, rfl, guarded_outcome (·.1) ((withReclose_scope s _).settle s)⟩
  case windowTimerExpiry => exact ⟨_, rfl, guarded_outcome id ((windowExpired_scope s).settle s)⟩
  case listFullTimerExpiry =>
    refine ⟨_, rfl, guarded_outcome (·.1) (ListScope.settle ?_ s)⟩
    exact ⟨rfl, rfl, rfl, .inl rfl, rfl, .refl _⟩
  case quietTimerExpiry => exact ⟨_, rfl, guarded_outcome (·.1) ((withBudget_scope s _).settle s)⟩
  case feedbackOn p => exact ⟨_, rfl, guarded_outcome id ((switchEvent_scope p _ s).settle s)⟩
  case feedbackOff p => exact ⟨_, rfl, guarded_outcome id ((switchEvent_scope p _ s).settle s)⟩
  case closeLimitExpiry p => exact ⟨_, rfl, guarded_outcome id ((switchEvent_scope p _ s).settle s)⟩
  case openLimitExpiry p => exact ⟨_, rfl, guarded_outcome id ((switchEvent_scope p _ s).settle s)⟩
  case stopLineGoingAsserted => exact ⟨_, rfl, guarded_outcome id ((lineAsserted_scope false s).settle s)⟩
  case stopLineGoingReleased =>
    exact ⟨_, rfl, guarded_outcome id (((withStop_scope s _).trans (setReleaseTimer_scope _ _)).settle s)⟩
  case minimumTimerExpiry =>
    exact ⟨_, rfl, guarded_outcome (·.1) ((withStop_scope s _).trans (releaseIfDone_scope _))⟩
  case driverLimitExpiry => exact ⟨_, rfl, guarded_outcome (·.1) (releaseLine_scope s)⟩
  case explanationWindowExpiry =>
    exact ⟨_, rfl, guarded_outcome (·.1) (((withStop_scope s _).trans (unexplainedReport_scope _)).settle s)⟩
  case stuckTimerExpiry =>
    exact ⟨_, rfl, guarded_outcome (·.1) (((withStop_scope s _).trans (unexplainedReport_scope _)).settle s)⟩
  case mediumIdle => exact ⟨_, rfl, .moved (mediumIdle_scope s)⟩
  case frameStart =>
    refine ⟨_, rfl, ?_⟩
    repeat' split
    · exact .same (withLink_scope s _) rfl
    · exact .same (.refl s) rfl
    · exact .same (.refl s) rfl
  case collision matched echo =>
    refine ⟨_, rfl, ?_⟩
    split
    · exact .same (.refl s) rfl
    · simp only
      split
      · exact .same (.refl s) rfl
      · split
        · exact .same (.refl s) rfl
        · exact collided_outcome _ _ (withLink_scope s _) rfl
  case frameSent =>
    refine ⟨_, rfl, ?_⟩
    split
    · exact .same (.refl s) rfl
    · exact reportSent_outcome _ _ (withLink_scope s _) rfl
  case characterReceived e =>
    refine ⟨_, rfl, ?_⟩
    split
    · exact .same (.refl s) rfl
    · exact .same (withLink_scope s _) rfl
  all_goals exact ⟨_, rfl, .moved (receive_scope _ s)⟩

/-- What every step does to the list. -/
theorem step_outcome (s t : State) (h : step s = .next t) : ∃ rest, ListOutcome { s with pending := rest } t := by
  unfold step at h
  split at h
  · have ht : t = s.tick := by simpa using h.symm
    have hranks : s.tick.members = s.members :=
      map_rank_of_keeps (fun e => { e with silence := e.silence.tick }) (fun _ => rfl) s.roster
    exact ⟨s.pending, ht ▸ .moved ⟨⟨rfl, rfl, rfl, .inl rfl, hranks, .refl _⟩, fun _ => rfl⟩⟩
  · rename_i c rest _
    obtain ⟨u, hu, ho⟩ := exec_outcome c { s with pending := rest }
    have ht : t = u := by simpa [hu] using h.symm
    exact ⟨rest, ht ▸ ho⟩

/-! ### The end of LOADING -/

theorem startRun_scope (shunt : Int) (s : State) : ListScope s (startRun shunt s) := by
  have h := (withMeas_scope s { s.meas with scanTimer := .running 4000, checkTimer := .running s.cfg.checkIntervalUs,
                                            bias := s.cfg.biasInScan }).trans (withMeas_scope _
    { (startScan s).meas with sampleTimer := .running 250, sum := 0, number := 0, comparator := comparatorRises s.cfg shunt })
  unfold startRun
  simp only
  split
  · exact h.trans (shortAsserted_scope _)
  · exact h

theorem readStopLine_scope (asserted : Bool) (s : State) : ListScope s (readStopLine asserted s) := by
  unfold readStopLine
  split
  · exact lineAsserted_scope true s
  · exact .refl s

theorem readFeedback_scope (i : LoadInputs) (s : State) : ListScope s (readFeedback i s) := by
  have move (p : Path) (w : Switch) (u : State) : ListScope u (moveSwitch p w u) :=
    (moveSwitch_reach p w u).list.cond.scope_of_sublist (moveSwitch_sublist p w u)
  unfold readFeedback
  simp only
  split <;> split
  · exact (move _ _ s).trans (move _ _ _)
  · exact move _ _ s
  · exact move _ _ s
  · exact .refl s

/-- A block that passes its checks gives a member count of at most 16, and a rank within it (R197, R200). -/
theorem haltCauseOf_passes (b : List Byte) (rank : Nat) (h : haltCauseOf b rank = 0) :
    (Cfg.ofBlock b).memberCount ≤ 16 ∧ rank ≤ (Cfg.ofBlock b).memberCount := by
  unfold haltCauseOf at h
  repeat' split at h
  · exact absurd h (by decide)
  · exact absurd h (by decide)
  · exact absurd h (by decide)
  · rename_i hok hrank
    refine ⟨?_, Nat.le_of_not_lt hrank⟩
    have hranges : (Cfg.ofBlock b).rangesOk = true := by
      simp only [Bool.not_eq_true', Bool.not_eq_false, Bool.and_eq_true] at hok
      exact hok.1.1
    unfold Cfg.rangesOk inRange at hranges
    simp only [Bool.and_eq_true, decide_eq_true_eq] at hranges
    omega

/-- The end of LOADING: nothing, HALTED, or FORMING on a configuration that passed its checks, and the start of the blocks
moves the list (R200). -/
theorem endLoading_cases (i : LoadInputs) (s : State) :
    endLoading i s = s ∨
    ∃ l : Load, s.phase = .LOADING ∧ s.supplyLow = false ∧
      (endLoading i s = enterHalted l (s.withStore (s.store.read i.block)) ∨
        ∃ b : List Byte, (Cfg.ofBlock b).memberCount ≤ 16 ∧ l.strap.toNat + 1 ≤ (Cfg.ofBlock b).memberCount ∧
          ListScope (enterForming (Cfg.ofBlock b) l (s.withStore (s.store.read i.block))) (endLoading i s)) := by
  unfold endLoading
  split
  · rename_i hphase
    refine .inr ⟨loaded (s.store.read i.block).block.toList i.strap, hphase.1, hphase.2, ?_⟩
    simp only
    split
    · exact .inl rfl
    · rename_i hcause
      have hcause : haltCauseOf (s.store.read i.block).block.toList (i.strap.toNat + 1) = 0 := by
        simpa [loaded] using hcause
      refine .inr ⟨(s.store.read i.block).block.toList, ?_, ?_, ?_⟩
      · exact (haltCauseOf_passes _ _ hcause).1
      · exact (haltCauseOf_passes _ _ hcause).2
      · refine inAnyOrder_keeps (ListScope _) _ (fun t n h => h.trans (withFreeCount_scope t n)) ?_ _ (.refl _)
        intro g hg t h
        simp only [List.mem_cons, List.not_mem_nil, or_false] at hg
        rcases hg with rfl | rfl | rfl
        · exact h.trans (startRun_scope _ t)
        · exact h.trans (readStopLine_scope _ t)
        · exact h.trans (readFeedback_scope _ t)
  · exact .inl rfl

theorem formRoster_ranks (n own : Nat) (old : List Entry) :
    (formRoster n own old).map (·.rank) = rosterRanks n own := by
  unfold formRoster
  rw [List.map_map]
  conv_rhs => rw [← List.map_id (rosterRanks n own)]
  refine List.map_congr_left fun r _ => ?_
  simp only [Function.comp_apply, id_eq]
  split <;> rfl

/-! ### The keys stay apart (R5) -/

theorem ListScope.uniqueKeys {s t : State} (h : ListScope s t) (hs : UniqueKeys s) : UniqueKeys t :=
  h.records.keys_nodup hs

theorem uniqueKeys_of_empty (s : State) (h : s.trips.records = []) : UniqueKeys s := by
  simp [UniqueKeys, h]

theorem ListOutcome.uniqueKeys {s t : State} (h : ListOutcome s t) (hs : UniqueKeys s) : UniqueKeys t := by
  cases h with
  | moved h => exact h.toListScope.uniqueKeys hs
  | emptied hr _ _ => exact uniqueKeys_of_empty t hr
  | loading _ ht => exact ht ▸ hs
  | loaded i ht =>
      subst ht
      rcases endLoading_cases i s with e | ⟨l, _, _, e | ⟨b, _, _, hb⟩⟩
      · rw [e]
        exact hs
      · rw [e]
        exact hs
      · exact hb.uniqueKeys hs

/-- Settles O59: every step moves the list as `ListMoves` says, empties it, or leaves it. -/
theorem stepKeepsUniqueKeys : Obligations.StepKeepsUniqueKeys := by
  intro s t hs hstep
  obtain ⟨rest, ho⟩ := step_outcome s t hstep
  exact ho.uniqueKeys hs

/-! ### The list stays within 64 records with its reserve (R8, R9) -/

theorem ListBounded.kept {s : State} (h : ListBounded s) : ListKept s.cfg.memberCount s.rank s.trips.records := by
  obtain ⟨_, hkeys, _, _, _, hown, hfits⟩ := h
  refine ⟨hkeys, fun r hr ho hk => ?_, fun r hr ho => (hown r hr ho).2, hfits⟩
  obtain ⟨j, hj, hrange⟩ := (hown r hr ho).1 hk
  exact ⟨j, hj, hrange⟩

theorem ListKept.own {s : State} (h : ListKept s.cfg.memberCount s.rank s.trips.records) (r : Record)
    (hr : r ∈ s.trips.records) (ho : r.origin = s.rank) :
    (r.kind = .memberLost → ∃ j, r.subject = some j ∧ s.otherMember j) ∧ (r.kind ≠ .memberLost → r.subject = none) :=
  ⟨h.lost r hr ho, h.plain r hr ho⟩

theorem listKept_empty (n own : Nat) (hn : n ≤ 16) : ListKept n own [] := by
  refine ⟨List.nodup_nil, fun _ h => absurd h List.not_mem_nil, fun _ h => absurd h List.not_mem_nil, ?_⟩
  simp [ownReserve, ownCount]
  omega

theorem listBounded_of_empty (s : State) (hreset : ResetIsLoading s) (hn : s.cfg.memberCount ≤ 16)
    (hr : s.trips.records = [])
    (hw : s.working = true → s.rank ≤ s.cfg.memberCount ∧ ∀ e ∈ s.roster, s.otherMember e.rank) : ListBounded s := by
  have hk : ListKept s.cfg.memberCount s.rank s.trips.records := hr ▸ listKept_empty _ _ hn
  exact ⟨hreset, hk.keys, hn, fun _ => hr, hw, hk.own, hk.fits⟩

/-- At work a scope keeps the list well kept; out of work it keeps it empty. -/
theorem StepScope.bounded {s t : State} (h : StepScope s t) (hs : ListBounded s) : ListBounded t := by
  have hk := hs.kept
  obtain ⟨hreset, _, hn, hidle, hwork, _, _⟩ := hs
  have hreset' : ResetIsLoading t := by
    intro hlow
    have hp := hreset (h.supply ▸ hlow)
    rcases h.phase with e | ⟨hw, _⟩
    · exact e.trans hp
    · simp [State.working, hp, Phase.working] at hw
  by_cases hw : s.working = true
  · obtain ⟨hrank, hroster⟩ := hwork hw
    have hmem : ∀ j ∈ s.members, 1 ≤ j ∧ j ≤ s.cfg.memberCount ∧ j ≠ s.rank := by
      intro j hj
      obtain ⟨e, he, rfl⟩ := List.mem_map.1 hj
      exact hroster e he
    have hk' : ListKept t.cfg.memberCount t.rank t.trips.records := by
      rw [h.cfg, h.rank]
      exact h.records.kept (Nat.le_add_left 1 _) hrank hmem hk
    refine ⟨hreset', hk'.keys, h.cfg ▸ hn, fun hi => ?_, fun _ => ⟨?_, fun e he => ?_⟩, hk'.own, hk'.fits⟩
    · exact absurd (h.working.trans hw |>.symm.trans hi) (by decide)
    · rw [h.rank, h.cfg]
      exact hrank
    · unfold State.otherMember
      rw [h.rank, h.cfg]
      exact hmem e.rank (h.members ▸ List.mem_map_of_mem he)
  · have hw : s.working = false := by simpa using hw
    refine listBounded_of_empty t hreset' (h.cfg ▸ hn) ((h.idle hw).trans (hidle hw)) fun ht => ?_
    exact absurd (h.working.trans hw |>.symm.trans ht) (by decide)

theorem resetIsLoading_of_phase (s : State) (h : s.phase = .LOADING) : ResetIsLoading s := fun _ => h

theorem not_working_of_loading {s : State} (h : s.phase = .LOADING) : s.working = false := by
  simp [State.working, h, Phase.working]

theorem ListOutcome.bounded {s t : State} (h : ListOutcome s t) (hs : ListBounded s) : ListBounded t := by
  obtain ⟨hreset, _, hn, hidle, _, _, _⟩ := id hs
  cases h with
  | moved h => exact h.bounded hs
  | emptied hr hp hc =>
      refine listBounded_of_empty t (fun _ => hp) (by simp [hc, Cfg.none]) hr fun hw => ?_
      exact absurd ((not_working_of_loading hp).symm.trans hw) (by decide)
  | loading hlow ht =>
      have hr : s.trips.records = [] := hidle (not_working_of_loading (hreset hlow))
      exact ht ▸ listBounded_of_empty (beginLoading s) (fun _ => rfl) hn hr fun hw => Bool.noConfusion hw
  | loaded i ht =>
      subst ht
      rcases endLoading_cases i s with e | ⟨l, hp, hlow, hout⟩
      · rw [e]
        exact hs
      · have hr : s.trips.records = [] := hidle (not_working_of_loading hp)
        rcases hout with e | ⟨b, hb, hrank, hscope⟩
        · rw [e]
          exact listBounded_of_empty _ (fun h => absurd (hlow.symm.trans h) (by decide)) (Nat.zero_le _) hr
            fun hw => Bool.noConfusion hw
        · refine StepScope.bounded ⟨hscope, fun h => Bool.noConfusion h⟩ (listBounded_of_empty _ ?_ hb hr ?_)
          · exact fun h => absurd (hlow.symm.trans h) (by decide)
          · refine fun _ => ⟨hrank, fun e he => ?_⟩
            have hmem := List.mem_map_of_mem (f := (·.rank)) he
            rw [show (enterForming (Cfg.ofBlock b) l (s.withStore (s.store.read i.block))).roster =
              formRoster (Cfg.ofBlock b).memberCount (l.strap.toNat + 1) s.roster from rfl, formRoster_ranks] at hmem
            exact (mem_rosterRanks _ _ _).1 hmem

/-- Settles O60: with the keys apart there are no more own records than own conditions, so an own addition takes its place from
the reserve, and a member's record joins only beside it. -/
theorem stepKeepsListBounded : Obligations.StepKeepsListBounded := by
  intro s t hs hstep
  obtain ⟨rest, ho⟩ := step_outcome s t hstep
  exact ho.bounded hs

end Sys2Proof.Machine
end

section
/-!
SUPPORT. A change of the list that reports nothing, the clearing of a condition, and CLEAR TRIPPED (R11, R22, R23, R52, R53, R193).
-/
namespace Sys2Proof.Machine

/-! ### A change that reports nothing -/

/-- With the keys apart a record is found under its own key (R5). -/
theorem findRecord_of_mem {l : List Record} {r : Record} (hk : (l.map Record.key).Nodup) (hr : r ∈ l) :
    findRecord r.origin r.kind r.subject l = some r := by
  obtain ⟨o, ho⟩ : ∃ o, findRecord r.origin r.kind r.subject l = some o := by
    rw [← Option.isSome_iff_exists, Option.isSome_iff_ne_none]
    exact fun h => (findRecord_none_iff ..).1 h (List.mem_map_of_mem hr)
  have hkey : o.key = r.key := (Record.hasKey_iff ..).1 (List.find?_some ho)
  rw [ho, List.inj_on_of_nodup_map hk (List.mem_of_find?_eq_some ho) hr hkey]

theorem raise_zero (limit : Nat) (b : Budget) : b.raise limit 0 = b := by
  have h : raiseCount limit b.count 0 = b.count := by
    unfold raiseCount
    split
    · rfl
    · rw [Nat.add_zero, Nat.min_eq_left (by omega)]
  simp [Budget.raise, h]

/-- A list in which no record is offered leaves the budget and the list as they are (R23). -/
theorem takeOffers_of_none (ch : Change) (s : State) (h : ∀ r ∈ s.trips.records, r.offeredIn s.rank ch = false) :
    takeOffers ch s = s := by
  have hfilter : s.trips.records.filter (Record.offeredIn s.rank ch) = [] :=
    List.filter_eq_nil_iff.2 fun r hr => by simp [h r hr]
  have hmap : (s.trips.records.map fun r => if r.offeredIn s.rank ch then { r with counted := true } else r) =
      s.trips.records := by
    conv_rhs => rw [← List.map_id s.trips.records]
    exact List.map_congr_left fun r hr => by simp [h r hr]
  unfold takeOffers
  split
  · simp only [hfilter, hmap, List.length_nil, raise_zero]
    rfl
  · rfl

theorem forPaths_empty (f : Path → State → State) (s : State) : forPaths .empty f s = s := rfl

/-- Nothing is reported of a change that offers no record, blocks no path and gives no record ACTIVE phase or a new trip id
(R22, R23, R116). -/
theorem listReport_of_silent (ch : Change) (s : State) (hoffer : ∀ r ∈ s.trips.records, r.offeredIn s.rank ch = false)
    (hblock : newlyBlocked ch.before s.trips.records = .empty)
    (hgain : ∀ r ∈ s.trips.records, r.gainedIn s.rank ch = false) : listReport ch s = s := by
  have hends (ps : PathSet) : endsRound s.rank ch s.trips.records ps = false := by
    unfold endsRound
    rw [hblock, Bool.or_eq_false_iff, List.any_eq_false]
    exact ⟨rfl, fun r hr => by simp [hgain r hr]⟩
  unfold listReport
  simp only [takeOffers_of_none ch s hoffer, hblock, forPaths_empty, hends]
  split <;> rfl

/-- The record keeps its key and trip id, and where it is ACTIVE it was so before on the same paths. -/
structure Fades (f : Record → Record) (r : Record) : Prop where
  key : (f r).key = r.key
  tripId : (f r).tripId = r.tripId
  active : (f r).phase = .ACTIVE → r.phase = .ACTIVE ∧ (f r).paths = r.paths

theorem Fades.newIn {f : Record → Record} {l : List Record} {r : Record} (own : Nat) (h : Fades f r)
    (hk : (l.map Record.key).Nodup) (hr : r ∈ l) : (f r).newIn own { before := l, activated := [] } = false := by
  have hkey := h.key
  simp only [Record.key, Prod.mk.injEq] at hkey
  obtain ⟨ho, hkind, hs⟩ := hkey
  unfold Record.newIn
  rw [ho, hkind, hs, findRecord_of_mem hk hr, h.tripId]
  simp

theorem Fades.gainedIn {f : Record → Record} {l : List Record} {r : Record} (own : Nat) (h : Fades f r)
    (hk : (l.map Record.key).Nodup) (hr : r ∈ l) : (f r).gainedIn own { before := l, activated := [] } = false := by
  have hkey := h.key
  simp only [Record.key, Prod.mk.injEq] at hkey
  obtain ⟨ho, hkind, hs⟩ := hkey
  unfold Record.gainedIn Record.reactivatedIn
  rw [h.newIn own hk hr, ho, hkind, hs, findRecord_of_mem hk hr]
  cases hp : (f r).phase with
  | ACTIVE => simp [(h.active hp).1]
  | CLEARED => rfl

/-- Records that fade block no path that was not blocked (R2). -/
theorem blockedBy_of_fades (f : Record → Record) (l : List Record) (h : ∀ r ∈ l, Fades f r) (p : Path)
    (hp : blockedBy (l.map f) p = true) : blockedBy l p = true := by
  obtain ⟨x, hx, hb⟩ := List.any_eq_true.1 hp
  obtain ⟨r, hr, rfl⟩ := List.mem_map.1 hx
  simp only [Record.blocks, Bool.and_eq_true, beq_iff_eq] at hb
  obtain ⟨hphase, hpaths⟩ := (h r hr).active hb.1
  exact List.any_eq_true.2 ⟨r, hr, by simp [Record.blocks, hphase, ← hpaths, hb.2]⟩

theorem newlyBlocked_empty (before after : List Record)
    (h : ∀ p, blockedBy after p = true → blockedBy before p = true) : newlyBlocked before after = .empty := by
  have key (p : Path) : (blockedBy after p && !blockedBy before p) = false := by
    cases ha : blockedBy after p with
    | false => rfl
    | true => simp [h p ha]
  simp [newlyBlocked, PathSet.empty, key]

/-- Records that fade are reported to no block (R22, R23). -/
theorem listReport_of_fades (l : List Record) (f : Record → Record) (s : State) (hk : (l.map Record.key).Nodup)
    (hf : ∀ r ∈ l, Fades f r) (hs : s.trips.records = l.map f) :
    listReport { before := l, activated := [] } s = s := by
  refine listReport_of_silent _ s ?_ ?_ ?_
  · intro x hx
    obtain ⟨r, hr, rfl⟩ := List.mem_map.1 (hs ▸ hx)
    simp [Record.offeredIn, (hf r hr).newIn s.rank hk hr]
  · exact newlyBlocked_empty _ _ fun p hp => blockedBy_of_fades f l hf p (hs ▸ hp)
  · intro x hx
    obtain ⟨r, hr, rfl⟩ := List.mem_map.1 (hs ▸ hx)
    exact (hf r hr).gainedIn s.rank hk hr

/-- With the keys apart, a condition that turns QUIET has its record CLEARED, and nothing more (R11). -/
theorem clearCond_eq (id : CondId) (s : State) (hk : UniqueKeys s) :
    clearCond id s = clearOwn id (s.withConds (s.conds.set id .quiet)) := by
  refine listReport_of_fades s.trips.records
    (fun r => if r.hasKey s.rank id.kind id.subject then { r with phase := .CLEARED } else r) _ hk (fun r _ => ?_) rfl
  refine ⟨?_, ?_, ?_⟩
  · split <;> rfl
  · split <;> rfl
  · split
    · exact RecPhase.noConfusion
    · exact fun h => ⟨h, rfl⟩

/-! ### Requests from outside the roster -/

theorem CondReach.rank {s t : State} (h : CondReach s t) : t.rank = s.rank := by
  unfold State.rank
  rw [h]

theorem CondReach.roster {s t : State} (h : CondReach s t) : t.roster = s.roster := by
  rw [h]

/-- Two acts that commute need no order. -/
theorem inAnyOrder_pair (f g : State → State) (s : State) (h : f (g s) = g (f s)) : inAnyOrder [f, g] s = g (f s) := by
  simp [inAnyOrder, permutations, insertEverywhere, runAll, h]

/-- A frame from a rank outside the roster that is not the own one leaves the membership unit as it is (R79). -/
theorem membershipTakes_of_stranger (f : RxFrame) (s : State) (hown : f.src.toNat ≠ s.rank)
    (hnone : s.entry f.src.toNat = none) : membershipTakes f s = s := by
  simp [membershipTakes, hown, hnone]

theorem rank_le (s : State) : s.rank ≤ 16 := by
  have := s.load.strap.isLt
  unfold State.rank
  omega

theorem settle_of_link (s t : State) (h : t = s.withLink t.link) : settle s t = t := by
  refine settle_same s t ?_
  rw [h]
  rfl

/-! ### CLEAR TRIPPED -/

/-- The station that has counted the frame. -/
def State.heard (s : State) : State := s.count Counters.good

theorem serve_clearTripped (tag kind subject : Byte) (s : State) :
    serve [10, tag, kind, subject] s = serveClearTripped [kind, subject] s := by
  simp [serve, serveCode, requestLength]

/-- The reply of a CLEAR TRIPPED, with its status and reason (R182, R193). -/
def clearReply (h : ReqHead) (r : Served) : TxFrame :=
  { dst := h.src, content := .reply [10, h.tag, byteOf r.status, byteOf r.reason], collisions := 0 }

/-- The station that has placed a reply. -/
def State.replying (s : State) (f : TxFrame) : State := s.withLink { s.link with reply := some f }

theorem serveClearTripped_data (args : List Byte) (s : State) : (serveClearTripped args s).data = [] := by
  unfold serveClearTripped
  repeat' split
  all_goals rfl

/-- What carrying out a CLEAR TRIPPED may leave of the station: itself, or itself with a condition cleared. -/
theorem serveClearTripped_state (args : List Byte) (s : State) :
    (serveClearTripped args s).state = s ∨ s.working = true ∧ ∃ id, (serveClearTripped args s).state = clearCond id s := by
  unfold serveClearTripped
  split
  · exact .inl rfl
  · rename_i id _
    split
    · exact .inl rfl
    · rename_i hw
      repeat' split
      · exact .inl rfl
      · exact .inl rfl
      · exact .inr ⟨by simpa using hw, id, rfl⟩

theorem takeRequest_clearTripped (h : ReqHead) (kind subject : Byte) (s : State) :
    takeRequest h.src [10, h.tag, kind, subject] s =
      (serveClearTripped [kind, subject] s).state.replying (clearReply h (serveClearTripped [kind, subject] s)) := by
  have hpay : replyPayload [10, h.tag, kind, subject] (serveClearTripped [kind, subject] s) =
      [10, h.tag, byteOf (serveClearTripped [kind, subject] s).status, byteOf (serveClearTripped [kind, subject] s).reason] := by
    simp [replyPayload, padded, serveClearTripped_data]
  unfold takeRequest
  simp only [serve_clearTripped, hpay]
  rfl

/-- A CLEAR TRIPPED from outside the roster is served on the station that counted it, and the closing checks follow. -/
theorem exec_clearTripped (h : ReqHead) (kind subject : Byte) (s : State) (hphase : s.phase ≠ .LOADING)
    (hlisten : s.link.discarding = false) (hsrc : rankByteOk h.src = true) (hdst : h.dst.toNat = s.rank)
    (hown : h.src.toNat ≠ s.rank) (hnone : s.entry h.src.toNat = none) (hslot : s.link.reply = none) :
    exec (.clearTripped h [kind, subject]) s = .next (settle s.heard
      ((serveClearTripped [kind, subject] s.heard).state.replying
        (clearReply h (serveClearTripped [kind, subject] s.heard)))) := by
  have hvalid : (requestFrame 10 h [kind, subject]).valid = true := by
    have h1 : 1 ≤ h.src.toNat ∧ h.src.toNat ≤ 20 := by simpa [rankByteOk] using hsrc
    have h2 : 1 ≤ h.dst.toNat ∧ h.dst.toNat ≤ 20 := by
      have := rank_le s
      have : 1 ≤ s.rank := Nat.le_add_left 1 _
      omega
    simp [RxFrame.valid, requestFrame, Content.dstOk, Content.bodyOk, h1, h2]
  have hserve (u : State) (hr : u.rank = s.rank) (hl : u.link.reply = none) :
      serviceTakes (requestFrame 10 h [kind, subject]) u =
        (serveClearTripped [kind, subject] u).state.replying (clearReply h (serveClearTripped [kind, subject] u)) := by
    rw [← takeRequest_clearTripped]
    have h1 : ¬ (h.dst.toNat ≠ u.rank ∨ h.src.toNat = u.rank) := by
      rw [hr]
      exact fun hor => hor.elim (fun e => e hdst) hown
    unfold serviceTakes requestFrame
    simp only [if_neg h1, hl]
    rfl
  have hmember (u : State) (hr : u.rank = s.rank) (hu : u.roster = s.roster) :
      membershipTakes (requestFrame 10 h [kind, subject]) u = u :=
    membershipTakes_of_stranger _ u (hr ▸ hown) (by unfold State.entry; rw [hu]; exact hnone)
  have hreach : CondReach s.heard (serveClearTripped [kind, subject] s.heard).state := by
    rcases serveClearTripped_state [kind, subject] s.heard with e | ⟨_, id, e⟩
    · rw [e]; exact .refl _
    · rw [e]; exact clearCond_reach id _
  have hserved := hserve s.heard rfl hslot
  have hpair : inAnyOrder (takers (requestFrame 10 h [kind, subject])) s.heard =
      serviceTakes (requestFrame 10 h [kind, subject]) s.heard := by
    have h1 := hmember s.heard rfl rfl
    have h2 : membershipTakes (requestFrame 10 h [kind, subject])
        (serviceTakes (requestFrame 10 h [kind, subject]) s.heard) =
        serviceTakes (requestFrame 10 h [kind, subject]) s.heard := by
      rw [hserved]
      exact hmember _ hreach.rank hreach.roster
    exact (inAnyOrder_pair _ _ _ (h2.trans (congrArg _ h1.symm))).trans (congrArg _ h1)
  have hexec : exec (.clearTripped h [kind, subject]) s = .next (receive (requestFrame 10 h [kind, subject]) s) := rfl
  have hrec : receive (requestFrame 10 h [kind, subject]) s = distribute (requestFrame 10 h [kind, subject]) s.heard := by
    rw [receive_listening _ s hphase hlisten, if_pos hvalid]
    rfl
  rw [hexec, hrec]
  have hp : s.heard.phase = s.phase := rfl
  unfold distribute
  cases hcase : s.phase with
  | LOADING => exact absurd hcase hphase
  | HALTED =>
      rw [hp, hcase, hserved]
      refine congrArg _ (settle_of_link _ _ ?_).symm
      rcases serveClearTripped_state [kind, subject] s.heard with e | ⟨hw, _⟩
      · rw [e]
        rfl
      · simp [State.working, hp, hcase, Phase.working] at hw
  | FORMING => rw [hp, hcase, hpair, hserved]
  | OPERATING => rw [hp, hcase, hpair, hserved]
  | CONFINED => rw [hp, hcase, hpair, hserved]

/-! ### The checks of R193, in order -/

theorem clearTarget_of_noKind (kind subject : Nat) (s : State) (h : Kind.ofCode kind = none) :
    clearTarget kind subject s = none := by
  simp [clearTarget, h]

theorem clearTarget_of_kind (kind subject : Nat) (k : Kind) (s : State) (h : Kind.ofCode kind = some k) :
    clearTarget kind subject s =
      if k = .memberLost then (if s.isRosterRank subject then some (lostCond subject) else none)
      else if subject = 0 then some (ownCond k) else none := by
  simp [clearTarget, h]

/-- The checks after the condition is named. -/
theorem serveClearTripped_named (kind subject : Byte) (id : CondId) (s : State)
    (h : clearTarget kind.toNat subject.toNat s = some id) :
    serveClearTripped [kind, subject] s =
      if !s.working then .refused 2 s
      else if !(s.conds.get id).clearable then .refused 3 s
      else if !recoveryTest id s then .refused 4 s
      else .done [] (clearCond id s) := by
  unfold serveClearTripped
  simp only [List.headD_cons, List.drop_succ_cons, List.drop_zero, h]

theorem serveClearTripped_unnamed (kind subject : Byte) (s : State)
    (h : clearTarget kind.toNat subject.toNat s = none) : serveClearTripped [kind, subject] s = .refused 1 s := by
  unfold serveClearTripped
  simp only [List.headD_cons, List.drop_succ_cons, List.drop_zero, h]

theorem Cond.clearable_iff (c : Cond) : c.clearable = true ↔ c.state = .TRIPPED ∨ c.state = .SETTLING := by
  simp [Cond.clearable]

theorem Cond.not_clearable (c : Cond) (h : c.state = .QUIET ∨ c.state = .WATCH) : c.clearable = false := by
  rcases h with h | h <;> simp [Cond.clearable, h]

theorem working_of_phase_ne {s : State} (h1 : s.phase ≠ .LOADING) (h2 : s.phase ≠ .HALTED) : s.working = true := by
  unfold State.working
  cases hp : s.phase with
  | LOADING => exact absurd hp h1
  | HALTED => exact absurd hp h2
  | FORMING => rfl
  | OPERATING => rfl
  | CONFINED => rfl

/-- A refused CLEAR TRIPPED leaves the station with the reply placed and the frame counted, and no more. -/
theorem settle_refused (h : ReqHead) (reason : Nat) (s : State) (r : Served) (hr : r = .refused reason s.heard) :
    settle s.heard (r.state.replying (clearReply h r)) =
      { s with link := { s.link with
        reply := some { dst := h.src, content := .reply [10, h.tag, 2, byteOf reason], collisions := 0 }
        counters := { s.link.counters with framesGood := min (s.link.counters.framesGood + 1) 65535 } } } := by
  rw [hr]
  exact settle_of_link _ _ rfl

/-- A CLEAR TRIPPED moves no switch, no line and no phase, whatever it answers. -/
theorem serveClearTripped_frame (args : List Byte) (s : State) (hk : UniqueKeys s) :
    (serveClearTripped args s).state.charge = s.charge ∧ (serveClearTripped args s).state.discharge = s.discharge ∧
    (serveClearTripped args s).state.stop = s.stop ∧ (serveClearTripped args s).state.phase = s.phase := by
  rcases serveClearTripped_state args s with e | ⟨_, id, e⟩
  · rw [e]
    exact ⟨rfl, rfl, rfl, rfl⟩
  · rw [e, clearCond_eq id s hk]
    exact ⟨rfl, rfl, rfl, rfl⟩

/-! ### The recovery tests (R52) -/

theorem foldl_max_le (l : List Nat) (a b : Nat) : l.foldl max a ≤ b ↔ a ≤ b ∧ ∀ v ∈ l, v ≤ b := by
  induction l generalizing a with
  | nil => simp
  | cons x xs ih => simp [ih, and_assoc]

theorem le_foldl_min (l : List Nat) (a b : Nat) : b ≤ l.foldl min a ↔ b ≤ a ∧ ∀ v ∈ l, b ≤ v := by
  induction l generalizing a with
  | nil => simp
  | cons x xs ih => simp [ih, and_assoc]

theorem highest_le (r : ScanResult) (b : Nat) : r.highest ≤ b ↔ ∀ v ∈ r.cells, v ≤ b := by
  simp [ScanResult.highest, foldl_max_le]

theorem le_lowest (r : ScanResult) (b : Nat) (hb : 0 < b) : b ≤ r.lowest ↔ r.cells ≠ [] ∧ ∀ v ∈ r.cells, b ≤ v := by
  unfold ScanResult.lowest
  cases r.cells with
  | nil => simp; omega
  | cons x xs => simp [le_foldl_min]

theorem testScan_iff (s : State) (f : ScanResult → Bool) :
    testScan s f = true ↔ ∃ r, s.meas.scan = some r ∧ f r = true := by
  unfold testScan
  cases s.meas.scan <;> simp

/-- A configuration in its ranges has a CELL LOW threshold above 0 (R197). -/
theorem cellLow_pos (c : Cfg) (h : c.rangesOk = true) : 0 < c.cellLow := by
  unfold Cfg.rangesOk inRange at h
  simp only [Bool.and_eq_true, decide_eq_true_eq] at h
  omega

/-- The recovery test of each kind (R52; log entry 25). -/
theorem recoveryTest_iff (id : CondId) (s : State) (hlow : 0 < s.cfg.cellLow) :
    recoveryTest id s = true ↔
      match id.kind with
      | .cellHigh => ∃ r, s.meas.scan = some r ∧ ∀ v ∈ r.cells, v ≤ s.cfg.cellHigh - s.cfg.cellHighHyst
      | .cellLow =>
          ∃ r, s.meas.scan = some r ∧ r.cells ≠ [] ∧ ∀ v ∈ r.cells, s.cfg.cellLow + s.cfg.cellLowHyst ≤ v
      | .chargeOvercurrent => ∃ x, s.meas.sample = some x ∧ x ≤ 100 * (s.cfg.ocThreshold : Int)
      | .dischargeOvercurrent => ∃ x, s.meas.sample = some x ∧ -(100 * (s.cfg.odThreshold : Int)) ≤ x
      | .short => s.meas.comparator = false ∧ s.stop.driving = false
      | .moduleHot => ∃ r, s.meas.scan = some r ∧ ∀ x ∈ r.codes, s.cfg.hotRecovery ≤ x
      | .moduleCold => ∃ r, s.meas.scan = some r ∧ ∀ x ∈ r.codes, x ≤ s.cfg.coldRecovery
      | .dieHot => ∃ r, s.meas.scan = some r ∧ r.die ≤ (s.cfg.dieRecovery : Int)
      | .imbalance =>
          ∃ d, s.conds.imbalanceEval = some d ∧ d.1 ≤ (s.cfg.imbalanceThreshold * 10 - s.cfg.imbalanceHyst) * d.2
      | .senseMismatch => ∃ d, s.conds.mismatchEval = some d ∧ d ≤ s.cfg.mismatchThreshold * 10
      | .switchFault => s.charge.state = .OPEN ∧ s.discharge.state = .OPEN
      | .memberLost => ∃ j, id.subject = some j ∧ (s.entry j).map (·.status) = some .PRESENT
      | .hold => s.conds.hold.state ≠ .TRIPPED
      | .unexplainedStop => s.stop.sense = false := by
  obtain ⟨kind, subject⟩ := id
  unfold recoveryTest
  cases kind with
  | cellHigh => simp [testScan_iff, highRecovers, highest_le]
  | cellLow => simp [testScan_iff, lowRecovers, le_lowest _ (s.cfg.cellLow + s.cfg.cellLowHyst) (by omega)]
  | chargeOvercurrent => cases s.meas.sample <;> simp [ocTrips, mul_comm]
  | dischargeOvercurrent => cases s.meas.sample <;> simp [odTrips, mul_comm]
  | short => simp
  | moduleHot => simp [testScan_iff, hotRecovers]
  | moduleCold => simp [testScan_iff, coldRecovers]
  | dieHot => simp [testScan_iff, dieRecovers]
  | imbalance => cases s.conds.imbalanceEval <;> simp [imbalanceRecovers, deviationAbove]
  | senseMismatch => cases s.conds.mismatchEval <;> simp [mismatchTrips]
  | switchFault => simp
  | memberLost =>
      cases subject with
      | none => simp
      | some j => cases h : s.entry j <;> simp [h]
  | hold => simp
  | unexplainedStop => simp

/-- Settles O48: the frame is served between two acts that commute, each failing check answers its reason with the station as it
was, and where all pass the cleared condition's record fades without a report. -/
theorem clearTrippedClears : Obligations.ClearTrippedClears := by
  refine ⟨fun h kind subject s hphase hlisten hkeys hsrc hdst hown hnone hslot => ?_,
    fun id s hwork hformed => recoveryTest_iff id s (cellLow_pos _ ?_)⟩
  · refine ⟨_, exec_clearTripped h kind subject s hphase hlisten hsrc hdst hown hnone hslot, ?_⟩
    have hrefuse (reason : Nat) := settle_refused h reason s (serveClearTripped [kind, subject] s.heard)
    have hframe := serveClearTripped_frame [kind, subject] s.heard hkeys
    have hunnamed := serveClearTripped_unnamed kind subject s.heard
    refine ⟨fun hk => hrefuse 1 (hunnamed (clearTarget_of_noKind _ _ _ hk)), fun k hk => ?_, ?_⟩
    · have htarget := clearTarget_of_kind kind.toNat subject.toNat k s.heard hk
      have hroster : s.heard.isRosterRank subject.toNat = (s.entry subject.toNat).isSome := rfl
      refine ⟨fun hplain hsubject => hrefuse 1 (hunnamed ?_), fun hlost hentry => hrefuse 1 (hunnamed ?_), fun id hid => ?_⟩
      · rw [htarget, if_neg hplain, if_neg fun e : subject.toNat = 0 => hsubject (BitVec.eq_of_toNat_eq e)]
      · rw [htarget, if_pos hlost, hroster, hentry]
        rfl
      · have hnamed : clearTarget kind.toNat subject.toNat s.heard = some id := by
          rcases hid with ⟨hplain, hsubject, rfl⟩ | ⟨hlost, hentry, rfl⟩
          · rw [htarget, if_neg hplain, hsubject]
            rfl
          · rw [htarget, if_pos hlost, hroster, if_pos (Option.isSome_iff_ne_none.2 hentry)]
        have hserve := serveClearTripped_named kind subject id s.heard hnamed
        have hwork (hh : s.phase ≠ .HALTED) : (!s.heard.working) = false := by
          simp [working_of_phase_ne (s := s.heard) hphase hh]
        have hclear (hc : (s.conds.get id).state = .TRIPPED ∨ (s.conds.get id).state = .SETTLING) :
            (!(s.heard.conds.get id).clearable) = false := by
          simp [(Cond.clearable_iff (s.heard.conds.get id)).2 hc]
        refine ⟨fun hh => hrefuse 2 ?_, fun hh hc => hrefuse 3 ?_, fun hh hc ht => hrefuse 4 ?_, fun hh hc ht => ?_⟩
        · have hidle : s.heard.working = false := by
            unfold State.working
            rw [show s.heard.phase = .HALTED from hh]
            rfl
          simp [hserve, hidle]
        · simp [hserve, hwork hh, Cond.not_clearable (s.heard.conds.get id) hc]
        · have ht : recoveryTest id s.heard = false := ht
          simp [hserve, hwork hh, hclear hc, ht]
        · have ht : (!recoveryTest id s.heard) = false := by
            simp [show recoveryTest id s.heard = true from ht]
          have hdone : serveClearTripped [kind, subject] s.heard = .done [] (clearCond id s.heard) := by
            rw [hserve, hwork hh, hclear hc, ht]
            rfl
          rw [hdone]
          simp only [settle_link_reply, settle_conds, settle_trips, Served.done, clearCond_eq id s.heard hkeys]
          refine ⟨rfl, rfl, ?_⟩
          have hkey (r : Record) : (r.hasKey s.rank id.kind id.subject = true) =
              (r.origin = s.rank ∧ r.kind = id.kind ∧ r.subject = id.subject) := by
            simp [Record.hasKey, and_assoc]
          simp only [← hkey]
          rfl
    · simp only [settle_charge, settle_discharge, settle_stop, settle_phase]
      exact hframe
  · obtain ⟨_, _, hloaded, _⟩ := hformed
    exact (hloaded hwork).1

end Sys2Proof.Machine
end

section
/-!
SUPPORT. What taking a frame may do to the switches and the round: switches only open, and a round is kept as it is or left once,
by the rules of R116, R118 and R120.
-/
namespace Sys2Proof.Machine

/-! ### Keeping and leaving a round -/

/-- The round and what belongs to it stay. -/
structure RoundKept (s t : State) : Prop where
  round : t.reclose.round = s.reclose.round
  leftRound : t.reclose.leftRound = s.reclose.leftRound
  hold : ∀ p, t.reclose.holdOff p = s.reclose.holdOff p
  frames : t.link.rounds = s.link.rounds
  abandoned : t.link.counters.roundsAbandoned = s.link.counters.roundsAbandoned

/-- The station, in the round `r`, has left it for a cause of its own. -/
structure RoundLeft (r : Round) (s t : State) : Prop where
  round : t.reclose.round = none
  leftRound : t.reclose.leftRound = if r.stage = .ANSWERED then some (r.number, r.coordinator) else s.reclose.leftRound
  hold : ∀ p, r.paths.has p = true → t.reclose.holdOff p = .running s.cfg.holdOffTime
  frames : t.link.rounds =
    if r.sendsAbandon then (s.link.queueRound 0 (.abandon (byteOf r.number))).rounds else s.link.rounds
  abandoned : t.link.counters.roundsAbandoned = min (s.link.counters.roundsAbandoned + 1) 65535
  off : ∀ p, r.closedSet.has p = true → (t.switch p).isOff

/-- A course of events in which switches only open and a round is at most left. -/
structure Course (s t : State) : Prop where
  cfg : t.cfg = s.cfg
  switch : ∀ p, t.switch p = s.switch p ∨ (t.switch p).isOff
  round : RoundKept s t ∨ ∃ r, s.reclose.round = some r ∧ RoundLeft r s t

theorem RoundKept.trans {s t u : State} (h : RoundKept s t) (g : RoundKept t u) : RoundKept s u :=
  ⟨g.round.trans h.round, g.leftRound.trans h.leftRound, fun p => (g.hold p).trans (h.hold p), g.frames.trans h.frames,
    g.abandoned.trans h.abandoned⟩

theorem Course.keeps_isOff {s t : State} (h : Course s t) (p : Path) (hp : (s.switch p).isOff) : (t.switch p).isOff := by
  rcases h.switch p with e | e
  · rw [e]
    exact hp
  · exact e

/-- Once IDLE, a station stays so. -/
theorem Course.keeps_idle {s t : State} (h : Course s t) (hs : s.reclose.round = none) : t.reclose.round = none := by
  rcases h.round with k | ⟨r, hr, _⟩
  · exact k.round.trans hs
  · exact absurd (hs.symm.trans hr) (by simp)

theorem Course.round_or_idle {s t : State} (h : Course s t) :
    t.reclose.round = s.reclose.round ∨ t.reclose.round = none := by
  rcases h.round with k | ⟨_, _, l⟩
  · exact .inl k.round
  · exact .inr l.round

theorem Course.left {s t : State} {r : Round} (h : Course s t) (hs : s.reclose.round = some r)
    (ht : t.reclose.round = none) : RoundLeft r s t := by
  rcases h.round with k | ⟨r', hr', l⟩
  · exact absurd (ht.symm.trans (k.round.trans hs)) (by simp)
  · rw [hs, Option.some.injEq] at hr'
    exact hr' ▸ l

theorem Course.trans {s t u : State} (h : Course s t) (g : Course t u) : Course s u := by
  refine ⟨g.cfg.trans h.cfg, fun p => ?_, ?_⟩
  · rcases g.switch p with e | e
    · rcases h.switch p with e' | e'
      · exact .inl (e.trans e')
      · exact .inr (e ▸ e')
    · exact .inr e
  · rcases h.round with k | ⟨r, hr, l⟩
    · rcases g.round with k' | ⟨r, hr, l⟩
      · exact .inl (k.trans k')
      · refine .inr ⟨r, k.round ▸ hr, l.round, ?_, fun p hp => ?_, ?_, ?_, l.off⟩
        · rw [l.leftRound, k.leftRound]
        · rw [l.hold p hp, h.cfg]
        · rw [l.frames, Link.queueRound_rounds, Link.queueRound_rounds, k.frames]
        · rw [l.abandoned, k.abandoned]
    · have k' : RoundKept t u := by
        rcases g.round with k' | ⟨r', hr', _⟩
        · exact k'
        · exact absurd (l.round.symm.trans hr') (by simp)
      exact .inr ⟨r, hr, k'.round.trans l.round, k'.leftRound.trans l.leftRound,
        fun p hp => (k'.hold p).trans (l.hold p hp), k'.frames.trans l.frames, k'.abandoned.trans l.abandoned,
        fun p hp => g.keeps_isOff p (l.off p hp)⟩

/-- What touches neither switches nor rounds nor link nor configuration is a course. -/
theorem course_of_same {s t : State} (hcfg : t.cfg = s.cfg) (hc : t.charge = s.charge) (hd : t.discharge = s.discharge)
    (hr : t.reclose = s.reclose) (hl : t.link = s.link) : Course s t := by
  refine ⟨hcfg, fun p => .inl ?_, .inl ⟨?_, ?_, ?_, ?_, ?_⟩⟩
  · cases p
    · exact hc
    · exact hd
  · rw [hr]
  · rw [hr]
  · exact fun p => by rw [hr]
  · rw [hl]
  · rw [hl]

theorem Course.refl (s : State) : Course s s := course_of_same rfl rfl rfl rfl rfl

/-! ### Departures and open commands -/

theorem holdOffs_after (ps : PathSet) (s : State) (q : Path) (h : ps.has q = true) :
    (forPaths ps startHoldOff s).reclose.holdOff q = .running s.cfg.holdOffTime := by
  obtain ⟨c, d⟩ := ps
  cases c <;> cases d <;> cases q <;> first | rfl | exact absurd h Bool.noConfusion

theorem openClosedSet_same (r : Round) (s : State) :
    (openClosedSet r s).reclose = s.reclose ∧ (openClosedSet r s).link = s.link ∧ (openClosedSet r s).cfg = s.cfg :=
  ⟨forPaths_keeps State.reclose _ _ (fun p t => t.setSwitch_reclose p _) s,
    forPaths_keeps State.link _ _ (fun p t => t.setSwitch_link p _) s,
    forPaths_keeps State.cfg _ _ (fun p t => t.setSwitch_cfg p _) s⟩

theorem endRound_link (r : Round) (s : State) : (endRound r s).link = s.link :=
  (forPaths_keeps State.link r.paths startHoldOff (fun _ _ => rfl) _).trans (openClosedSet_same r s).2.1

theorem endRound_leftRound (r : Round) (s : State) : (endRound r s).reclose.leftRound = s.reclose.leftRound := by
  have h : (forPaths r.paths startHoldOff (openClosedSet r s)).reclose.leftRound =
      (openClosedSet r s).reclose.leftRound :=
    forPaths_keeps (·.reclose.leftRound) r.paths _ (fun p _ => by cases p <;> rfl) _
  exact h.trans (congrArg Reclose.leftRound (openClosedSet_same r s).1)

theorem endRound_hold (r : Round) (s : State) (p : Path) (hp : r.paths.has p = true) :
    (endRound r s).reclose.holdOff p = .running s.cfg.holdOffTime := by
  have h := holdOffs_after r.paths (openClosedSet r s) p hp
  rw [(openClosedSet_same r s).2.2] at h
  rw [← h]
  cases p <;> rfl

/-- What leaving a round for a cause of its own does (R100, R116, R118, R120). -/
theorem leaveRound_left (s : State) (r : Round) (hr : s.reclose.round = some r) : RoundLeft r s (leaveRound s) := by
  have heq : leaveRound s = (endRound r (rememberLeft r
      (if r.sendsAbandon then sendRound (.abandon (byteOf r.number)) s else s))).count Counters.abandoned := by
    unfold leaveRound State.round
    simp only [hr]
  have hsent : (if r.sendsAbandon then sendRound (.abandon (byteOf r.number)) s else s) =
      s.withLink (if r.sendsAbandon then s.link.queueRound 0 (.abandon (byteOf r.number)) else s.link) := by
    split <;> rfl
  have habandoned (l : Link) (dst : Byte) (c : Content) :
      (l.queueRound dst c).counters.roundsAbandoned = l.counters.roundsAbandoned := by
    rw [Link.queueRound_frame]
  rw [heq, hsent]
  generalize hlink : (if r.sendsAbandon then s.link.queueRound 0 (.abandon (byteOf r.number)) else s.link) = l
  have hremembered : rememberLeft r (s.withLink l) = (s.withLink l).withReclose { s.reclose with
      leftRound := if r.stage = .ANSWERED then some (r.number, r.coordinator) else s.reclose.leftRound } := by
    unfold rememberLeft
    split <;> rfl
  rw [hremembered]
  refine ⟨rfl, endRound_leftRound r _, fun p hp => endRound_hold r _ p hp, ?_, ?_, fun p hp => ?_⟩
  · have h := congrArg Link.rounds (endRound_link r ((s.withLink l).withReclose { s.reclose with
      leftRound := if r.stage = .ANSWERED then some (r.number, r.coordinator) else s.reclose.leftRound }))
    refine h.trans ?_
    rw [State.withReclose_link, State.withLink_link, ← hlink]
    split <;> rfl
  · have h := congrArg (fun k => (Counters.abandoned k.counters).roundsAbandoned)
      (endRound_link r ((s.withLink l).withReclose { s.reclose with
        leftRound := if r.stage = .ANSWERED then some (r.number, r.coordinator) else s.reclose.leftRound }))
    refine h.trans ?_
    rw [State.withReclose_link, State.withLink_link, ← hlink]
    simp only [Counters.abandoned, satAdd]
    split
    · rw [habandoned]
    · rfl
  · have hsw : ∀ u : State, (u.count Counters.abandoned).switch p = u.switch p := fun _ => by cases p <;> rfl
    rw [hsw, endRound_switch, if_pos hp]
    exact Switch.openCommand_isOff _

theorem leaveRound_course (s : State) : Course s (leaveRound s) := by
  have hreach := leaveRound_reach s
  refine ⟨by rw [hreach], fun p => ?_, ?_⟩
  · rcases leaveRound_switch s p with e | e
    · exact .inl e
    · exact .inr (e ▸ Switch.openCommand_isOff _)
  · cases hr : s.reclose.round with
    | none =>
        have heq : leaveRound s = s := by
          unfold leaveRound State.round
          simp only [hr]
        rw [heq]
        exact .inl ⟨rfl, rfl, fun _ => rfl, rfl, rfl⟩
    | some r => exact .inr ⟨r, rfl, leaveRound_left s r hr⟩

theorem openPath_course (p : Path) (s : State) : Course s (openPath p s) := by
  have hmove : Course s (s.setSwitch p (s.switch p).openCommand) := by
    refine ⟨State.setSwitch_cfg .., fun q => ?_, .inl ⟨?_, ?_, fun q => ?_, ?_, ?_⟩⟩
    · by_cases hq : q = p
      · subst hq
        rw [setSwitch_switch_self]
        exact .inr (Switch.openCommand_isOff _)
      · exact .inl (setSwitch_switch_other s p q _ hq)
    all_goals simp
  rcases openPath_eq p s with e | e
  · exact e ▸ hmove
  · rw [e]
    refine hmove.trans ?_
    unfold afterOpen
    split
    · exact .refl _
    · split
      · exact leaveRound_course _
      · exact .refl _

theorem forPaths_course (ps : PathSet) (f : Path → State → State) (h : ∀ p s, Course s (f p s)) (s : State) :
    Course s (forPaths ps f s) := by
  unfold forPaths
  simp only
  split <;> split
  · exact (h _ _).trans (h _ _)
  · exact h _ _
  · exact h _ _
  · exact .refl s

theorem holdBoth_course (s : State) : Course s (holdBoth s) :=
  ((openPath_course _ s).trans (openPath_course _ _)).trans (leaveRound_course _)

/-! ### The list and the membership unit -/

theorem takeOffers_course (ch : Change) (s : State) : Course s (takeOffers ch s) := by
  unfold takeOffers
  split
  · exact course_of_same rfl rfl rfl rfl rfl
  · exact .refl s

theorem listReport_course (ch : Change) (s : State) : Course s (listReport ch s) := by
  have h := (takeOffers_course ch s).trans
    (forPaths_course (newlyBlocked ch.before (takeOffers ch s).trips.records) openPath openPath_course _)
  unfold listReport
  simp only
  split
  · exact h
  · split
    · exact h.trans (leaveRound_course _)
    · exact h

theorem withTrips_course (s : State) (v : TripList) : Course s (s.withTrips v) := course_of_same rfl rfl rfl rfl rfl

theorem refuseAddition_course (s : State) : Course s (refuseAddition s) := by
  unfold refuseAddition
  simp only
  split
  · exact withTrips_course s _
  · exact (withTrips_course s _).trans (holdBoth_course _)

theorem changeRecords_course (out : List Record × Bool) (s : State) : Course s (changeRecords out s) := by
  have h := (withTrips_course s { s.trips with records := out.1 }).trans
    (listReport_course { before := s.trips.records, activated := [] } _)
  unfold changeRecords
  simp only
  split
  · exact h.trans (refuseAddition_course _)
  · exact h

theorem clearCond_course (id : CondId) (s : State) : Course s (clearCond id s) := by
  have h1 : Course s (s.withConds (s.conds.set id .quiet)) := course_of_same rfl rfl rfl rfl rfl
  have h2 : Course (s.withConds (s.conds.set id .quiet)) (clearOwn id (s.withConds (s.conds.set id .quiet))) :=
    course_of_same rfl rfl rfl rfl rfl
  exact (h1.trans h2).trans (listReport_course _ _)

theorem memberFound_course (r : Nat) (s : State) : Course s (memberFound r s) := by
  unfold memberFound
  split
  · exact clearCond_course _ s
  · exact .refl s

theorem settleForming_course (s : State) : Course s (settleForming s) := by
  unfold settleForming
  simp only
  split <;> exact course_of_same rfl rfl rfl rfl rfl

theorem changePhase_course (p : Phase) (s : State) : Course s (changePhase p s) := by
  have h1 : Course s (s.withPhase p) := course_of_same rfl rfl rfl rfl rfl
  have h2 : Course s (if s.phase = .FORMING then settleForming (s.withPhase p) else s.withPhase p) := by
    split
    · exact h1.trans (settleForming_course _)
    · exact h1
  unfold changePhase
  simp only
  generalize (if s.phase = .FORMING then settleForming (s.withPhase p) else s.withPhase p) = u at h2 ⊢
  have h3 : Course s (if s.phase = .FORMING ∧ p = .OPERATING then u.withFormation .stopped else u) := by
    split
    · exact h2.trans (course_of_same rfl rfl rfl rfl rfl)
    · exact h2
  split
  · exact h3.trans (holdBoth_course _)
  · exact h3

theorem phaseChecks_course (s : State) : Course s (phaseChecks s) := by
  unfold phaseChecks
  repeat' split
  all_goals first | exact changePhase_course _ s | exact .refl s

theorem takeFromMember_course (f : RxFrame) (e : Entry) (s : State) : Course s (takeFromMember f e s) := by
  have h1 : Course s
      (s.withRoster (updateEntry f.src.toNat (Entry.takeFrame s.cfg.silenceTime s.load.digest f.content) s.roster)) :=
    course_of_same rfl rfl rfl rfl rfl
  unfold takeFromMember
  simp only
  generalize s.withRoster (updateEntry f.src.toNat (Entry.takeFrame s.cfg.silenceTime s.load.digest f.content) s.roster) =
    u at h1 ⊢
  have h2 : Course s (if e.status = .LOST then markStale f.src.toNat false (memberFound f.src.toNat u) else u) := by
    split
    · exact (h1.trans (memberFound_course _ _)).trans (withTrips_course _ _)
    · exact h1
  by_cases h : f.content.beat?.isSome = true ∨ e.status ≠ .PRESENT
  · rw [if_pos h]
    exact h2.trans (phaseChecks_course _)
  · rw [if_neg h]
    exact h2

/-! ### The closing checks -/

/-- What the closing checks do to the round slot and the round: nothing, or a round starts in IDLE on paths whose hold-off is
elapsed, and its PROPOSE joins the slot (R102, R103, R105). -/
theorem settle_round (b s : State) :
    (settle b s).reclose.round = s.reclose.round ∧ (settle b s).link = s.link ∨
    s.reclose.round = none ∧ ∃ r, (settle b s).reclose.round = some r ∧ r.stage = .COLLECTING ∧ r.coordinator = s.rank ∧
      (∀ p, r.paths.has p = true → s.reclose.holdOff p = .expired) ∧
      (settle b s).link.rounds = (s.link.queueRound 0 r.proposal).rounds := by
  unfold settle
  split
  · exact .inl ⟨rfl, rfl⟩
  · have hends : EndsAs s (quietRetest (packEdge b .discharge (packEdge b .charge s))) :=
      quietRetest_endsAs s _ (packEdge_endsAs s b _ .discharge (packEdge_endsAs s b s .charge (EndsAs.refl s)))
    have hlink : (quietRetest (packEdge b .discharge (packEdge b .charge s))).link = s.link := by
      unfold quietRetest packEdge
      repeat' split
      all_goals rfl
    have hround : (quietRetest (packEdge b .discharge (packEdge b .charge s))).reclose.round = s.reclose.round := by
      rcases hends.2.2.2 with ⟨e, _⟩ | ⟨_, r, _⟩
      · exact e
      · unfold quietRetest packEdge
        repeat' split
        all_goals rfl
    generalize quietRetest (packEdge b .discharge (packEdge b .charge s)) = u at hends hlink hround
    obtain ⟨hu, hhold, _⟩ := hends
    have hrank : u.rank = s.rank := by
      unfold State.rank
      rw [hu]
    unfold startTest
    split
    · rename_i hmay
      refine .inr ⟨hround ▸ mayStart_idle u hmay, newRound u.eligiblePaths u, rfl, rfl, hrank, fun p hp => ?_, ?_⟩
      · have helig : u.eligible p = true := by cases p <;> exact hp
        have hexp : (u.reclose.holdOff p).isExpired = true := by
          simp only [State.eligible, Bool.and_eq_true] at helig
          exact helig.1.2
        have hnot (t : LatchTimer) (ht : t.isExpired = true) : t = .expired := by
          cases t <;> first | rfl | exact absurd ht Bool.noConfusion
        rcases hhold p with e | e
        · exact hnot _ (e ▸ hexp)
        · rw [e] at hexp
          exact absurd hexp Bool.noConfusion
      · exact congrArg (fun l => (Link.queueRound l 0 (newRound u.eligiblePaths u).proposal).rounds) hlink
    · exact .inl ⟨hround, hlink⟩

/-- The last frame of the round slot is still there after another has joined (R174). -/
theorem Link.last_mem_queueRound (l : Link) {pre : List TxFrame} (f : TxFrame) (dst : Byte) (c : Content)
    (h : l.rounds = pre ++ [f]) : f ∈ (l.queueRound dst c).rounds := by
  rw [Link.queueRound_rounds, h, List.mem_append]
  left
  cases pre with
  | nil => simp
  | cons x xs => split <;> simp

theorem Round.sendsAbandon_iff (r : Round) :
    r.sendsAbandon = true ↔ r.role ≠ .member ∨ r.stage = .CLOSING ∨ r.stage = .CLOSED_WAIT := by
  have hrole : (r.role.coordinates || r.role.closes) = true ↔ r.role ≠ .member := by
    cases r.role <;> simp [Role.coordinates, Role.closes]
  unfold Round.sendsAbandon
  simp only [Bool.or_eq_true, beq_iff_eq, or_assoc] at hrole ⊢
  rw [← hrole, or_assoc]

/-- A station that has left its round within a course has left it as the statements say, whatever the closing checks start
(R100, R116, R118, R120). -/
theorem Course.leavesRound {s u : State} (b : State) (met : PathSet) (h : Course s u) (hrank : u.rank = s.rank)
    (hidle : ∀ r, s.reclose.round = some r → (∃ p, r.paths.has p = true ∧ met.has p = true) → u.reclose.round = none) :
    LeavesRound met s (settle b u) := by
  intro r hr hmet
  have hnone := hidle r hr hmet
  have l := h.left hr hnone
  have habandon : r.sendsAbandon = true → ∃ f ∈ u.link.rounds, f.dst = 0 ∧ f.content = .abandon (byteOf r.number) := by
    intro hs
    rw [l.frames, if_pos hs, Link.queueRound_rounds]
    exact ⟨TxFrame.new 0 (.abandon (byteOf r.number)), by simp, rfl, rfl⟩
  have hslot : ∀ f ∈ u.link.rounds, r.sendsAbandon = false → f ∈ s.link.rounds := by
    intro f hf hs
    rwa [l.frames, if_neg (by simp [hs])] at hf
  obtain ⟨hends, hhold, _, _⟩ := settle_endsAs b u
  have hsends := Round.sendsAbandon_iff r
  refine ⟨?_, fun p hp => ?_, fun p hp => ?_, ?_, ?_, fun hab => ?_, fun hab f hf => ?_⟩
  · rcases settle_round b u with ⟨e, _⟩ | ⟨_, r', hr', hstage, hcoord, hpaths, _⟩
    · exact .inl (e.trans hnone)
    · refine .inr ⟨r', hr', hstage, hcoord.trans hrank, fun p hp => ?_⟩
      by_contra hin
      have hrun := l.hold p (Bool.eq_true_of_not_eq_false hin)
      exact LatchTimer.noConfusion (hrun.symm.trans (hpaths p hp))
  · have e : (settle b u).switch p = u.switch p := by cases p <;> simp
    rw [e]
    exact l.off p hp
  · rcases hhold p with e | e
    · rw [e, l.hold p hp]
    · rw [e, h.cfg]
  · rw [hends]
    exact l.abandoned
  · rw [settle_reclose_leftRound]
    exact l.leftRound
  · obtain ⟨f, hf, hdst, hcontent⟩ := habandon (hsends.2 hab)
    rcases settle_round b u with ⟨_, e⟩ | ⟨_, r', _, _, _, _, e⟩
    · exact ⟨f, e ▸ hf, hdst, hcontent⟩
    · refine ⟨TxFrame.new 0 (.abandon (byteOf r.number)), ?_, rfl, rfl⟩
      rw [e]
      refine Link.last_mem_queueRound u.link _ 0 _ (Eq.trans ?_ (Link.queueRound_rounds s.link 0 _))
      rw [l.frames, if_pos (hsends.2 hab)]
  · have hs : r.sendsAbandon = false := by
      rw [← Bool.not_eq_true, hsends]
      exact hab
    rcases settle_round b u with ⟨_, e⟩ | ⟨_, r', _, _, _, _, e⟩
    · exact .inl (hslot f (e ▸ hf) hs)
    · rw [e, Link.queueRound_rounds, List.mem_append] at hf
      rcases hf with hf | hf
      · refine .inl (hslot f ?_ hs)
        split at hf
        · exact hf
        · exact List.mem_of_mem_drop hf
      · rw [List.mem_singleton.1 hf]
        exact .inr nofun

end Sys2Proof.Machine
end

section
/-!
SUPPORT. What the membership unit does with a frame of a roster rank: the list as `listHeard` says, the phase, and nothing of
the budget and the stop line but what leaving FORMING counts (R3, R11, R48, R80, R91, R93, R94, R128).
-/
namespace Sys2Proof.Machine

/-! ### Lists whose records keep what they claim -/

/-- Each record keeps key, trip id and path set, none turns ACTIVE, and those of other origins keep their phase. -/
structure Softens (own : Nat) (g : Record → Record) : Prop where
  key : ∀ r, (g r).key = r.key
  tripId : ∀ r, (g r).tripId = r.tripId
  paths : ∀ r, (g r).paths = r.paths
  active : ∀ r, (g r).phase = .ACTIVE → r.phase = .ACTIVE
  foreign : ∀ r, r.origin ≠ own → (g r).phase = r.phase

theorem Record.key_eq {a b : Record} : a.key = b.key ↔ a.origin = b.origin ∧ a.kind = b.kind ∧ a.subject = b.subject := by
  simp [Record.key]

theorem Softens.id (own : Nat) : Softens own fun r => r :=
  ⟨fun _ => rfl, fun _ => rfl, fun _ => rfl, fun _ h => h, fun _ _ => rfl⟩

theorem Softens.comp {own : Nat} {g h : Record → Record} (hg : Softens own g) (hh : Softens own h) :
    Softens own fun r => h (g r) := by
  refine ⟨fun r => (hh.key _).trans (hg.key r), fun r => (hh.tripId _).trans (hg.tripId r),
    fun r => (hh.paths _).trans (hg.paths r), fun r hr => hg.active r (hh.active _ hr), fun r hr => ?_⟩
  have ho := (Record.key_eq.1 (hg.key r)).1
  rw [hh.foreign _ (by rwa [ho]), hg.foreign r hr]

theorem Softens.fades {own : Nat} {g : Record → Record} (h : Softens own g) (r : Record) : Fades g r :=
  ⟨h.key r, h.tripId r, fun hr => ⟨h.active r hr, h.paths r⟩⟩

theorem Softens.blocked {own : Nat} {g : Record → Record} (h : Softens own g) (l : List Record) (p : Path)
    (hp : blockedBy (l.map g) p = true) : blockedBy l p = true :=
  blockedBy_of_fades g l (fun r _ => h.fades r) p hp

theorem Softens.findRecord {own : Nat} {g : Record → Record} (h : Softens own g) (o : Nat) (k : Kind) (sj : Option Nat)
    (l : List Record) : findRecord o k sj (l.map g) = (findRecord o k sj l).map g := by
  refine find_map_of_key _ g (fun r => ?_) l
  rw [Bool.eq_iff_iff, Record.hasKey_iff, Record.hasKey_iff, h.key]

theorem Softens.keys {own : Nat} {g : Record → Record} (h : Softens own g) (l : List Record) :
    (l.map g).map Record.key = l.map Record.key := map_key_of_keeps g h.key l

/-- What a member's frame leaves of list, stop line and budget besides what it brings: softened records, the rest kept. -/
structure SoftCourse (s t : State) : Prop where
  rank : t.rank = s.rank
  stop : t.stop = s.stop
  epoch : t.budget.epoch = s.budget.epoch
  trips : ∃ g, Softens s.rank g ∧ t.trips = { s.trips with records := s.trips.records.map g }

theorem SoftCourse.of_trips {s t : State} (hr : t.rank = s.rank) (hs : t.stop = s.stop)
    (he : t.budget.epoch = s.budget.epoch) (ht : t.trips = s.trips) : SoftCourse s t :=
  ⟨hr, hs, he, _, Softens.id _, by simp [ht]⟩

theorem SoftCourse.refl (s : State) : SoftCourse s s := .of_trips rfl rfl rfl rfl

theorem SoftCourse.trans {s t u : State} (h : SoftCourse s t) (k : SoftCourse t u) : SoftCourse s u := by
  obtain ⟨g, hg, ht⟩ := h.trips
  obtain ⟨g', hg', hu⟩ := k.trips
  rw [h.rank] at hg'
  refine ⟨k.rank.trans h.rank, k.stop.trans h.stop, k.epoch.trans h.epoch, _, hg.comp hg', ?_⟩
  rw [hu, ht, List.map_map]
  rfl

theorem RoundReach.soft {s t : State} (h : RoundReach s t) (ht : t.trips = s.trips) : SoftCourse s t := by
  refine .of_trips h.list.cond.rank ?_ ?_ ht
  · rw [h]
  · rw [h]

/-- A mark on the records, of no weight to key, trip id, path set and phase. -/
theorem softens_of_marks (own : Nat) (g : Record → Record) (h : ∀ r, ∃ st co, g r = { r with stale := st, counted := co }) :
    Softens own g := by
  refine ⟨fun r => ?_, fun r => ?_, fun r => ?_, fun r hr => ?_, fun r _ => ?_⟩
  all_goals
    obtain ⟨st, co, e⟩ := h r
    simp only [e] at *
  · rfl
  · exact hr

theorem takeOffers_soft (ch : Change) (s : State) : SoftCourse s (takeOffers ch s) := by
  unfold takeOffers
  split
  · refine ⟨rfl, rfl, rfl, _, softens_of_marks _ _ fun r => ?_, rfl⟩
    split
    · exact ⟨r.stale, true, rfl⟩
    · exact ⟨r.stale, r.counted, rfl⟩
  · exact .refl s

theorem openPaths_reach (ps : PathSet) (s : State) : RoundReach s (forPaths ps openPath s) :=
  forPaths_reach ps openPath openPath_reach s

theorem listReport_soft (ch : Change) (s : State) : SoftCourse s (listReport ch s) := by
  have h := (takeOffers_soft ch s).trans
    ((openPaths_reach (newlyBlocked ch.before (takeOffers ch s).trips.records) _).soft (openPaths_trips _ _))
  unfold listReport
  simp only
  split
  · exact h
  · split
    · exact h.trans ((leaveRound_reach _).soft (leaveRound_trips _))
    · exact h

theorem clearOwn_soft (id : CondId) (s : State) : SoftCourse s (clearOwn id s) := by
  refine ⟨rfl, rfl, rfl, _, ⟨fun r => ?_, fun r => ?_, fun r => ?_, fun r => ?_, fun r ho => ?_⟩, rfl⟩
  · split <;> rfl
  · split <;> rfl
  · split <;> rfl
  · split
    · exact RecPhase.noConfusion
    · exact fun h => h
  · split
    · rename_i hk
      exact absurd (by simpa [Record.key] using congrArg Prod.fst ((Record.hasKey_iff ..).1 hk)) ho
    · rfl

theorem clearCond_soft (id : CondId) (s : State) : SoftCourse s (clearCond id s) :=
  have h : SoftCourse s (s.withConds (s.conds.set id .quiet)) := .of_trips rfl rfl rfl rfl
  (h.trans (clearOwn_soft id _)).trans (listReport_soft _ _)

theorem memberFound_soft (r : Nat) (s : State) : SoftCourse s (memberFound r s) := by
  unfold memberFound
  split
  · exact clearCond_soft _ s
  · exact .refl s

theorem markStale_soft (origin : Nat) (stale : Bool) (s : State) : SoftCourse s (markStale origin stale s) := by
  refine ⟨rfl, rfl, rfl, _, softens_of_marks _ _ fun r => ?_, rfl⟩
  split
  · exact ⟨stale, r.counted, rfl⟩
  · exact ⟨r.stale, r.counted, rfl⟩

theorem settleForming_soft (s : State) : SoftCourse s (settleForming s) := by
  have h := softens_of_marks s.rank (fun r : Record => if r.kind.currentClass && !r.counted then { r with counted := true } else r)
    fun r => by
      split
      · exact ⟨r.stale, true, rfl⟩
      · exact ⟨r.stale, r.counted, rfl⟩
  unfold settleForming
  simp only
  split
  · exact ⟨rfl, rfl, rfl, _, h, rfl⟩
  · exact ⟨rfl, rfl, rfl, _, h, rfl⟩

/-! ### A change of phase -/

/-- Leaving FORMING, every current-class record is counted (R128). -/
def countCurrent (leaves : Bool) (r : Record) : Record := { r with counted := r.counted || (leaves && r.kind.currentClass) }

theorem settleForming_trips (s : State) :
    (settleForming s).trips = { s.trips with records := s.trips.records.map (countCurrent true) } := by
  have h : (fun r : Record => if r.kind.currentClass && !r.counted then { r with counted := true } else r) =
      countCurrent true := by
    funext r
    unfold countCurrent
    obtain ⟨_, kind, _, _, _, _, _, counted⟩ := r
    cases kind.currentClass <;> cases counted <;> simp
  unfold settleForming
  simp only
  rw [h]
  split <;> rfl

/-- A change of phase in full (R128, R139, R202). -/
theorem changePhase_eq (p : Phase) (s : State) :
    ∃ u : State, u.phase = p ∧ u.stop = s.stop ∧ u.rank = s.rank ∧
      (s.phase ≠ .FORMING → u.trips = s.trips ∧ u.budget = s.budget) ∧
      (s.phase = .FORMING → u.trips = (settleForming (s.withPhase p)).trips ∧ u.budget.epoch = s.budget.epoch) ∧
      (changePhase p s = u ∨ changePhase p s = holdBoth u) := by
  unfold changePhase
  simp only
  by_cases hf : s.phase = .FORMING
  · have hstop : (settleForming (s.withPhase p)).stop = s.stop := (settleForming_soft _).stop
    have hrank : (settleForming (s.withPhase p)).rank = s.rank := (settleForming_soft _).rank
    have hepoch : (settleForming (s.withPhase p)).budget.epoch = s.budget.epoch := (settleForming_soft _).epoch
    have hphase : (settleForming (s.withPhase p)).phase = p := by
      rw [settleForming_reach (s.withPhase p)]
      rfl
    rw [if_pos hf]
    generalize settleForming (s.withPhase p) = v at hstop hrank hepoch hphase ⊢
    refine ⟨if s.phase = .FORMING ∧ p = .OPERATING then v.withFormation .stopped else v, ?_⟩
    have hv : ∀ {β : Type} (view : State → β), (view (v.withFormation .stopped) = view v) →
        view (if s.phase = .FORMING ∧ p = .OPERATING then v.withFormation .stopped else v) = view v := by
      intro β view h
      split
      · exact h
      · rfl
    refine ⟨(hv State.phase rfl).trans hphase, (hv State.stop rfl).trans hstop, (hv State.rank rfl).trans hrank,
      fun h => absurd hf h, fun _ => ⟨hv State.trips rfl, (hv (·.budget.epoch) rfl).trans hepoch⟩, ?_⟩
    rw [if_neg (by rw [hf]; decide)]
    exact .inl rfl
  · simp only [hf, false_and, if_false]
    refine ⟨s.withPhase p, rfl, rfl, rfl, fun _ => ⟨rfl, rfl⟩, False.elim, ?_⟩
    split
    · exact .inr rfl
    · exact .inl rfl

theorem changePhase_phase (p : Phase) (s : State) : (changePhase p s).phase = p := by
  obtain ⟨u, hp, _, _, _, _, e | e⟩ := changePhase_eq p s
  · rw [e, hp]
  · rw [e, holdBoth_reach u, hp]

theorem changePhase_soft (p : Phase) (s : State) : SoftCourse s (changePhase p s) := by
  obtain ⟨u, _, hstop, hrank, hplain, hforming, e⟩ := changePhase_eq p s
  have hu : SoftCourse s u := by
    by_cases hf : s.phase = .FORMING
    · obtain ⟨ht, he⟩ := hforming hf
      obtain ⟨g, hg, h⟩ := (settleForming_soft (s.withPhase p)).trips
      exact ⟨hrank, hstop, he, g, hg, ht.trans h⟩
    · obtain ⟨ht, hb⟩ := hplain hf
      exact .of_trips hrank hstop (congrArg Budget.epoch hb) ht
  rcases e with e | e
  · exact e ▸ hu
  · exact e ▸ hu.trans ((holdBoth_reach u).soft (holdBoth_trips u))

theorem changePhase_trips (p : Phase) (s : State) :
    (changePhase p s).trips =
      { s.trips with records := s.trips.records.map (countCurrent (decide (s.phase = .FORMING))) } := by
  obtain ⟨u, _, _, _, hplain, hforming, e⟩ := changePhase_eq p s
  have ht : (changePhase p s).trips = u.trips := by
    rcases e with e | e
    · rw [e]
    · rw [e, holdBoth_trips]
  rw [ht]
  by_cases hf : s.phase = .FORMING
  · rw [(hforming hf).1, settleForming_trips]
    simp [hf]
  · have h : countCurrent (decide (s.phase = .FORMING)) = fun r => r := by
      funext r
      simp [countCurrent, hf]
    rw [(hplain hf).1, h]
    simp

theorem changePhase_budget (p : Phase) (s : State) (hf : s.phase ≠ .FORMING) : (changePhase p s).budget = s.budget := by
  obtain ⟨u, _, _, _, hplain, _, e | e⟩ := changePhase_eq p s
  · rw [e, (hplain hf).2]
  · rw [e, holdBoth_reach u]
    exact (hplain hf).2

/-- The phase checks leave the station or move it to another phase at work that is not FORMING (R91, R93, R94). -/
theorem phaseChecks_cases (s : State) :
    phaseChecks s = s ∨ ∃ p, p ≠ s.phase ∧ p ≠ .FORMING ∧ p.working = true ∧ s.working = true ∧
      phaseChecks s = changePhase p s := by
  unfold phaseChecks
  split <;> rename_i hs
  · split
    · exact .inr ⟨.OPERATING, by simp [hs], by decide, rfl, State.working_of_phase hs rfl, rfl⟩
    · exact .inl rfl
  · split
    · exact .inr ⟨.CONFINED, by simp [hs], by decide, rfl, State.working_of_phase hs rfl, rfl⟩
    · exact .inl rfl
  · split
    · exact .inr ⟨.OPERATING, by simp [hs], by decide, rfl, State.working_of_phase hs rfl, rfl⟩
    · exact .inl rfl
  · exact .inl rfl
  · exact .inl rfl

/-! ### A member heard -/

/-- The station as a frame of a roster rank whose entry was `e` leaves it before the phase checks: the entry heard, and a member
heard again no longer LOST (R3, R48, R80). -/
def memberHeard (f : RxFrame) (e : Entry) (s : State) : State :=
  let s1 := s.withRoster (updateEntry f.src.toNat (Entry.takeFrame s.cfg.silenceTime s.load.digest f.content) s.roster)
  if e.status = .LOST then markStale f.src.toNat false (memberFound f.src.toNat s1) else s1

/-- What the membership unit does with a frame of a roster rank. -/
theorem membershipTakes_cases (f : RxFrame) (e : Entry) (s : State) (hown : f.src.toNat ≠ s.rank)
    (he : s.entry f.src.toNat = some e) :
    membershipTakes f s = memberHeard f e s ∨
    ∃ p, p ≠ (memberHeard f e s).phase ∧ p ≠ .FORMING ∧ p.working = true ∧ (memberHeard f e s).working = true ∧
      membershipTakes f s = changePhase p (memberHeard f e s) := by
  have heq : membershipTakes f s = if f.content.beat?.isSome ∨ e.status ≠ .PRESENT
      then phaseChecks (memberHeard f e s) else memberHeard f e s := by
    unfold membershipTakes
    rw [if_neg hown, he]
    rfl
  rw [heq]
  split
  · exact phaseChecks_cases _
  · exact .inl rfl

theorem memberHeard_phase (f : RxFrame) (e : Entry) (s : State) : (memberHeard f e s).phase = s.phase := by
  unfold memberHeard
  simp only
  split
  · have h := memberFound_reach f.src.toNat
      (s.withRoster (updateEntry f.src.toNat (Entry.takeFrame s.cfg.silenceTime s.load.digest f.content) s.roster))
    have h' : (memberFound f.src.toNat
      (s.withRoster (updateEntry f.src.toNat (Entry.takeFrame s.cfg.silenceTime s.load.digest f.content) s.roster))).phase =
        s.phase := by rw [h]; rfl
    exact h'
  · rfl

theorem memberHeard_soft (f : RxFrame) (e : Entry) (s : State) : SoftCourse s (memberHeard f e s) := by
  have h : SoftCourse s (s.withRoster
      (updateEntry f.src.toNat (Entry.takeFrame s.cfg.silenceTime s.load.digest f.content) s.roster)) :=
    .of_trips rfl rfl rfl rfl
  unfold memberHeard
  simp only
  split
  · exact (h.trans (memberFound_soft _ _)).trans (markStale_soft _ _ _)
  · exact h

/-- The record of a member heard again: not stale, and the own MEMBER LOST record of a TRIPPED condition CLEARED. -/
def foundRecord (src : Nat) (s : State) (x : Record) : Record :=
  let again : Prop := (s.entry src).map (·.status) = some .LOST
  { x with
    stale := if again ∧ x.origin = src then false else x.stale
    phase := if again ∧ (s.conds.get (lostCond src)).state = .TRIPPED ∧ x.origin = s.rank ∧ x.kind = .memberLost ∧
        x.subject = some src then .CLEARED else x.phase }

/-- With the keys apart, a subject heard again has its TRIPPED MEMBER LOST condition QUIET and the record CLEARED (R48). -/
theorem memberFound_eq (src : Nat) (s : State) (hk : UniqueKeys s) :
    ∃ c, memberFound src s = (s.withConds c).withTrips { s.trips with records := s.trips.records.map fun x =>
      { x with phase := if (s.conds.get (lostCond src)).state = .TRIPPED ∧ x.origin = s.rank ∧ x.kind = .memberLost ∧
          x.subject = some src then .CLEARED else x.phase } } := by
  unfold memberFound
  split
  · rename_i hc
    refine ⟨s.conds.set (lostCond src) .quiet, ?_⟩
    have hfun : (fun r : Record => if r.hasKey s.rank .memberLost (some src) then { r with phase := .CLEARED } else r) =
        fun x => { x with phase := if (s.conds.get (lostCond src)).state = .TRIPPED ∧ x.origin = s.rank ∧
          x.kind = .memberLost ∧ x.subject = some src then .CLEARED else x.phase } := by
      funext x
      have hkey : x.hasKey s.rank .memberLost (some src) = true ↔
          x.origin = s.rank ∧ x.kind = .memberLost ∧ x.subject = some src := by
        simp [Record.hasKey, and_assoc]
      by_cases h : x.hasKey s.rank .memberLost (some src) = true
      · rw [if_pos h, if_pos ⟨hc, hkey.1 h⟩]
      · rw [if_neg h, if_neg fun g => h (hkey.2 g.2)]
    rw [clearCond_eq _ s hk, ← hfun]
    rfl
  · rename_i hc
    refine ⟨s.conds, ?_⟩
    simp only [hc, false_and, if_false, List.map_id']
    rfl

/-- With the keys apart, a member heard changes roster, conditions and records alone. -/
theorem memberHeard_eq (f : RxFrame) (e : Entry) (s : State) (hk : UniqueKeys s) (he : s.entry f.src.toNat = some e) :
    ∃ l c, memberHeard f e s = ((s.withRoster l).withConds c).withTrips
      { s.trips with records := s.trips.records.map (foundRecord f.src.toNat s) } := by
  have hagain : ((s.entry f.src.toNat).map (·.status) = some .LOST) ↔ e.status = .LOST := by
    rw [he]
    simp
  refine ⟨updateEntry f.src.toNat (Entry.takeFrame s.cfg.silenceTime s.load.digest f.content) s.roster, ?_⟩
  unfold memberHeard
  simp only
  generalize updateEntry f.src.toNat (Entry.takeFrame s.cfg.silenceTime s.load.digest f.content) s.roster = l
  by_cases hl : e.status = .LOST
  · rw [if_pos hl]
    obtain ⟨c, hc⟩ := memberFound_eq f.src.toNat (s.withRoster l) hk
    have hfun : foundRecord f.src.toNat s = (fun r : Record => if r.origin == f.src.toNat then { r with stale := false } else r) ∘
        fun x => { x with phase := if ((s.withRoster l).conds.get (lostCond f.src.toNat)).state = .TRIPPED ∧
          x.origin = (s.withRoster l).rank ∧ x.kind = .memberLost ∧ x.subject = some f.src.toNat then .CLEARED
          else x.phase } := by
      funext x
      simp only [foundRecord, hagain, hl, true_and, Function.comp_apply, beq_iff_eq]
      by_cases h : x.origin = f.src.toNat
      · rw [if_pos h, if_pos h]
        rfl
      · rw [if_neg h, if_neg h]
        rfl
    refine ⟨c, ?_⟩
    rw [hc, hfun, ← List.map_map]
    rfl
  · have hfun : foundRecord f.src.toNat s = fun r => r := by
      funext x
      simp [foundRecord, hagain, hl]
    refine ⟨s.conds, ?_⟩
    rw [if_neg hl, hfun, List.map_id']
    rfl

/-! ### The membership unit as a whole -/

theorem State.entry_some_rank {s : State} {r : Nat} {e : Entry} (h : s.entry r = some e) : e.rank = r := by
  simpa using List.find?_some h

theorem membershipTakes_soft (f : RxFrame) (e : Entry) (s : State) (hown : f.src.toNat ≠ s.rank)
    (he : s.entry f.src.toNat = some e) : SoftCourse s (membershipTakes f s) := by
  have h := memberHeard_soft f e s
  rcases membershipTakes_cases f e s hown he with e' | ⟨p, _, _, _, _, e'⟩
  · exact e' ▸ h
  · exact e' ▸ h.trans (changePhase_soft p _)

theorem membershipTakes_course (f : RxFrame) (e : Entry) (s : State) (hown : f.src.toNat ≠ s.rank)
    (he : s.entry f.src.toNat = some e) : Course s (membershipTakes f s) := by
  unfold membershipTakes
  rw [if_neg hown, he]
  exact takeFromMember_course f e s

/-- A frame of a roster rank leads into FORMING from nowhere, and keeps a station at work (R202). -/
theorem membershipTakes_phase (f : RxFrame) (e : Entry) (s : State) (hown : f.src.toNat ≠ s.rank)
    (he : s.entry f.src.toNat = some e) :
    (membershipTakes f s).phase = s.phase ∨
      (membershipTakes f s).phase ≠ .FORMING ∧ (membershipTakes f s).working = true := by
  rcases membershipTakes_cases f e s hown he with e' | ⟨p, _, hp, hw, _, e'⟩
  · rw [e']
    exact .inl (memberHeard_phase f e s)
  · rw [e', changePhase_phase]
    exact .inr ⟨hp, State.working_of_phase (changePhase_phase p _) hw⟩

/-- The record as the membership unit leaves it, `t` being the station afterwards. -/
def heardRecord (src : Nat) (s t : State) (x : Record) : Record :=
  let again : Prop := (s.entry src).map (·.status) = some .LOST
  { x with
    stale := if again ∧ x.origin = src then false else x.stale
    phase := if again ∧ (s.conds.get (lostCond src)).state = .TRIPPED ∧ x.origin = s.rank ∧ x.kind = .memberLost ∧
        x.subject = some src then .CLEARED else x.phase
    counted := x.counted || (decide (s.phase = .FORMING ∧ t.phase ≠ .FORMING) && x.kind.currentClass) }

theorem listHeard_eq (src : Nat) (s t : State) (l : List Record) : listHeard src s t l = l.map (heardRecord src s t) := rfl

theorem heardRecord_eq (src : Nat) (s t : State) :
    heardRecord src s t = countCurrent (decide (s.phase = .FORMING ∧ t.phase ≠ .FORMING)) ∘ foundRecord src s := rfl

/-- With the keys apart, the membership unit leaves the list as `listHeard` says. -/
theorem membershipTakes_trips (f : RxFrame) (e : Entry) (s : State) (hk : UniqueKeys s) (hown : f.src.toNat ≠ s.rank)
    (he : s.entry f.src.toNat = some e) :
    (membershipTakes f s).trips =
      { s.trips with records := s.trips.records.map (heardRecord f.src.toNat s (membershipTakes f s)) } := by
  obtain ⟨l, c, heq⟩ := memberHeard_eq f e s hk he
  have hphase := memberHeard_phase f e s
  have htrips : (memberHeard f e s).trips = { s.trips with records := s.trips.records.map (foundRecord f.src.toNat s) } := by
    rw [heq]
    rfl
  rw [heardRecord_eq, ← List.map_map]
  rcases membershipTakes_cases f e s hown he with e' | ⟨p, _, hp, _, _, e'⟩
  · have hstay : ¬ (s.phase = .FORMING ∧ (membershipTakes f s).phase ≠ .FORMING) := by
      rw [e', hphase]
      exact fun h => h.2 h.1
    have hid : countCurrent false = fun r => r := by
      funext r
      simp [countCurrent]
    rw [decide_eq_false hstay, hid, List.map_id', e', htrips]
  · have hforming : (s.phase = .FORMING ∧ (membershipTakes f s).phase ≠ .FORMING) ↔ s.phase = .FORMING := by
      rw [e', changePhase_phase]
      exact ⟨fun h => h.1, fun h => ⟨h, hp⟩⟩
    have hdec : decide (s.phase = .FORMING ∧ (membershipTakes f s).phase ≠ .FORMING) =
        decide ((memberHeard f e s).phase = .FORMING) := by
      rw [hphase]
      exact decide_eq_decide.2 hforming
    rw [hdec, e', changePhase_trips, htrips]

/-- With the keys apart, a member's frame leaves the budget to the retry budget but where the station leaves FORMING. -/
theorem membershipTakes_budget (f : RxFrame) (e : Entry) (s : State) (hk : UniqueKeys s) (hown : f.src.toNat ≠ s.rank)
    (he : s.entry f.src.toNat = some e) (hf : s.phase ≠ .FORMING ∨ (membershipTakes f s).phase = .FORMING) :
    (membershipTakes f s).budget = s.budget := by
  obtain ⟨l, c, heq⟩ := memberHeard_eq f e s hk he
  have hbudget : (memberHeard f e s).budget = s.budget := by
    rw [heq]
    rfl
  rcases membershipTakes_cases f e s hown he with e' | ⟨p, _, hp, _, _, e'⟩
  · rw [e', hbudget]
  · have hplain : s.phase ≠ .FORMING := by
      refine hf.resolve_right fun h => hp ?_
      rw [e', changePhase_phase] at h
      exact h
    rw [e', changePhase_budget p _ (memberHeard_phase f e s ▸ hplain), hbudget]

/-- With the keys apart and the phase kept, a member's frame moves neither switches nor round by itself. -/
theorem membershipTakes_silent (f : RxFrame) (e : Entry) (s : State) (hk : UniqueKeys s) (hown : f.src.toNat ≠ s.rank)
    (he : s.entry f.src.toNat = some e) (hp : (membershipTakes f s).phase = s.phase) :
    (membershipTakes f s).charge = s.charge ∧ (membershipTakes f s).discharge = s.discharge ∧
      (membershipTakes f s).reclose = s.reclose := by
  obtain ⟨l, c, heq⟩ := memberHeard_eq f e s hk he
  rcases membershipTakes_cases f e s hown he with e' | ⟨p, hne, _, _, _, e'⟩
  · rw [e', heq]
    exact ⟨rfl, rfl, rfl⟩
  · refine absurd ?_ hne
    rw [e', changePhase_phase] at hp
    exact hp.trans (memberHeard_phase f e s).symm

end Sys2Proof.Machine
end

section
/-!
SUPPORT. A frame of a roster rank in whatever order its blocks take it (R163): what the blocks beside the trip list do before and
after it.
-/
namespace Sys2Proof.Machine

/-! ### The blocks by name -/

/-- The blocks a BEAT and a NOTICE are handed to (R163). -/
inductive Taker where
  | membership
  | list
  | budget
  | reclose
  | window
  deriving DecidableEq

/-- What a block does with a frame. -/
def Taker.act (f : RxFrame) : Taker → State → State
  | .membership => membershipTakes f
  | .list => listTakes f
  | .budget => budgetTakes f
  | .reclose => recloseTakes f
  | .window => windowTakes f

theorem runAll_append (xs ys : List (State → State)) (s : State) :
    runAll (xs ++ ys) s = runAll ys (runAll xs s) := List.foldl_append ..

theorem runAll_cons (f : State → State) (fs : List (State → State)) (s : State) :
    runAll (f :: fs) s = runAll fs (f s) := rfl

/-- In whatever order, the list takes the frame once, between what some blocks do before and the others after. -/
theorem inAnyOrder_around (f : RxFrame) (ids : List Taker) (s : State) (hlist : Taker.list ∈ ids) :
    ∃ pre post : List Taker, ∃ n, (pre ++ Taker.list :: post).Perm ids ∧
      (inAnyOrder (ids.map (Taker.act f)) s =
          runAll (post.map (Taker.act f)) (listTakes f (runAll (pre.map (Taker.act f)) s)) ∨
        inAnyOrder (ids.map (Taker.act f)) s =
          (runAll (post.map (Taker.act f)) (listTakes f (runAll (pre.map (Taker.act f)) s))).withFreeCount n) := by
  obtain ⟨order, n, hperm, hrun⟩ := inAnyOrder_spec (ids.map (Taker.act f)) s
  have hmap : Relation.Comp (fun a b => a = List.map (Taker.act f) b) List.Perm order ids := by
    rw [List.eq_map_comp_perm]
    exact hperm
  obtain ⟨order', rfl, hids⟩ := hmap
  obtain ⟨pre, post, rfl⟩ := List.append_of_mem (hids.mem_iff.2 hlist)
  refine ⟨pre, post, n, hids, ?_⟩
  rw [List.map_append, List.map_cons, runAll_append, runAll_cons] at hrun
  exact hrun

/-! ### What the blocks beside the list do -/

/-- What a block does beside list and membership: `budget` to the retry budget and `stop` to the stop line. -/
structure Aside where
  budget : Budget → Budget
  stop : StopLine → StopLine

/-- What some of the blocks beside the list do with a frame of `src`: the membership unit among them where `heard`, the block of
`x` where `aside`. -/
structure Around (src : Nat) (x : Aside) (heard aside : Bool) (a c : State) : Prop where
  reach : FrameReach a c
  course : Course a c
  members : c.members = a.members
  phase : c.phase = a.phase ∨ c.phase ≠ .FORMING ∧ c.working = true
  stop : c.stop = if aside then x.stop a.stop else a.stop
  epoch : (∀ b, (x.budget b).epoch = b.epoch) → c.budget.epoch = a.budget.epoch
  soft : ∃ g, Softens a.rank g ∧ c.trips = { a.trips with records := a.trips.records.map g }
  unheard : heard = false → c.roster = a.roster ∧ c.conds = a.conds ∧ c.phase = a.phase ∧ c.trips = a.trips
  trips : heard = true → UniqueKeys a → c.trips = { a.trips with records := listHeard src a c a.trips.records }
  budget : UniqueKeys a → (a.phase ≠ .FORMING ∨ c.phase = .FORMING) →
    c.budget = if aside then x.budget a.budget else a.budget
  silent : UniqueKeys a → c.phase = a.phase →
    c.charge = a.charge ∧ c.discharge = a.discharge ∧ c.reclose.round = a.reclose.round

theorem FrameReach.rank {s t : State} (h : FrameReach s t) : t.rank = s.rank := by
  unfold State.rank
  rw [h]

theorem FrameReach.cfg {s t : State} (h : FrameReach s t) : t.cfg = s.cfg := by
  rw [h]

theorem listHeard_congr (src : Nat) (s s' t t' : State) (l : List Record) (hr : s'.roster = s.roster)
    (hc : s'.conds = s.conds) (hrank : s'.rank = s.rank) (hp : s'.phase = s.phase) (hp' : t'.phase = t.phase) :
    listHeard src s' t' l = listHeard src s t l := by
  have he : s'.entry src = s.entry src := by
    unfold State.entry
    rw [hr]
  unfold listHeard
  rw [he, hc, hrank, hp, hp']

theorem Around.uniqueKeys {src : Nat} {x : Aside} {h1 s1 : Bool} {a c : State} (h : Around src x h1 s1 a c)
    (hk : UniqueKeys a) : UniqueKeys c := by
  obtain ⟨g, hg, ht⟩ := h.soft
  unfold UniqueKeys
  rw [ht, hg.keys]
  exact hk

theorem Around.refl (src : Nat) (x : Aside) (a : State) : Around src x false false a a :=
  ⟨.refl a, .refl a, rfl, .inl rfl, rfl, fun _ => rfl, ⟨_, Softens.id _, by simp⟩, fun _ => ⟨rfl, rfl, rfl, rfl⟩, Bool.noConfusion,
    fun _ _ => rfl, fun _ _ => ⟨rfl, rfl, rfl⟩⟩

/-- One after the other, where each block acts once. -/
theorem Around.trans {src : Nat} {x : Aside} {h1 s1 h2 s2 : Bool} {a c d : State} (h : Around src x h1 s1 a c)
    (g : Around src x h2 s2 c d) (hh : (h1 && h2) = false) (hs : (s1 && s2) = false) :
    Around src x (h1 || h2) (s1 || s2) a d := by
  have hmid (hf : a.phase ≠ .FORMING ∨ d.phase = .FORMING) :
      (a.phase ≠ .FORMING ∨ c.phase = .FORMING) ∧ (c.phase ≠ .FORMING ∨ d.phase = .FORMING) := by
    rcases h.phase with e | ⟨e, _⟩
    · rw [e]
      exact ⟨by by_cases hp : a.phase = .FORMING <;> simp [hp], hf⟩
    · refine ⟨.inl fun ha => ?_, .inl e⟩
      rcases hf with hf | hf
      · exact hf ha
      · rcases g.phase with e' | ⟨e', _⟩
        · exact e (e'.symm.trans hf)
        · exact e' hf
  refine ⟨h.reach.trans g.reach, h.course.trans g.course, g.members.trans h.members, ?_, ?_,
    fun hx => (g.epoch hx).trans (h.epoch hx), ?_, fun hb => ?_, fun hb hk => ?_,
    fun hk hf => ?_, fun hk hp => ?_⟩
  · rcases g.phase with e | e
    · rcases h.phase with e' | ⟨e', hw⟩
      · exact .inl (e.trans e')
      · exact .inr ⟨e ▸ e', State.working_of_phase e hw⟩
    · exact .inr e
  · rw [g.stop, h.stop]
    cases s1 <;> cases s2 <;> first | rfl | exact absurd hs Bool.noConfusion
  · obtain ⟨f, hf, hc⟩ := h.soft
    obtain ⟨f', hf', hd⟩ := g.soft
    rw [h.reach.rank] at hf'
    refine ⟨_, hf.comp hf', ?_⟩
    rw [hd, hc, List.map_map]
    rfl
  · obtain ⟨hb1, hb2⟩ := Bool.or_eq_false_iff.1 hb
    obtain ⟨r1, c1, p1, t1⟩ := h.unheard hb1
    obtain ⟨r2, c2, p2, t2⟩ := g.unheard hb2
    exact ⟨r2.trans r1, c2.trans c1, p2.trans p1, t2.trans t1⟩
  · cases h1 with
    | true =>
        have hb2 : h2 = false := by simpa using hh
        obtain ⟨_, _, hp, ht⟩ := g.unheard hb2
        rw [ht, h.trips rfl hk]
        simp only [TripList.mk.injEq, and_true]
        exact (listHeard_congr src a a c d _ rfl rfl rfl rfl hp).symm
    | false =>
        obtain ⟨hr, hc, hp, ht⟩ := h.unheard rfl
        rw [g.trips (by simpa using hb) (h.uniqueKeys hk), ht]
        simp only [TripList.mk.injEq, and_true]
        exact listHeard_congr src a c d d _ hr hc h.reach.rank hp rfl
  · obtain ⟨hac, hcd⟩ := hmid hf
    rw [g.budget (h.uniqueKeys hk) hcd, h.budget hk hac]
    cases s1 <;> cases s2 <;> first | rfl | exact absurd hs Bool.noConfusion
  · have hboth : c.phase = a.phase ∧ d.phase = c.phase := by
      cases h1 with
      | false =>
          have hp1 := (h.unheard rfl).2.2.1
          exact ⟨hp1, hp.trans hp1.symm⟩
      | true =>
          have hp2 := (g.unheard (by simpa using hh)).2.2.1
          exact ⟨hp2.symm.trans hp, hp2⟩
    obtain ⟨c1, d1, r1⟩ := h.silent hk hboth.1
    obtain ⟨c2, d2, r2⟩ := g.silent (h.uniqueKeys hk) hboth.2
    exact ⟨c2.trans c1, d2.trans d1, r2.trans r1⟩

theorem around_membership (f : RxFrame) (x : Aside) (e : Entry) (a : State) (hown : f.src.toNat ≠ a.rank)
    (he : a.entry f.src.toNat = some e) : Around f.src.toNat x true false a (membershipTakes f a) := by
  have hsoft := membershipTakes_soft f e a hown he
  exact ⟨membershipTakes_reach f a, membershipTakes_course f e a hown he, (membershipTakes_scope f a).members,
    membershipTakes_phase f e a hown he, hsoft.stop, fun _ => hsoft.epoch, hsoft.trips, Bool.noConfusion,
    fun _ hk => membershipTakes_trips f e a hk hown he, fun hk hf => membershipTakes_budget f e a hk hown he hf,
    fun hk hp => by
      obtain ⟨hc, hd, hr⟩ := membershipTakes_silent f e a hk hown he hp
      exact ⟨hc, hd, congrArg Reclose.round hr⟩⟩

/-- A block that touches only budget, stop line and what the reclose controller remembers. -/
theorem around_aside (src : Nat) (x : Aside) (s1 : Bool) (a c : State) (hreach : FrameReach a c) (hcourse : Course a c)
    (hr : c.roster = a.roster) (hc : c.conds = a.conds) (hp : c.phase = a.phase) (ht : c.trips = a.trips)
    (hstop : c.stop = if s1 then x.stop a.stop else a.stop)
    (hbudget : c.budget = if s1 then x.budget a.budget else a.budget) (hch : c.charge = a.charge)
    (hdis : c.discharge = a.discharge) (hround : c.reclose.round = a.reclose.round) : Around src x false s1 a c :=
  ⟨hreach, hcourse, by unfold State.members; rw [hr], .inl hp, hstop, fun hx => by rw [hbudget]; split <;> simp [hx],
    ⟨_, Softens.id _, by simp [ht]⟩, fun _ => ⟨hr, hc, hp, ht⟩, Bool.noConfusion, fun _ _ => hbudget,
    fun _ _ => ⟨hch, hdis, hround⟩⟩

theorem around_freeCount (src : Nat) (x : Aside) (a : State) (n : Nat) :
    Around src x false false a (a.withFreeCount n) :=
  around_aside src x false a _ rfl (course_of_same rfl rfl rfl rfl rfl) rfl rfl rfl rfl rfl rfl rfl rfl rfl

/-- The blocks of a list, each taking the frame once and the trip list not among them. -/
theorem around_run (f : RxFrame) (x : Aside) (side : Taker) (e : Entry) (cfg : Cfg) (ids : List Taker) (hnodup : ids.Nodup)
    (hlist : Taker.list ∉ ids)
    (hside : ∀ i ∈ ids, i ≠ .membership → ∀ a, a.cfg = cfg → f.src.toNat ∈ a.members →
      Around f.src.toNat x false (decide (i = side)) a (i.act f a))
    (hnot : side ≠ .membership) (a : State) (hcfg : a.cfg = cfg) (hown : f.src.toNat ≠ a.rank) (hmem : f.src.toNat ∈ a.members)
    (he : Taker.membership ∈ ids → a.entry f.src.toNat = some e) :
    Around f.src.toNat x (decide (Taker.membership ∈ ids)) (decide (side ∈ ids)) a (runAll (ids.map (Taker.act f)) a) := by
  induction ids generalizing a with
  | nil => exact Around.refl _ x a
  | cons i is ih =>
      obtain ⟨hi, hnodup'⟩ := List.nodup_cons.1 hnodup
      have hhead : Around f.src.toNat x (decide (i = .membership)) (decide (i = side)) a (i.act f a) := by
        by_cases him : i = .membership
        · subst him
          rw [decide_eq_true rfl, decide_eq_false fun h => hnot h.symm]
          exact around_membership f x e a hown (he List.mem_cons_self)
        · rw [decide_eq_false him]
          exact hside i List.mem_cons_self him a hcfg hmem
      have htail := ih hnodup' (fun h => hlist (List.mem_cons_of_mem i h))
        (fun j hj => hside j (List.mem_cons_of_mem i hj)) (i.act f a)
        (hhead.reach.cfg.trans hcfg) (hhead.reach.rank ▸ hown) (hhead.members ▸ hmem)
        (fun hm => by
          have him : i ≠ .membership := fun h => hi (h ▸ hm)
          obtain ⟨hr, _⟩ := hhead.unheard (decide_eq_false him)
          unfold State.entry
          rw [hr]
          exact he (List.mem_cons_of_mem i hm))
      have hflag (j : Taker) : decide (j ∈ i :: is) = (decide (i = j) || decide (j ∈ is)) := by
        simp [List.mem_cons, eq_comm]
      have honce (j : Taker) : (decide (i = j) && decide (j ∈ is)) = false := by
        by_cases h : i = j
        · simp [← h, hi]
        · simp [h]
      rw [hflag, hflag, List.map_cons, runAll_cons]
      exact hhead.trans htail (honce _) (honce _)

/-- A frame in whatever order: `a` is the station as the list takes the frame, and the membership unit and the block `side` each act
either before or after. -/
theorem frame_around (f : RxFrame) (x : Aside) (side : Taker) (e : Entry) (ids : List Taker) (s : State)
    (hnodup : ids.Nodup) (hlist : Taker.list ∈ ids) (hmember : Taker.membership ∈ ids) (hsidemem : side ∈ ids)
    (hside : ∀ i ∈ ids, i ≠ .membership → i ≠ .list → ∀ a, a.cfg = s.cfg → f.src.toNat ∈ a.members →
      Around f.src.toNat x false (decide (i = side)) a (i.act f a))
    (hnot : side ≠ .membership) (hnotlist : side ≠ .list) (hown : f.src.toNat ≠ s.rank)
    (he : s.entry f.src.toNat = some e) :
    ∃ (a : State) (first early : Bool), Around f.src.toNat x first early s a ∧
      Around f.src.toNat x (!first) (!early) (listTakes f a) (inAnyOrder (ids.map (Taker.act f)) s) := by
  obtain ⟨pre, post, n, hperm, hrun⟩ := inAnyOrder_around f ids s hlist
  have hnd : (pre ++ Taker.list :: post).Nodup := hperm.nodup_iff.2 hnodup
  obtain ⟨hpre, hrest, hdisj⟩ := List.nodup_append.1 hnd
  obtain ⟨hlpost, hpost⟩ := List.nodup_cons.1 hrest
  have hlpre : Taker.list ∉ pre := fun h => hdisj _ h _ List.mem_cons_self rfl
  have hwhere (j : Taker) (hj : j ∈ ids) (hne : j ≠ .list) : decide (j ∈ post) = !decide (j ∈ pre) := by
    have hor : j ∈ pre ∨ j ∈ post := by
      have := hperm.mem_iff.2 hj
      simpa [hne] using this
    by_cases hp : j ∈ pre
    · have : j ∉ post := fun h => hdisj _ hp _ (List.mem_cons_of_mem _ h) rfl
      simp [hp, this]
    · simp [hp, hor.resolve_left hp]
  have hin (i : Taker) (h : i ∈ pre ∨ i ∈ post) : i ∈ ids := by
    refine hperm.mem_iff.1 ?_
    simp only [List.mem_append, List.mem_cons]
    exact h.elim .inl fun h => .inr (.inr h)
  have hmem := mem_members_of_entry _ e s he
  have h1 := around_run f x side e s.cfg pre hpre hlpre
    (fun i hi him => hside i (hin i (.inl hi)) him fun h => hlpre (h ▸ hi)) hnot s rfl hown hmem fun _ => he
  have hl : ListReach (runAll (pre.map (Taker.act f)) s) (listTakes f (runAll (pre.map (Taker.act f)) s)) :=
    listTakes_reach f _
  generalize runAll (pre.map (Taker.act f)) s = a at h1 hl hrun
  have hroster : (listTakes f a).roster = a.roster := by rw [hl]
  have h2 := around_run f x side e s.cfg post hpost hlpost
    (fun i hi him => hside i (hin i (.inr hi)) him fun h => hlpost (h ▸ hi)) hnot (listTakes f a)
    ((by rw [hl] : (listTakes f a).cfg = a.cfg).trans h1.reach.cfg)
    (by rw [hl.cond.rank, h1.reach.rank]; exact hown)
    (by rw [(listTakes_scope f a).members, h1.members]; exact hmem)
    (fun hm => by
      have hfirst : decide (Taker.membership ∈ pre) = false := by
        have := hwhere .membership hmember (by decide)
        rw [decide_eq_true hm] at this
        simpa using this.symm
      unfold State.entry
      rw [hroster, (h1.unheard hfirst).1]
      exact he)
  rw [hwhere .membership hmember (by decide), hwhere side hsidemem hnotlist] at h2
  refine ⟨a, decide (Taker.membership ∈ pre), decide (side ∈ pre), h1, ?_⟩
  rcases hrun with e' | e'
  · exact e' ▸ h2
  · rw [e']
    simpa using h2.trans (around_freeCount _ x _ n) (Bool.and_false _) (Bool.and_false _)

end Sys2Proof.Machine
end

section
/-!
SUPPORT. What the list does with the new records a frame brings, and how that stands once every block has taken the frame: the
list, the budget, the switches and the round (R22 to R25, R116, R126, R127).
-/
namespace Sys2Proof.Machine

/-! ### The list takes new records -/

/-- A change that a frame brings: no own condition has taken a trip id. -/
def foreignChange (before : List Record) : Change := { before := before, activated := [] }

/-- The station whose list has new records. -/
def State.withRecords (s : State) (l : List Record) : State := s.withTrips { s.trips with records := l }

/-- The station once its list has taken new records and reported the change, before a refusal. -/
def reported (l : List Record) (s : State) : State := listReport (foreignChange s.trips.records) (s.withRecords l)

theorem changeRecords_eq (o : List Record × Bool) (s : State) :
    changeRecords o s = if o.2 then refuseAddition (reported o.1 s) else reported o.1 s := rfl

theorem reported_full (l : List Record) (s : State) : (reported l s).trips.full = s.trips.full := by
  obtain ⟨g, _, ht⟩ := (listReport_soft (foreignChange s.trips.records) (s.withRecords l)).trips
  unfold reported
  rw [ht]
  rfl

/-- The record as the list's offers leave it, where the station counts (R23, R127). -/
def offerRecord (counts : Bool) (own : Nat) (before : List Record) (r : Record) : Record :=
  { r with counted := r.counted || (counts && r.kind.currentClass && r.newIn own (foreignChange before)) }

theorem counts_iff {s : State} (hw : s.working = true) :
    (s.phase = .OPERATING ∨ s.phase = .CONFINED) ↔ s.phase ≠ .FORMING := by
  unfold State.working at hw
  cases hp : s.phase <;> simp_all [Phase.working]

theorem takeOffers_eq (l : List Record) (s : State) (hw : s.working = true) :
    takeOffers (foreignChange l) s =
      (s.withTrips { s.trips with records := s.trips.records.map (offerRecord (s.phase != .FORMING) s.rank l) }).withBudget
        (if s.phase = .FORMING then s.budget else s.budget.raise s.cfg.latchLimit
          (s.trips.records.filter (Record.offeredIn s.rank (foreignChange l))).length) := by
  unfold takeOffers
  by_cases hf : s.phase = .FORMING
  · have hid : offerRecord (s.phase != .FORMING) s.rank l = fun r => r := by
      funext r
      simp [offerRecord, hf]
    rw [if_neg (by simp [hf]), if_pos hf, hid, List.map_id']
    rfl
  · have hoffer : (fun r : Record => if r.offeredIn s.rank (foreignChange l) then { r with counted := true } else r) =
        offerRecord (s.phase != .FORMING) s.rank l := by
      funext r
      have hcounts : (s.phase != .FORMING) = true := by simpa using hf
      rw [hcounts]
      obtain ⟨o, kind, sj, i, ps, ph, st, counted⟩ := r
      unfold offerRecord Record.offeredIn
      simp only [Bool.true_and]
      cases kind.currentClass <;> cases counted <;> simp
      split <;> simp_all
    rw [if_pos ((counts_iff hw).2 hf), if_neg hf]
    simp only [hoffer]

theorem refuseAddition_trips (s : State) :
    (refuseAddition s).trips = { s.trips with full := true, fullTimer := .running s.cfg.tBeat } := by
  unfold refuseAddition
  simp only
  split <;> simp

/-- A refusal under the flag restarts its timer and no more (R24). -/
theorem refuseAddition_of_full (s : State) (h : s.trips.full = true) :
    refuseAddition s = s.withTrips { s.trips with full := true, fullTimer := .running s.cfg.tBeat } := by
  unfold refuseAddition
  simp only [h, if_true]

/-- The list after a frame's new records: their offers, the list-full flag and its timer (R23, R24). -/
theorem changeRecords_trips (o : List Record × Bool) (s : State) (hw : s.working = true) :
    (changeRecords o s).trips =
      { records := o.1.map (offerRecord (s.phase != .FORMING) s.rank s.trips.records)
        full := s.trips.full || o.2
        fullTimer := if o.2 then .running s.cfg.tBeat else s.trips.fullTimer
        nextId := s.trips.nextId } := by
  have hcfg : (reported o.1 s).cfg = s.cfg := by
    unfold reported
    rw [listReport_reach]
    rfl
  have htrips : (reported o.1 s).trips = { s.trips with
      records := o.1.map (offerRecord (s.phase != .FORMING) s.rank s.trips.records) } := by
    refine (listReport_trips _ _).trans ?_
    rw [takeOffers_eq _ (s.withRecords o.1) hw]
    rfl
  rw [changeRecords_eq]
  generalize reported o.1 s = u at hcfg htrips
  cases o.2 with
  | true =>
      rw [if_pos rfl, refuseAddition_trips, htrips, hcfg]
      simp
  | false =>
      rw [if_neg Bool.noConfusion, htrips]
      simp

theorem listReport_budget (ch : Change) (s : State) : (listReport ch s).budget = (takeOffers ch s).budget := by
  have h := openPaths_reach (newlyBlocked ch.before (takeOffers ch s).trips.records) (takeOffers ch s)
  have hb : (forPaths (newlyBlocked ch.before (takeOffers ch s).trips.records) openPath (takeOffers ch s)).budget =
      (takeOffers ch s).budget := by rw [h]
  unfold listReport
  simp only
  split
  · exact hb
  · split
    · rw [leaveRound_reach]
      exact hb
    · exact hb

/-- What a frame's new records do to the count (R23, R127, R128). -/
theorem changeRecords_budget (o : List Record × Bool) (s : State) (hw : s.working = true) :
    (changeRecords o s).budget = if s.phase = .FORMING then s.budget else s.budget.raise s.cfg.latchLimit
      (o.1.filter (Record.offeredIn s.rank (foreignChange s.trips.records))).length := by
  have hbudget : (reported o.1 s).budget = if s.phase = .FORMING then s.budget else s.budget.raise s.cfg.latchLimit
      (o.1.filter (Record.offeredIn s.rank (foreignChange s.trips.records))).length := by
    refine (listReport_budget _ _).trans ?_
    rw [takeOffers_eq _ (s.withRecords o.1) hw]
    rfl
  rw [changeRecords_eq]
  generalize reported o.1 s = u at hbudget
  split
  · rw [refuseAddition_reach u]
    exact hbudget
  · exact hbudget

/-! ### Departures a change of the list causes (R22, R25, R116) -/

theorem gainedIn_offer (own : Nat) (ch : Change) (r : Record) (c : Bool) :
    Record.gainedIn own ch { r with counted := c } = r.gainedIn own ch := rfl

theorem endsRound_takeOffers (own : Nat) (ch : Change) (s : State) (ps : PathSet) :
    endsRound own ch (takeOffers ch s).trips.records ps = endsRound own ch s.trips.records ps := by
  unfold endsRound newlyBlocked
  rw [takeOffers_blocked, takeOffers_blocked]
  congr 1
  unfold takeOffers
  split
  · show (s.trips.records.map _).any _ = _
    rw [List.any_map]
    congr 1
    funext r
    simp only [Function.comp_apply]
    split <;> rfl
  · rfl

/-- A change that meets the round's path set ends the round (R22, R116). -/
theorem listReport_leaves (ch : Change) (s : State) (r : Round) (hr : s.reclose.round = some r)
    (hends : endsRound s.rank ch s.trips.records r.paths = true) : (listReport ch s).reclose.round = none := by
  have hcourse := (takeOffers_course ch s).trans
    (forPaths_course (newlyBlocked ch.before (takeOffers ch s).trips.records) openPath openPath_course _)
  have hrank : (forPaths (newlyBlocked ch.before (takeOffers ch s).trips.records) openPath (takeOffers ch s)).rank =
      s.rank := ((takeOffers_reach ch s).trans (openPaths_reach _ _).list).cond.rank
  have htrips := openPaths_trips (newlyBlocked ch.before (takeOffers ch s).trips.records) (takeOffers ch s)
  unfold listReport
  simp only
  generalize forPaths (newlyBlocked ch.before (takeOffers ch s).trips.records) openPath (takeOffers ch s) = u at *
  split
  · rename_i hu
    exact hu
  · rename_i r' hr'
    have hsame : r' = r := by
      rcases hcourse.round_or_idle with e | e
      · exact Option.some.inj ((hr'.symm.trans e).trans hr)
      · exact absurd (hr'.symm.trans e) (by simp)
    rw [hsame, hrank, htrips, endsRound_takeOffers, if_pos hends]
    exact leaveRound_round u

theorem changeRecords_leaves (o : List Record × Bool) (s : State) (r : Round) (hr : s.reclose.round = some r)
    (hends : endsRound s.rank (foreignChange s.trips.records) o.1 r.paths = true) :
    (changeRecords o s).reclose.round = none := by
  have h : (reported o.1 s).reclose.round = none :=
    listReport_leaves (foreignChange s.trips.records) (s.withRecords o.1) r hr hends
  rw [changeRecords_eq]
  split
  · exact (refuseAddition_course _).keeps_idle h
  · exact h

/-- The list-full flag as it is set ends every round (R25, R116). -/
theorem changeRecords_refusal_leaves (o : List Record × Bool) (s : State) (ho : o.2 = true)
    (hfull : s.trips.full = false) : (changeRecords o s).reclose.round = none := by
  have heq : changeRecords o s = refuseAddition (reported o.1 s) := by
    rw [changeRecords_eq, if_pos ho]
  have hsame := (reported_full o.1 s).trans hfull
  rw [heq]
  unfold refuseAddition
  simp only [hsame]
  exact holdBoth_round _

theorem endsRound_of_gained {own : Nat} {ch : Change} {l : List Record} {ps : PathSet} {x : Record} (hx : x ∈ l)
    (hg : x.gainedIn own ch = true) (hm : x.paths.meets ps = true) : endsRound own ch l ps = true := by
  unfold endsRound
  rw [Bool.or_eq_true]
  exact .inr (List.any_eq_true.2 ⟨x, hx, by rw [hg, hm]; rfl⟩)

theorem endsRound_of_blocked {own : Nat} {ch : Change} {l : List Record} {ps : PathSet} {p : Path}
    (hl : blockedBy l p = true) (hb : blockedBy ch.before p = false) (hp : ps.has p = true) :
    endsRound own ch l ps = true := by
  have hmeets : (newlyBlocked ch.before l).meets ps = true := by
    have hp' : ps.has p = true := hp
    cases p <;> simp_all [newlyBlocked, PathSet.meets, PathSet.has]
  unfold endsRound
  rw [hmeets, Bool.true_or]

theorem meets_of_shared {ps qs : PathSet} {p : Path} (h : ps.has p = true) (g : qs.has p = true) :
    ps.meets qs = true := by
  cases p <;> simp_all [PathSet.meets, PathSet.has]

/-! ### Held paths stay off -/

/-- The switches of the paths the list holds, blocked or by its full flag, are off (R2, R25, R139). -/
def HeldByList (s : State) : Prop := ∀ p, s.blocked p = true ∨ s.trips.full = true → (s.switch p).isOff

theorem HeldPathsOff.list {s : State} (h : HeldPathsOff s) : HeldByList s := by
  obtain ⟨_, _, _, hheld⟩ := h
  refine fun p hp => hheld p ?_
  unfold State.held
  rcases hp with hp | hp <;> simp [hp]

theorem HeldByList.course {s t : State} (h : HeldByList s) (hc : Course s t)
    (hb : ∀ p, t.blocked p = true → s.blocked p = true) (hf : t.trips.full = true → s.trips.full = true) :
    HeldByList t :=
  fun p hp => hc.keeps_isOff p (h p (hp.imp (hb p) hf))

theorem Around.heldByList {src : Nat} {x : Aside} {h1 s1 : Bool} {a c : State} (h : Around src x h1 s1 a c)
    (ha : HeldByList a) : HeldByList c := by
  obtain ⟨g, hg, ht⟩ := h.soft
  refine ha.course h.course (fun p hp => ?_) fun hf => by rwa [ht] at hf
  unfold State.blocked at hp
  rw [ht] at hp
  exact hg.blocked _ p hp

/-- The switches of the paths just blocked are off after the list's report (R22). -/
theorem listReport_off (ch : Change) (s : State) (p : Path) (hafter : s.blocked p = true)
    (hbefore : blockedBy ch.before p = false) : ((listReport ch s).switch p).isOff := by
  have hnew : (newlyBlocked ch.before (takeOffers ch s).trips.records).has p = true := by
    have h := takeOffers_blocked ch s p
    unfold State.blocked at hafter
    rw [hafter] at h
    cases p <;> simp [newlyBlocked, PathSet.has, h, hbefore]
  have hoff := openPaths_isOff _ (takeOffers ch s) p hnew
  unfold listReport
  simp only
  split
  · exact hoff
  · split
    · exact leaveRound_keeps_isOff _ p hoff
    · exact hoff

theorem changeRecords_heldByList (o : List Record × Bool) (s : State) (hw : s.working = true) (h : HeldByList s) :
    HeldByList (changeRecords o s) := by
  have hcourse := changeRecords_course o s
  have htrips := changeRecords_trips o s hw
  have hblocked (p : Path) : (changeRecords o s).blocked p = blockedBy o.1 p := by
    unfold State.blocked blockedBy
    rw [htrips, List.any_map]
    rfl
  have hreport (p : Path) (h1 : blockedBy o.1 p = true) (h2 : s.blocked p = false) : ((reported o.1 s).switch p).isOff :=
    listReport_off (foreignChange s.trips.records) (s.withRecords o.1) p h1 h2
  rw [changeRecords_eq] at hcourse ⊢
  intro p hp
  by_cases hold : s.blocked p = true ∨ s.trips.full = true
  · exact hcourse.keeps_isOff p (h p hold)
  · obtain ⟨hnb, hnf⟩ := not_or.1 hold
    rcases hp with hp | hp
    · rw [← changeRecords_eq, hblocked] at hp
      have hoff := hreport p hp (by simpa using hnb)
      split
      · exact (refuseAddition_course _).keeps_isOff p hoff
      · exact hoff
    · have ho : o.2 = true := by
        rw [← changeRecords_eq, htrips] at hp
        simpa [hnf] using hp
      have hfull : (reported o.1 s).trips.full = false := by simpa [reported_full] using hnf
      rw [if_pos ho]
      unfold refuseAddition
      simp only [hfull]
      exact holdBoth_isOff _ p

/-- A change that brings nothing new, and no flag that was clear, moves neither switches nor round (R22, R24, R25). -/
theorem changeRecords_silent (o : List Record × Bool) (s : State) (hw : s.working = true)
    (hblock : ∀ p, blockedBy o.1 p = true → s.blocked p = true)
    (hgain : ∀ r ∈ o.1, r.gainedIn s.rank (foreignChange s.trips.records) = false)
    (hflag : o.2 = false ∨ s.trips.full = true) :
    (changeRecords o s).charge = s.charge ∧ (changeRecords o s).discharge = s.discharge ∧
      (changeRecords o s).reclose = s.reclose := by
  have hempty (l : List Record) (hl : ∀ p, blockedBy l p = blockedBy o.1 p) :
      newlyBlocked s.trips.records l = .empty := newlyBlocked_empty _ _ fun p hp => hblock p (hl p ▸ hp)
  have hends (ps : PathSet) : endsRound s.rank (foreignChange s.trips.records) o.1 ps = false := by
    unfold endsRound
    rw [show (foreignChange s.trips.records).before = s.trips.records from rfl, hempty _ fun _ => rfl,
      Bool.or_eq_false_iff, List.any_eq_false]
    exact ⟨rfl, fun r hr => by simp [hgain r hr]⟩
  have hreport : reported o.1 s = takeOffers (foreignChange s.trips.records) (s.withRecords o.1) := by
    have hb := takeOffers_blocked (foreignChange s.trips.records) (s.withRecords o.1)
    have he := endsRound_takeOffers s.rank (foreignChange s.trips.records) (s.withRecords o.1)
    have hrank : (takeOffers (foreignChange s.trips.records) (s.withRecords o.1)).rank = s.rank :=
      (takeOffers_reach _ _).cond.rank
    unfold reported listReport
    simp only [show (foreignChange s.trips.records).before = s.trips.records from rfl, hempty _ hb, forPaths_empty, hrank, he,
      show (s.withRecords o.1).trips.records = o.1 from rfl, hends]
    split <;> rfl
  have hsame : (reported o.1 s).charge = s.charge ∧ (reported o.1 s).discharge = s.discharge ∧
      (reported o.1 s).reclose = s.reclose := by
    rw [hreport, takeOffers_eq _ (s.withRecords o.1) hw]
    exact ⟨rfl, rfl, rfl⟩
  have hfull := reported_full o.1 s
  rw [changeRecords_eq]
  generalize reported o.1 s = u at hsame hfull
  split
  · rename_i ho
    rw [refuseAddition_of_full u (hfull.trans (hflag.resolve_left (by simp [ho])))]
    exact hsame
  · exact hsame

/-! ### A frame in whole -/

/-- How a frame of `f.src` runs from `s` to `u`: `a` is the station as the list takes the frame, which replaces its records by those
`out` gives. -/
structure FrameRun (f : RxFrame) (x : Aside) (out : List Record → List Record × Bool) (first early : Bool)
    (s a u : State) : Prop where
  before : Around f.src.toNat x first early s a
  taken : listTakes f a = changeRecords (out a.trips.records) a
  after : Around f.src.toNat x (!first) (!early) (listTakes f a) u
  working : s.working = true

variable {f : RxFrame} {x : Aside} {out : List Record → List Record × Bool} {first early : Bool} {s a u : State}

theorem FrameRun.working_a (h : FrameRun f x out first early s a u) : a.working = true := by
  rcases h.before.phase with e | e
  · exact State.working_of_phase e h.working
  · exact e.2

theorem FrameRun.course (h : FrameRun f x out first early s a u) : Course s u :=
  (h.before.course.trans (h.taken ▸ changeRecords_course _ a)).trans h.after.course

theorem FrameRun.rank (h : FrameRun f x out first early s a u) : u.rank = s.rank := by
  rw [h.after.reach.rank, (listTakes_reach f a).cond.rank, h.before.reach.rank]

theorem FrameRun.heldByList (h : FrameRun f x out first early s a u) (hs : HeldByList s) : HeldByList u :=
  h.after.heldByList (h.taken ▸ changeRecords_heldByList _ a h.working_a (h.before.heldByList hs))

/-- The records as the list takes the frame: those of before, softened. -/
theorem FrameRun.records_a (h : FrameRun f x out first early s a u) :
    ∃ g, Softens s.rank g ∧ a.trips = { s.trips with records := s.trips.records.map g } := h.before.soft

/-- What the frame brings beside records, in whatever order. -/
theorem FrameRun.flags (h : FrameRun f x out first early s a u) :
    u.trips.full = (s.trips.full || (out a.trips.records).2) ∧
    u.trips.fullTimer = (if (out a.trips.records).2 then .running s.cfg.tBeat else s.trips.fullTimer) ∧
    u.trips.nextId = s.trips.nextId := by
  obtain ⟨g, _, ha⟩ := h.before.soft
  obtain ⟨g', _, hu⟩ := h.after.soft
  have hcfg : a.cfg = s.cfg := h.before.reach.cfg
  rw [hu, h.taken, changeRecords_trips _ a h.working_a, hcfg, ha]
  exact ⟨rfl, rfl, rfl⟩

/-- A record the list has taken is there at the end, but for its marks (R3, R23). -/
theorem FrameRun.record_stays (h : FrameRun f x out first early s a u) (r : Record) (hr : r ∈ (out a.trips.records).1)
    (ho : r.origin ≠ s.rank) :
    ∃ y ∈ u.trips.records, y.key = r.key ∧ y.tripId = r.tripId ∧ y.paths = r.paths ∧ y.phase = r.phase := by
  obtain ⟨g, hg, hu⟩ := h.after.soft
  rw [(listTakes_reach f a).cond.rank, h.before.reach.rank] at hg
  have hmem : offerRecord (a.phase != .FORMING) a.rank a.trips.records r ∈ (listTakes f a).trips.records := by
    rw [h.taken, changeRecords_trips _ a h.working_a]
    exact List.mem_map_of_mem hr
  refine ⟨g (offerRecord (a.phase != .FORMING) a.rank a.trips.records r), ?_, hg.key _, hg.tripId _, hg.paths _,
    hg.foreign _ ho⟩
  rw [hu]
  exact List.mem_map_of_mem hmem

/-- A change that ends a round as the list takes it has ended it at the end (R22, R116). -/
theorem FrameRun.leavesRound (h : FrameRun f x out first early s a u) (b : State) (met : PathSet)
    (hends : ∀ r, a.reclose.round = some r → (∃ p, r.paths.has p = true ∧ met.has p = true) →
      (changeRecords (out a.trips.records) a).reclose.round = none) : LeavesRound met s (settle b u) := by
  refine h.course.leavesRound b met h.rank fun r hr hmet => h.after.course.keeps_idle ?_
  rw [h.taken]
  rcases h.before.course.round_or_idle with e | e
  · exact hends r (e.trans hr) hmet
  · exact (changeRecords_course _ a).keeps_idle e

/-- A record that gains ACTIVE phase or a new trip id ends a round its paths meet (R22, R116). -/
theorem FrameRun.leaves_of_gained (h : FrameRun f x out first early s a u) (b : State) (r : Record)
    (hr : r ∈ (out a.trips.records).1) (hg : r.gainedIn a.rank (foreignChange a.trips.records) = true) :
    LeavesRound r.paths s (settle b u) :=
  h.leavesRound b r.paths fun k hk ⟨_, hp, hq⟩ =>
    changeRecords_leaves _ a k hk (endsRound_of_gained hr hg (meets_of_shared hq hp))

/-- A path newly blocked ends a round on it (R22, R116). -/
theorem FrameRun.leaves_of_blocked (h : FrameRun f x out first early s a u) (b : State) (p : Path)
    (hs : s.blocked p = false) (ht : (settle b u).blocked p = true) : LeavesRound (onlyPath p) s (settle b u) := by
  obtain ⟨g, hg, ha⟩ := h.before.soft
  obtain ⟨g', hg', hu⟩ := h.after.soft
  have hbefore : blockedBy a.trips.records p = false := by
    rw [ha]
    by_contra hb
    exact absurd (hg.blocked _ p (Bool.eq_true_of_not_eq_false hb)) (by simpa [State.blocked] using hs)
  have hafter : blockedBy (out a.trips.records).1 p = true := by
    unfold State.blocked at ht
    rw [settle_trips, hu] at ht
    have hb := hg'.blocked _ p ht
    rw [h.taken, changeRecords_trips _ a h.working_a] at hb
    unfold blockedBy at hb ⊢
    rw [List.any_map] at hb
    exact hb
  refine h.leavesRound b (onlyPath p) fun r hr ⟨q, hq, hp⟩ => ?_
  have hqp : q = p := by
    cases p <;> cases q <;> first | rfl | exact absurd hp Bool.noConfusion
  exact changeRecords_leaves _ a r hr (endsRound_of_blocked hafter hbefore (hqp ▸ hq))

/-- The list-full flag as it is set ends a round on any path (R25, R116). -/
theorem FrameRun.leaves_of_refused (h : FrameRun f x out first early s a u) (b : State)
    (hr : (out a.trips.records).2 = true) (hs : s.trips.full = false) (met : PathSet) :
    LeavesRound met s (settle b u) := by
  obtain ⟨g, _, ha⟩ := h.before.soft
  refine h.leavesRound b met fun _ _ _ => changeRecords_refusal_leaves _ a hr ?_
  rw [ha]
  exact hs

/-- The phases around the list's part: the station counts as it takes the records, or will have left FORMING (R127, R128). -/
theorem FrameRun.counts (h : FrameRun f x out true early s a u) :
    (a.phase != .FORMING) = ((s.phase != .FORMING) || decide (s.phase = .FORMING ∧ u.phase ≠ .FORMING)) := by
  have hu : u.phase = a.phase := by
    obtain ⟨_, _, hp, _⟩ := h.after.unheard rfl
    rw [hp, listTakes_reach f a]
  rw [hu]
  rcases h.before.phase with e | ⟨e, _⟩
  · rw [e]
    by_cases hf : s.phase = .FORMING <;> simp [hf]
  · rw [bne_iff_ne.2 e]
    by_cases hf : s.phase = .FORMING
    · simp [hf, e]
    · simp [bne_iff_ne.2 hf]

/-- The list after the frame: what the new records make of it, as a member heard leaves it, whichever comes first. -/
theorem FrameRun.records (h : FrameRun f x out first early s a u) (hk : UniqueKeys s)
    (brings : Bool → List Record → List Record)
    (hout : ∀ (counts : Bool) (l : List Record), (l.map Record.key).Nodup →
      (out l).1.map (offerRecord counts s.rank l) = brings counts l)
    (hcommute : ∀ counts : Bool, counts = ((s.phase != .FORMING) || decide (s.phase = .FORMING ∧ u.phase ≠ .FORMING)) →
      brings counts (s.trips.records.map (heardRecord f.src.toNat s u)) =
        (brings (s.phase != .FORMING) s.trips.records).map (heardRecord f.src.toNat s u)) :
    u.trips.records = listHeard f.src.toNat s u (brings (s.phase != .FORMING) s.trips.records) := by
  have hka := h.before.uniqueKeys hk
  have hb : (listTakes f a).trips.records = brings (a.phase != .FORMING) a.trips.records := by
    rw [h.taken, changeRecords_trips _ a h.working_a, h.before.reach.rank]
    exact hout _ _ hka
  have hreach := listTakes_reach f a
  cases first with
  | true =>
      obtain ⟨_, _, hp, ht⟩ := h.after.unheard rfl
      have hpu : u.phase = a.phase := by rw [hp, hreach]
      have ha : a.trips.records = s.trips.records.map (heardRecord f.src.toNat s u) := by
        rw [h.before.trips rfl hk]
        exact listHeard_congr f.src.toNat s s u a _ rfl rfl rfl rfl hpu.symm
      rw [ht, hb, ha, hcommute _ h.counts, listHeard_eq]
  | false =>
      obtain ⟨hr, hc, hp, ht⟩ := h.before.unheard rfl
      have hkb : UniqueKeys (listTakes f a) := (listTakes_scope f a).uniqueKeys hka
      rw [h.after.trips rfl hkb]
      show listHeard f.src.toNat (listTakes f a) u (listTakes f a).trips.records = _
      rw [hb, hp, ht]
      refine listHeard_congr f.src.toNat s (listTakes f a) u u _ ?_ ?_ ?_ ?_ rfl
      · rw [hreach]
        exact hr
      · rw [hreach]
        exact hc
      · rw [hreach.cond.rank, h.before.reach.rank]
      · rw [hreach]
        exact hp

/-- The budget after the frame: the offers counted, before or after the budget's own part (R126 to R129). -/
theorem FrameRun.budget (h : FrameRun f x out first early s a u) (hk : UniqueKeys s)
    (hf : s.phase ≠ .FORMING ∨ u.phase = .FORMING) :
    let n := if s.phase = .FORMING then 0
      else ((out a.trips.records).1.filter (Record.offeredIn s.rank (foreignChange a.trips.records))).length
    u.budget = (x.budget s.budget).raise s.cfg.latchLimit n ∨ u.budget = x.budget (s.budget.raise s.cfg.latchLimit n) := by
  intro n
  have hreach := listTakes_reach f a
  have hpb : (listTakes f a).phase = a.phase := by rw [hreach]
  have hmid : (a.phase = .FORMING ↔ s.phase = .FORMING) ∧ (a.phase ≠ .FORMING ∨ u.phase = .FORMING) := by
    have hau := hpb ▸ h.after.phase
    rcases h.before.phase with e | ⟨e, _⟩
    · exact ⟨by rw [e], by rw [e]; exact hf⟩
    · have hs : s.phase ≠ .FORMING := by
        refine hf.resolve_right fun hu => ?_
        rcases hau with e' | ⟨e', _⟩
        · exact e (e' ▸ hu)
        · exact e' hu
      exact ⟨⟨fun ha => absurd ha e, fun hs' => absurd hs' hs⟩, .inl e⟩
  have ha := h.before.budget hk (by
    by_cases hs : s.phase = .FORMING
    · exact .inr (hmid.1.2 hs)
    · exact .inl hs)
  have hb : (listTakes f a).budget = a.budget.raise s.cfg.latchLimit n := by
    rw [h.taken, changeRecords_budget _ a h.working_a, h.before.reach.cfg, h.before.reach.rank]
    by_cases hs : s.phase = .FORMING
    · simp only [n, if_pos hs, if_pos (hmid.1.2 hs), raise_zero]
    · simp only [n, if_neg hs, if_neg fun g => hs (hmid.1.1 g)]
  have hu := h.after.budget ((listTakes_scope f a).uniqueKeys (h.before.uniqueKeys hk)) (hpb.symm ▸ hmid.2)
  rw [hb, ha] at hu
  cases early with
  | true => exact .inl hu
  | false => exact .inr hu

/-- A frame that brings nothing new and keeps the phase moves neither switches nor round. -/
theorem FrameRun.silent (h : FrameRun f x out first early s a u) (hk : UniqueKeys s) (hp : u.phase = s.phase)
    (hblock : ∀ p, blockedBy (out a.trips.records).1 p = true → a.blocked p = true)
    (hgain : ∀ r ∈ (out a.trips.records).1, r.gainedIn a.rank (foreignChange a.trips.records) = false)
    (hflag : (out a.trips.records).2 = false ∨ s.trips.full = true) :
    u.charge = s.charge ∧ u.discharge = s.discharge ∧ u.reclose.round = s.reclose.round := by
  have hreach := listTakes_reach f a
  have hpb : (listTakes f a).phase = a.phase := by rw [hreach]
  obtain ⟨g, _, ha⟩ := h.before.soft
  have hphases : a.phase = s.phase ∧ u.phase = (listTakes f a).phase := by
    cases first with
    | true =>
        obtain ⟨_, _, e, _⟩ := h.after.unheard rfl
        exact ⟨((e.trans hpb).symm.trans hp), e⟩
    | false =>
        obtain ⟨_, _, e, _⟩ := h.before.unheard rfl
        exact ⟨e, hp.trans (e.symm.trans hpb.symm)⟩
  obtain ⟨c1, d1, r1⟩ := h.before.silent hk hphases.1
  obtain ⟨c2, d2, r2⟩ := changeRecords_silent (out a.trips.records) a h.working_a hblock hgain
    (hflag.imp_right fun hf => by rw [ha]; exact hf)
  rw [← h.taken] at c2 d2 r2
  obtain ⟨c3, d3, r3⟩ := h.after.silent ((listTakes_scope f a).uniqueKeys (h.before.uniqueKeys hk)) hphases.2
  exact ⟨c3.trans (c2.trans c1), d3.trans (d2.trans d1), r3.trans ((congrArg Reclose.round r2).trans r1)⟩

end Sys2Proof.Machine
end

section
/-!
SUPPORT. What a record entry reads as, and what a NOTICE does (R8, R15, R16, R22 to R25, R152, R165).
-/
namespace Sys2Proof.Machine

/-! ### Reading an entry (R15, R165) -/

theorem Kind.ofCode_iff (c : Nat) (k : Kind) :
    Kind.ofCode c = some k ↔ 1 ≤ c ∧
      ([.cellHigh, .cellLow, .chargeOvercurrent, .dischargeOvercurrent, .short, .moduleHot, .moduleCold, .dieHot,
        .imbalance, .senseMismatch, .switchFault, .memberLost, .hold, .unexplainedStop] : List Kind)[c - 1]? = some k := by
  by_cases hc : c ≤ 14
  · interval_cases c <;> simp [Kind.ofCode]
  · have hnone : Kind.ofCode c = none := by
      unfold Kind.ofCode
      split <;> first | rfl | omega
    rw [hnone, List.getElem?_eq_none (by simp; omega)]
    simp

theorem subjectOk_iff (n src : Nat) (k : Kind) (sj : Nat) :
    subjectOk n src k sj = true ↔ (k = .memberLost → 1 ≤ sj ∧ sj ≤ n ∧ sj ≠ src) ∧ (k ≠ .memberLost → sj = 0) := by
  unfold subjectOk
  split <;> simp_all

theorem pathsOk_iff (k : Kind) (ps : PathSet) :
    pathsOk k ps = true ↔ (ps.charge = true ∨ ps.discharge = true) ∧ (k ≠ .hold → ps = kindPaths k) := by
  have hempty : (!ps.isEmpty) = true ↔ ps.charge = true ∨ ps.discharge = true := by
    obtain ⟨c, d⟩ := ps
    cases c <;> cases d <;> simp [PathSet.isEmpty]
  unfold pathsOk
  rw [Bool.and_eq_true, hempty]
  refine and_congr_right fun _ => ?_
  cases k <;> simp [Kind.fixedPaths, kindPaths, bothPaths, PathSet.both]

/-- The path set is in bits 0 and 1 of the state byte (R165). -/
theorem pathSet_ofState (b : Byte) :
    PathSet.ofCode (b.toNat % 4) = { charge := b.getLsbD 0, discharge := b.getLsbD 1 } := by
  have h0 : b.getLsbD 0 = decide (b.toNat % 2 = 1) := Nat.testBit_zero _
  have h1 : b.getLsbD 1 = decide (b.toNat / 2 % 2 = 1) := by
    show b.toNat.testBit (0 + 1) = _
    rw [Nat.testBit_succ, Nat.testBit_zero]
  simp only [PathSet.ofCode, h0, h1, PathSet.mk.injEq, beq_eq_decide, decide_eq_decide]
  omega

/-- The phase is in bit 7 of the state byte (R165). -/
theorem phase_ofState (b : Byte) : 128 ≤ b.toNat ↔ b.getLsbD 7 = true := by
  have h : b.getLsbD 7 = b.msb := rfl
  rw [h, BitVec.msb_eq_decide, decide_eq_true_eq]

/-- An entry reads as R15 and R165 say. -/
theorem read_iff (n src : Nat) (e : EntryBytes) (x : OwnEntry) : e.read n src = some x ↔ ReadsAs n src e x := by
  have hread : e.read n src = (Kind.ofCode e.kind.toNat).bind fun k =>
      if subjectOk n src k e.subject.toNat && e.tripId.toNat != 0 && pathsOk k (PathSet.ofCode (e.state.toNat % 4)) then
        some { kind := k, subject := if e.subject.toNat = 0 then none else some e.subject.toNat
               tripId := e.tripId.toNat, paths := PathSet.ofCode (e.state.toNat % 4)
               phase := if 128 ≤ e.state.toNat then .CLEARED else .ACTIVE }
      else none := by
    unfold EntryBytes.read
    cases Kind.ofCode e.kind.toNat <;> rfl
  have hzero (b : Byte) : b = 0 ↔ b.toNat = 0 := ⟨fun h => h ▸ rfl, fun h => BitVec.eq_of_toNat_eq h⟩
  obtain ⟨kind, subject, tripId, paths, phase⟩ := x
  simp only [hread, Option.bind_eq_some_iff, Option.ite_none_right_eq_some, Bool.and_eq_true, subjectOk_iff, pathsOk_iff,
    bne_iff_ne, OwnEntry.mk.injEq, Option.some.injEq, Kind.ofCode_iff, pathSet_ofState, phase_ofState, ReadsAs, ne_eq, hzero]
  constructor
  · rintro ⟨k, ⟨hk1, hk2⟩, ⟨⟨⟨hlost, hplain⟩, hid⟩, hpaths, hfixed⟩, rfl, rfl, rfl, rfl, rfl⟩
    refine ⟨hk1, hk2, fun h => ?_, fun h => ?_, hid, rfl, rfl, hpaths, hfixed, rfl⟩
    · obtain ⟨h1, h2, h3⟩ := hlost h
      exact ⟨if_neg (by omega), h1, h2, h3⟩
    · exact ⟨if_pos (hplain h), hplain h⟩
  · rintro ⟨hk1, hk2, hlost, hplain, hid, rfl, rfl, hpaths, hfixed, rfl⟩
    refine ⟨kind, ⟨hk1, hk2⟩, ⟨⟨⟨fun h => (hlost h).2, fun h => (hplain h).2⟩, hid⟩, hpaths, hfixed⟩, rfl, ?_, rfl, rfl, rfl⟩
    by_cases h : kind = .memberLost
    · obtain ⟨h1, h2, _⟩ := hlost h
      rw [h1, if_neg (by omega)]
    · rw [(hplain h).1, if_pos (hplain h).2]

/-! ### Records of another origin in the list -/

theorem roomBeside_of_keys (n own : Nat) (l m : List Record) (h : m.map Record.key = l.map Record.key) :
    roomBeside n own m = roomBeside n own l := by
  have hlen : m.length = l.length := by simpa using congrArg List.length h
  have hcount : (m.filter (·.origin = own)).length = (l.filter (·.origin = own)).length := by
    have key (k : List Record) : (k.filter (·.origin = own)).length = ((k.map Record.key).filter (·.1 = own)).length := by
      rw [List.filter_map, List.length_map]
      rfl
    rw [key, key, h]
  unfold roomBeside
  rw [hlen, hcount]

/-- A record that stays under its key is not new (R23). -/
theorem newIn_old {l : List Record} {r : Record} (own : Nat) (hk : (l.map Record.key).Nodup) (hr : r ∈ l) :
    r.newIn own (foreignChange l) = false :=
  Fades.newIn (f := fun r => r) own ⟨rfl, rfl, fun h => ⟨h, rfl⟩⟩ hk hr

theorem offeredIn_old {l : List Record} {r : Record} (own : Nat) (hk : (l.map Record.key).Nodup) (hr : r ∈ l) :
    r.offeredIn own (foreignChange l) = false := by
  simp [Record.offeredIn, newIn_old own hk hr]

theorem offerRecord_old {l : List Record} {r : Record} (counts : Bool) (own : Nat) (hk : (l.map Record.key).Nodup)
    (hr : r ∈ l) : offerRecord counts own l r = r := by
  simp [offerRecord, newIn_old own hk hr]

theorem newIn_foreign (own : Nat) (l : List Record) (r : Record) (h : findRecord r.origin r.kind r.subject l = none) :
    r.newIn own (foreignChange l) = true := by
  simp [Record.newIn, foreignChange, h]

theorem newIn_foreign_held (own : Nat) (l : List Record) (r o : Record)
    (h : findRecord r.origin r.kind r.subject l = some o) :
    r.newIn own (foreignChange l) = (o.tripId != r.tripId) := by
  simp [Record.newIn, foreignChange, h]

theorem reactivatedIn_held (l : List Record) (r o : Record) (h : findRecord r.origin r.kind r.subject l = some o) :
    r.reactivatedIn l = (o.phase == .CLEARED) := by
  simp [Record.reactivatedIn, h]

theorem findRecord_key {o : Nat} {k : Kind} {sj : Option Nat} {l : List Record} {r : Record}
    (h : findRecord o k sj l = some r) : r ∈ l ∧ r.origin = o ∧ r.kind = k ∧ r.subject = sj := by
  have hkey := (Record.hasKey_iff ..).1 (List.find?_some h)
  simp only [Record.key, Prod.mk.injEq] at hkey
  exact ⟨List.mem_of_find?_eq_some h, hkey⟩

/-- A trip id held already keeps its counted flag (R4, R23). -/
theorem broughtRecord_of_same (counts : Bool) (src : Nat) (x : OwnEntry) (phase : RecPhase) (y : Record)
    (h : y.tripId = x.tripId) :
    broughtRecord counts src x phase (some y) = { x.record src with phase := phase, counted := y.counted } := by
  simp [broughtRecord, OwnEntry.record, Option.filter, h]

/-- A new trip id of the current class is counted where the station counts (R23, R127). -/
theorem broughtRecord_of_new (counts : Bool) (src : Nat) (x : OwnEntry) (phase : RecPhase) (old : Option Record)
    (h : ∀ y, old = some y → y.tripId ≠ x.tripId) : broughtRecord counts src x phase old =
      { x.record src with phase := phase, counted := counts && x.kind.currentClass } := by
  cases old with
  | none => rfl
  | some y => simp [broughtRecord, OwnEntry.record, Option.filter, h y rfl]

/-- A record of another origin, as a member heard leaves it, but for its marks. -/
theorem heardRecord_foreign (src : Nat) (s t : State) (r : Record) (h : r.origin ≠ s.rank) :
    heardRecord src s t r = { r with
      stale := if (s.entry src).map (·.status) = some .LOST ∧ r.origin = src then false else r.stale
      counted := r.counted || (decide (s.phase = .FORMING ∧ t.phase ≠ .FORMING) && r.kind.currentClass) } := by
  simp [heardRecord, h]

/-- The record an entry brings, as a member heard leaves it: brought where the station counts by then (R4, R23, R128). -/
theorem heardRecord_brought (src : Nat) (s t : State) (counts : Bool) (x : OwnEntry) (phase : RecPhase)
    (old : Option Record) (hown : src ≠ s.rank) (hold : ∀ y, old = some y → y.kind = x.kind) :
    heardRecord src s t (broughtRecord counts src x phase old) =
      broughtRecord (counts || decide (s.phase = .FORMING ∧ t.phase ≠ .FORMING)) src x phase
        (old.map (heardRecord src s t)) := by
  by_cases hsame : ∃ y, old = some y ∧ y.tripId = x.tripId
  · obtain ⟨y, rfl, hid⟩ := hsame
    rw [Option.map_some, broughtRecord_of_same _ _ _ _ y hid,
      broughtRecord_of_same _ _ _ _ (heardRecord src s t y) hid, heardRecord_foreign _ _ _ _ hown]
    simp [OwnEntry.record, heardRecord, hold y rfl]
  · have hnew : ∀ y, old = some y → y.tripId ≠ x.tripId := fun y hy hid => hsame ⟨y, hy, hid⟩
    have hnew' : ∀ y, old.map (heardRecord src s t) = some y → y.tripId ≠ x.tripId := by
      intro y hy
      obtain ⟨z, hz, rfl⟩ := Option.map_eq_some_iff.1 hy
      exact hnew z hz
    rw [broughtRecord_of_new _ _ _ _ _ hnew, broughtRecord_of_new _ _ _ _ _ hnew', heardRecord_foreign _ _ _ _ hown]
    simp [OwnEntry.record, Bool.and_or_distrib_right]

/-- The record an entry gives the one held under its key, its offer made (R4, R16, R17, R23). -/
theorem offerRecord_held (counts : Bool) (own src : Nat) (x : OwnEntry) (phase : RecPhase) (l : List Record) (r : Record)
    (st : Bool) (h : findRecord src x.kind x.subject l = some r) :
    offerRecord counts own l { x.record src with phase := phase, stale := st, counted := r.counted && r.tripId == x.tripId } =
      { broughtRecord counts src x phase (some r) with stale := st } := by
  unfold offerRecord
  rw [newIn_foreign_held own l _ r h]
  by_cases hid : r.tripId = x.tripId
  · rw [broughtRecord_of_same _ _ _ _ r hid]
    simp [OwnEntry.record, hid]
  · have hbeq : (r.tripId == x.tripId) = false := by simpa using hid
    rw [broughtRecord_of_new _ _ _ _ (some r) fun y hy => Option.some.inj hy ▸ hid]
    simp [OwnEntry.record, bne, hbeq]

/-- A record that joins, its offer made (R16, R17, R23). -/
theorem offerRecord_joins (counts : Bool) (own src : Nat) (x : OwnEntry) (phase : RecPhase) (l : List Record)
    (h : findRecord src x.kind x.subject l = none) :
    offerRecord counts own l { x.record src with phase := phase } = broughtRecord counts src x phase none := by
  unfold offerRecord
  rw [newIn_foreign own l _ h, broughtRecord_of_new _ _ _ _ none (by simp)]
  simp [OwnEntry.record]

theorem heardRecord_softens (src : Nat) (s t : State) : Softens s.rank (heardRecord src s t) := by
  refine ⟨fun _ => rfl, fun _ => rfl, fun _ => rfl, fun r hr => ?_, fun r ho => ?_⟩
  · simp only [heardRecord] at hr
    split at hr
    · exact absurd hr RecPhase.noConfusion
    · exact hr
  · simp [heardRecord, ho]

/-! ### The list a NOTICE leaves (R16) -/

/-- The list after a NOTICE of the entry `x`, as the statement has it. -/
def noticeList (n own src : Nat) (x : OwnEntry) (counts : Bool) (l : List Record) : List Record :=
  match findRecord src x.kind x.subject l with
  | some y => l.map fun r => if r.origin = src ∧ r.kind = x.kind ∧ r.subject = x.subject
      then { broughtRecord counts src x .ACTIVE (some y) with stale := y.stale } else r
  | none => if 0 < roomBeside n own l then l ++ [broughtRecord counts src x .ACTIVE none] else l

theorem OwnEntry.keys_iff_fields (src : Nat) (x : OwnEntry) (r : Record) :
    x.keys src r = true ↔ r.origin = src ∧ r.kind = x.kind ∧ r.subject = x.subject := by
  rw [OwnEntry.keys_iff]
  simp [Record.key]

theorem any_keys_iff (src : Nat) (x : OwnEntry) (l : List Record) :
    (l.any fun r => x.keys src r) = true ↔ findRecord src x.kind x.subject l ≠ none := by
  rw [ne_eq, findRecord_none_iff, not_not, List.any_eq_true]
  simp [OwnEntry.keys_iff]

/-- With the keys apart, the record an entry keys is the one found under its key (R5). -/
theorem eq_of_keys {src : Nat} {x : OwnEntry} {l : List Record} {r y : Record} (hk : (l.map Record.key).Nodup)
    (hf : findRecord src x.kind x.subject l = some y) (hr : r ∈ l) (hkey : x.keys src r = true) : r = y := by
  obtain ⟨ho, hkind, hs⟩ := (OwnEntry.keys_iff_fields src x r).1 hkey
  have h := findRecord_of_mem hk hr
  rw [ho, hkind, hs, hf, Option.some.injEq] at h
  exact h.symm

theorem OwnEntry.notify_eq {src : Nat} {x : OwnEntry} {r : Record} (hkey : x.keys src r = true) :
    x.notify r = { x.record src with phase := .ACTIVE, stale := r.stale, counted := r.counted && r.tripId == x.tripId } := by
  obtain ⟨rfl, hkind, hs⟩ := (OwnEntry.keys_iff_fields src x r).1 hkey
  simp [OwnEntry.notify, OwnEntry.record, hkind, hs]

theorem noticeRecords_held (n own src : Nat) (x : OwnEntry) (l : List Record)
    (h : findRecord src x.kind x.subject l ≠ none) :
    noticeRecords n own src x l = (l.map fun r => if x.keys src r then x.notify r else r, false) := by
  unfold noticeRecords
  rw [if_pos ((any_keys_iff src x l).2 h)]

theorem noticeRecords_absent (n own src : Nat) (x : OwnEntry) (l : List Record)
    (h : findRecord src x.kind x.subject l = none) :
    noticeRecords n own src x l = if 0 < roomBeside n own l then (l ++ [{ x.record src with phase := .ACTIVE }], false)
      else (l, true) := by
  unfold noticeRecords addForeign
  rw [if_neg (fun g => (any_keys_iff src x l).1 g h)]
  simp only [hasRoom_iff]

/-- The list a NOTICE leaves, its offer made (R16, R23, R127). -/
theorem noticeRecords_offered (n own src : Nat) (x : OwnEntry) (counts : Bool) (l : List Record)
    (hk : (l.map Record.key).Nodup) :
    (noticeRecords n own src x l).1.map (offerRecord counts own l) = noticeList n own src x counts l := by
  have hold : l.map (offerRecord counts own l) = l := by
    conv_rhs => rw [← List.map_id l]
    exact List.map_congr_left fun r hr => offerRecord_old counts own hk hr
  unfold noticeList
  cases hf : findRecord src x.kind x.subject l with
  | none =>
      rw [noticeRecords_absent n own src x l hf]
      split
      · rw [List.map_append, hold, List.map_singleton, offerRecord_joins counts own src x .ACTIVE l hf]
      · exact hold
  | some y =>
      rw [noticeRecords_held n own src x l (by simp [hf]), List.map_map]
      refine List.map_congr_left fun r hr => ?_
      simp only [Function.comp_apply]
      by_cases hkey : x.keys src r = true
      · obtain rfl := eq_of_keys hk hf hr hkey
        rw [if_pos hkey, if_pos ((OwnEntry.keys_iff_fields src x r).1 hkey), ← offerRecord_held counts own src x .ACTIVE l r _ hf]
        rw [OwnEntry.notify_eq hkey]
      · rw [if_neg hkey, if_neg fun g => hkey ((OwnEntry.keys_iff_fields src x r).2 g)]
        exact offerRecord_old counts own hk hr

/-- The list a NOTICE leaves, a member heard before or after. -/
theorem noticeList_heard (n src : Nat) (x : OwnEntry) (s t : State) (counts : Bool) (l : List Record) (hown : src ≠ s.rank) :
    noticeList n s.rank src x (counts || decide (s.phase = .FORMING ∧ t.phase ≠ .FORMING)) (l.map (heardRecord src s t)) =
      (noticeList n s.rank src x counts l).map (heardRecord src s t) := by
  have hsoft := heardRecord_softens src s t
  unfold noticeList
  rw [hsoft.findRecord]
  cases hf : findRecord src x.kind x.subject l with
  | none =>
      have hbrought := heardRecord_brought src s t counts x .ACTIVE none hown (by simp)
      simp only [Option.map_none, roomBeside_of_keys n s.rank l _ (hsoft.keys l)] at *
      split
      · rw [List.map_append, List.map_singleton, hbrought]
      · rfl
  | some y =>
      obtain ⟨_, hyo, hyk, _⟩ := findRecord_key hf
      have hbrought := heardRecord_brought src s t counts x .ACTIVE (some y) hown (by simp [hyk])
      simp only [Option.map_some, List.map_map] at *
      refine List.map_congr_left fun r _ => ?_
      have hkey : ((heardRecord src s t r).origin = src ∧ (heardRecord src s t r).kind = x.kind ∧
          (heardRecord src s t r).subject = x.subject) ↔ (r.origin = src ∧ r.kind = x.kind ∧ r.subject = x.subject) := Iff.rfl
      simp only [Function.comp_apply, hkey]
      split
      · rw [← hbrought]
        simp only [heardRecord, broughtRecord, hyo]
      · rfl

/-! ### What a NOTICE's record is to the rest (R22, R23) -/

/-- The record of a NOTICE, where it is held or has room (R16). -/
theorem noticeRecords_record (n own src : Nat) (x : OwnEntry) (l : List Record)
    (h : findRecord src x.kind x.subject l ≠ none ∨ 0 < roomBeside n own l) :
    ∃ r ∈ (noticeRecords n own src x l).1, r.origin = src ∧ r.kind = x.kind ∧ r.subject = x.subject ∧
      r.tripId = x.tripId ∧ r.paths = x.paths ∧ r.phase = .ACTIVE := by
  cases hf : findRecord src x.kind x.subject l with
  | none =>
      rw [noticeRecords_absent n own src x l hf, if_pos (h.resolve_left fun g => g hf)]
      exact ⟨{ x.record src with phase := .ACTIVE }, by simp, rfl, rfl, rfl, rfl, rfl, rfl⟩
  | some y =>
      obtain ⟨hy, ho, hk, hs⟩ := findRecord_key hf
      rw [noticeRecords_held n own src x l (by simp [hf])]
      refine ⟨x.notify y, List.mem_map.2 ⟨y, hy, if_pos ((OwnEntry.keys_iff_fields src x y).2 ⟨ho, hk, hs⟩)⟩, ?_⟩
      exact ⟨ho, hk, hs, rfl, rfl, rfl⟩

theorem noticeRecords_refused (n own src : Nat) (x : OwnEntry) (l : List Record) :
    (noticeRecords n own src x l).2 = true ↔
      findRecord src x.kind x.subject l = none ∧ ¬ 0 < roomBeside n own l := by
  cases hf : findRecord src x.kind x.subject l with
  | none =>
      rw [noticeRecords_absent n own src x l hf]
      split <;> simp_all
  | some y =>
      rw [noticeRecords_held n own src x l (by simp [hf])]
      simp

/-- An ACTIVE record that was absent, CLEARED or of another trip id gains (R22). -/
theorem gainedIn_foreign (own : Nat) (l : List Record) (r : Record) (hp : r.phase = .ACTIVE)
    (h : ∀ y, findRecord r.origin r.kind r.subject l = some y → y.phase = .CLEARED ∨ y.tripId ≠ r.tripId) :
    r.gainedIn own (foreignChange l) = true := by
  unfold Record.gainedIn
  rw [hp, show (foreignChange l).before = l from rfl]
  cases hf : findRecord r.origin r.kind r.subject l with
  | none => simp [newIn_foreign own l r hf]
  | some y =>
      rw [newIn_foreign_held own l r y hf, reactivatedIn_held l r y hf]
      rcases h y hf with e | e <;> simp [e]

/-- With the keys apart, one record has a key that is held (R5). -/
theorem filter_hasKey {l : List Record} {y : Record} {o : Nat} {k : Kind} {sj : Option Nat} (hk : (l.map Record.key).Nodup)
    (h : findRecord o k sj l = some y) : (l.filter (Record.hasKey o k sj)).length = 1 := by
  have hmem : (o, k, sj) ∈ l.map Record.key := by
    by_contra hn
    rw [(findRecord_none_iff ..).2 hn] at h
    exact absurd h (by simp)
  have hcount := List.count_eq_one_of_mem hk hmem
  rw [List.count, List.countP_map, List.countP_eq_length_filter] at hcount
  rw [← hcount]
  congr 1
  refine List.filter_congr fun r _ => ?_
  rw [Bool.eq_iff_iff, Record.hasKey_iff]
  simp

/-- How many records a NOTICE has the budget count: its own where the trip is a new one of the current class (R23, R127). -/
theorem noticeRecords_offers (n own src : Nat) (x : OwnEntry) (l : List Record) (hk : (l.map Record.key).Nodup) :
    ((noticeRecords n own src x l).1.filter (Record.offeredIn own (foreignChange l))).length =
      if x.kind.currentClass = true ∧ (findRecord src x.kind x.subject l).map (·.tripId) ≠ some x.tripId ∧
          ((findRecord src x.kind x.subject l).isSome = true ∨ 0 < roomBeside n own l) then 1 else 0 := by
  have holds : l.filter (Record.offeredIn own (foreignChange l)) = [] :=
    List.filter_eq_nil_iff.2 fun r hr => by simp [offeredIn_old own hk hr]
  cases hf : findRecord src x.kind x.subject l with
  | none =>
      rw [noticeRecords_absent n own src x l hf]
      have hnew : ({ x.record src with phase := .ACTIVE } : Record).offeredIn own (foreignChange l) = x.kind.currentClass := by
        unfold Record.offeredIn
        rw [newIn_foreign own l _ hf]
        simp [OwnEntry.record]
      by_cases hroom : 0 < roomBeside n own l
      · rw [if_pos hroom, List.filter_append, holds]
        cases hc : x.kind.currentClass <;> simp [hroom, hnew, hc]
      · rw [if_neg hroom, holds]
        simp [hroom]
  | some y =>
      rw [noticeRecords_held n own src x l (by simp [hf]), List.filter_map, List.length_map]
      have hoffer (r : Record) (hr : r ∈ l) : (Record.offeredIn own (foreignChange l) ∘
          fun r => if x.keys src r then x.notify r else r) r =
          (decide (x.kind.currentClass = true ∧ y.tripId ≠ x.tripId) && r.hasKey src x.kind x.subject) := by
        simp only [Function.comp_apply]
        by_cases hkey : x.keys src r = true
        · obtain rfl := eq_of_keys hk hf hr hkey
          rw [if_pos hkey, show r.hasKey src x.kind x.subject = true from hkey, OwnEntry.notify_eq hkey]
          unfold Record.offeredIn
          rw [newIn_foreign_held own l _ r hf]
          by_cases hid : r.tripId = x.tripId
          · simp [OwnEntry.record, hid]
          · have hbeq : (r.tripId == x.tripId) = false := by simpa using hid
            simp [OwnEntry.record, bne, hbeq, hid]
        · rw [if_neg hkey, offeredIn_old own hk hr, show r.hasKey src x.kind x.subject = false from Bool.eq_false_iff.2 hkey]
          simp
      rw [List.filter_congr hoffer]
      by_cases hc : x.kind.currentClass = true ∧ y.tripId ≠ x.tripId
      · simp only [decide_eq_true hc, Bool.true_and, filter_hasKey hk hf]
        simp [hc.1, hc.2]
      · simp only [decide_eq_false hc, Bool.false_and, List.filter_false, List.length_nil]
        rw [if_neg]
        rintro ⟨h1, h2, _⟩
        exact hc ⟨h1, by simpa using h2⟩

end Sys2Proof.Machine
end

section
/-!
SUPPORT. A BEAT and a NOTICE of a roster rank as a run of their blocks, and the proof that a NOTICE adds its record or makes it
ACTIVE (R16, R22 to R25, R116, R127, R152).
-/
namespace Sys2Proof.Machine

/-! ### A frame to all, taken by its blocks -/

theorem isRosterRank_of_mem_members (r : Nat) (s : State) (h : r ∈ s.members) : s.isRosterRank r = true := by
  obtain ⟨e, he, hr⟩ := List.mem_map.1 h
  unfold State.isRosterRank State.entry
  rw [List.find?_isSome]
  exact ⟨e, he, by simpa using hr⟩

theorem receive_toAll (src : Byte) (c : Content) (s : State) (hw : s.working = true) (hlisten : s.link.discarding = false)
    (hsrc : rankByteOk src = true) (hdst : c.dstOk 0 = true) (hbody : c.bodyOk = true) :
    receive (toAll src c) s = settle s.heard (inAnyOrder (takers (toAll src c)) s.heard) := by
  have hvalid : (toAll src c).valid = true := by
    unfold RxFrame.valid
    rw [Bool.and_eq_true, Bool.and_eq_true]
    exact ⟨⟨hsrc, hdst⟩, hbody⟩
  have hloading : s.phase ≠ .LOADING := fun h => by
    rw [State.working, h] at hw
    exact Bool.noConfusion hw
  have hhalted : s.phase ≠ .HALTED := fun h => by
    rw [State.working, h] at hw
    exact Bool.noConfusion hw
  rw [receive_listening _ s hloading hlisten, if_pos hvalid]
  unfold distribute
  have hp : (s.count Counters.good).phase = s.phase := rfl
  split
  · exact absurd (hp.symm.trans ‹_›) hloading
  · exact absurd (hp.symm.trans ‹_›) hhalted
  · rfl

/-- A BEAT or a NOTICE of a roster rank runs as `FrameRun` says: membership unit and the block `side` before or after the list. -/
theorem frame_run (f : RxFrame) (x : Aside) (out : List Record → List Record × Bool) (side : Taker) (e : Entry)
    (ids : List Taker) (s : State) (htakers : takers f = ids.map (Taker.act f)) (hnodup : ids.Nodup)
    (hlist : Taker.list ∈ ids) (hmember : Taker.membership ∈ ids) (hsidemem : side ∈ ids)
    (hside : ∀ i ∈ ids, i ≠ .membership → i ≠ .list → ∀ a, a.cfg = s.cfg → f.src.toNat ∈ a.members →
      Around f.src.toNat x false (decide (i = side)) a (i.act f a))
    (hnot : side ≠ .membership) (hnotlist : side ≠ .list) (hw : s.working = true) (hown : f.src.toNat ≠ s.rank)
    (he : s.entry f.src.toNat = some e)
    (htake : ∀ a, a.cfg = s.cfg → a.rank = s.rank → a.isRosterRank f.src.toNat = true →
      listTakes f a = changeRecords (out a.trips.records) a) :
    ∃ first early a, FrameRun f x out first early s a (inAnyOrder (takers f) s) := by
  obtain ⟨a, first, early, hbefore, hafter⟩ :=
    frame_around f x side e ids s hnodup hlist hmember hsidemem hside hnot hnotlist hown he
  have hmem : f.src.toNat ∈ a.members := hbefore.members ▸ mem_members_of_entry _ e s he
  refine ⟨first, early, a, hbefore, htake a hbefore.reach.cfg hbefore.reach.rank (isRosterRank_of_mem_members _ a hmem), ?_, hw⟩
  rw [htakers]
  exact hafter

/-! ### A NOTICE (R16, R152) -/

/-- A SHORT satisfies an open window (R152); the retry budget takes no part. -/
def noticeAside (x : OwnEntry) : Aside := { budget := fun b => b, stop := if x.kind = .short then StopLine.closeWindow else id }

/-- A NOTICE of the entry `x` as the station `s` takes it. -/
def NoticeRun (src : Byte) (n : EntryBytes) (x : OwnEntry) (first early : Bool) (s a u : State) : Prop :=
  FrameRun (toAll src (.notice n)) (noticeAside x) (noticeRecords s.cfg.memberCount s.rank src.toNat x) first early s a u

theorem windowTakes_around (src : Byte) (n : EntryBytes) (x : OwnEntry) (a : State) (hmem : src.toNat ∈ a.members)
    (hread : n.read a.cfg.memberCount src.toNat = some x) :
    Around src.toNat (noticeAside x) false true a (windowTakes (toAll src (.notice n)) a) := by
  have hroster := isRosterRank_of_mem_members _ a hmem
  have heq : windowTakes (toAll src (.notice n)) a = a.withStop ((noticeAside x).stop a.stop) := by
    unfold windowTakes noticeAside toAll
    simp only [hroster, hread, true_and, Option.map_some, Option.some.injEq]
    split <;> rfl
  rw [heq]
  exact around_aside _ _ true a _ rfl (course_of_same rfl rfl rfl rfl rfl) rfl rfl rfl rfl rfl rfl rfl rfl rfl

theorem notice_run (src : Byte) (n : EntryBytes) (x : OwnEntry) (e : Entry) (s : State) (hw : s.working = true)
    (hown : src.toNat ≠ s.rank) (he : s.entry src.toNat = some e) (hread : n.read s.cfg.memberCount src.toNat = some x) :
    ∃ first early a, NoticeRun src n x first early s a (inAnyOrder (takers (toAll src (.notice n))) s) := by
  refine frame_run (toAll src (.notice n)) (noticeAside x) _ .window e [.membership, .list, .window] s rfl (by decide)
    (by decide) (by decide) (by decide) (fun i hi hm hl a hcfg hmem => ?_) (by decide) (by decide) hw hown he
    fun a hcfg hrank hroster => ?_
  · have hi : i = .window := by
      simp only [List.mem_cons, List.not_mem_nil, or_false] at hi
      exact (hi.resolve_left hm).resolve_left hl
    subst hi
    exact windowTakes_around src n x a hmem (hcfg ▸ hread)
  · have hroster : a.isRosterRank src.toNat = true := hroster
    unfold listTakes toAll
    simp only [hroster, hcfg, hread, hrank, Bool.not_true, Bool.false_eq_true, if_false]

variable {src : Byte} {n : EntryBytes} {x : OwnEntry} {first early : Bool} {s a u : State}

/-- What the list held under the NOTICE's key as it took the frame. -/
theorem NoticeRun.held_a (h : NoticeRun src n x first early s a u) : ∃ g, Softens s.rank g ∧
    findRecord src.toNat x.kind x.subject a.trips.records = (findRecord src.toNat x.kind x.subject s.trips.records).map g ∧
    roomBeside s.cfg.memberCount s.rank a.trips.records = roomBeside s.cfg.memberCount s.rank s.trips.records := by
  obtain ⟨g, hg, ha⟩ := FrameRun.records_a h
  rw [ha]
  exact ⟨g, hg, hg.findRecord .., roomBeside_of_keys _ _ _ _ (hg.keys _)⟩

theorem NoticeRun.refused_iff (h : NoticeRun src n x first early s a u) :
    (noticeRecords s.cfg.memberCount s.rank src.toNat x a.trips.records).2 = true ↔
      findRecord src.toNat x.kind x.subject s.trips.records = none ∧
        ¬ 0 < roomBeside s.cfg.memberCount s.rank s.trips.records := by
  obtain ⟨g, _, hheld, hroom⟩ := h.held_a
  rw [noticeRecords_refused, hheld, hroom, Option.map_eq_none_iff]

/-- A NOTICE whose record is held or has room (R16, R22). -/
theorem NoticeRun.accepted (h : NoticeRun src n x first early s a u) (b : State) (hoff : HeldByList s)
    (hown : src.toNat ≠ s.rank)
    (hfits : (findRecord src.toNat x.kind x.subject s.trips.records).isSome = true ∨
      0 < roomBeside s.cfg.memberCount s.rank s.trips.records) :
    (∃ r ∈ u.trips.records, r.origin = src.toNat ∧ r.kind = x.kind ∧ r.subject = x.subject ∧
      r.tripId = x.tripId ∧ r.paths = x.paths ∧ r.phase = .ACTIVE) ∧
    (∀ p, x.paths.has p = true → (u.switch p).isOff) ∧
    u.trips.full = s.trips.full ∧ u.trips.fullTimer = s.trips.fullTimer ∧
    ((∀ y, findRecord src.toNat x.kind x.subject s.trips.records = some y → y.phase = .CLEARED ∨ y.tripId ≠ x.tripId) →
      LeavesRound x.paths s (settle b u)) := by
  obtain ⟨g, hg, hheld, hroom⟩ := h.held_a
  have hfits' : findRecord src.toNat x.kind x.subject a.trips.records ≠ none ∨
      0 < roomBeside s.cfg.memberCount s.rank a.trips.records := by
    rw [hheld, hroom, ne_eq, Option.map_eq_none_iff, ← ne_eq, ← Option.isSome_iff_ne_none]
    exact hfits
  have hnot : (noticeRecords s.cfg.memberCount s.rank src.toNat x a.trips.records).2 = false := by
    rw [← Bool.not_eq_true, h.refused_iff, ← Option.not_isSome_iff_eq_none]
    tauto
  obtain ⟨hfull, htimer, _⟩ := FrameRun.flags h
  rw [hnot] at hfull htimer
  obtain ⟨r, hr, ho, hk, hsj, hid, hps, hp⟩ :=
    noticeRecords_record s.cfg.memberCount s.rank src.toNat x a.trips.records hfits'
  obtain ⟨y, hy, hkey, hyid, hyps, hyp⟩ := FrameRun.record_stays h r hr (by rwa [ho])
  obtain ⟨hyo, hyk, hys⟩ := Record.key_eq.1 hkey
  have hactive : y.phase = .ACTIVE := hyp.trans hp
  have hpaths : y.paths = x.paths := hyps.trans hps
  refine ⟨⟨y, hy, hyo.trans ho, hyk.trans hk, hys.trans hsj, hyid.trans hid, hpaths, hactive⟩, fun p hpath => ?_,
    by simpa using hfull, by simpa using htimer, fun hgain => ?_⟩
  · refine FrameRun.heldByList h hoff p (.inl (List.any_eq_true.2 ⟨y, hy, ?_⟩))
    simp [Record.blocks, hactive, hpaths, hpath]
  · refine hps ▸ FrameRun.leaves_of_gained h b r hr (gainedIn_foreign _ _ r hp fun z hz => ?_)
    rw [ho, hk, hsj, hheld, Option.map_eq_some_iff] at hz
    obtain ⟨w, hw, rfl⟩ := hz
    obtain ⟨_, hwo, _, _⟩ := findRecord_key hw
    rw [hg.foreign w (by rwa [hwo]), hg.tripId, hid]
    exact hgain w hw

/-- A NOTICE with no room for its record (R24, R25). -/
theorem NoticeRun.refused (h : NoticeRun src n x first early s a u) (b : State) (hoff : HeldByList s)
    (hnone : findRecord src.toNat x.kind x.subject s.trips.records = none)
    (hroom : ¬ 0 < roomBeside s.cfg.memberCount s.rank s.trips.records) :
    u.trips.full = true ∧ u.trips.fullTimer = .running s.cfg.tBeat ∧
    u.trips.records.length = s.trips.records.length ∧ u.charge.isOff ∧ u.discharge.isOff ∧
    (s.trips.full = false → LeavesRound bothPaths s (settle b u)) := by
  have hrefused := h.refused_iff.2 ⟨hnone, hroom⟩
  obtain ⟨hfull, htimer, _⟩ := FrameRun.flags h
  rw [hrefused] at hfull htimer
  have hfull : u.trips.full = true := by simpa using hfull
  have hlen : u.trips.records.length = s.trips.records.length := by
    obtain ⟨g, _, hheld, hroom'⟩ := h.held_a
    obtain ⟨g', _, hu⟩ := h.after.soft
    obtain ⟨k, _, ha⟩ := FrameRun.records_a h
    have hout : (noticeRecords s.cfg.memberCount s.rank src.toNat x a.trips.records).1 = a.trips.records := by
      rw [noticeRecords_absent _ _ _ _ _ (by rw [hheld, hnone]; rfl), hroom', if_neg hroom]
    rw [hu, h.taken, changeRecords_trips _ a h.working_a]
    simp only [List.length_map, hout]
    rw [ha, List.length_map]
  have hoff' := FrameRun.heldByList h hoff
  exact ⟨hfull, by simpa using htimer, hlen, hoff' .charge (.inr hfull), hoff' .discharge (.inr hfull),
    fun hs => FrameRun.leaves_of_refused h b hrefused hs bothPaths⟩

/-- The list after a NOTICE, with the keys apart (R3, R16, R128). -/
theorem NoticeRun.records_eq (h : NoticeRun src n x first early s a u) (hk : UniqueKeys s) (hown : src.toNat ≠ s.rank) :
    u.trips.records = listHeard src.toNat s u
      (noticeList s.cfg.memberCount s.rank src.toNat x (s.phase != .FORMING) s.trips.records) :=
  FrameRun.records h hk (fun counts l => noticeList s.cfg.memberCount s.rank src.toNat x counts l)
    (fun counts l hl => noticeRecords_offered _ _ _ _ counts l hl)
    fun _ hc => hc ▸ noticeList_heard s.cfg.memberCount src.toNat x s u _ s.trips.records hown

/-- The count after a NOTICE, with the keys apart (R23, R126, R127). -/
theorem NoticeRun.count_eq (h : NoticeRun src n x first early s a u) (hk : UniqueKeys s) :
    (s.phase = .FORMING → u.phase = .FORMING → u.budget.count = s.budget.count) ∧
    (s.phase ≠ .FORMING → u.budget.count =
      if x.kind.currentClass = true ∧
          (findRecord src.toNat x.kind x.subject s.trips.records).map (·.tripId) ≠ some x.tripId ∧
          ((findRecord src.toNat x.kind x.subject s.trips.records).isSome = true ∨
            0 < roomBeside s.cfg.memberCount s.rank s.trips.records) then
        countPlus s.cfg.latchLimit s.budget.count 1
      else s.budget.count) := by
  refine ⟨fun hs hu => ?_, fun hs => ?_⟩
  · have hb := FrameRun.budget h hk (.inr hu)
    simp only [if_pos hs, raise_zero, noticeAside, or_self] at hb
    rw [hb]
  · obtain ⟨g, hg, hheld, hroom⟩ := h.held_a
    have hb := FrameRun.budget h hk (.inl hs)
    simp only [if_neg hs, noticeAside, or_self,
      noticeRecords_offers _ _ _ _ _ (h.before.uniqueKeys hk : (a.trips.records.map Record.key).Nodup), hheld, hroom,
      Option.map_map, Option.isSome_map, show (fun r : Record => r.tripId) ∘ g = fun r => r.tripId from funext hg.tripId] at hb
    rw [hb]
    split
    · rfl
    · rw [raise_zero]

/-- What a NOTICE leaves besides list, switches and round (R16, R152). -/
theorem NoticeRun.rest (h : NoticeRun src n x first early s a u) :
    u.trips.nextId = s.trips.nextId ∧ u.budget.epoch = s.budget.epoch ∧ u.stop = (noticeAside x).stop s.stop ∧
    u.meas = s.meas ∧ u.beats = s.beats ∧ u.cfg = s.cfg := by
  obtain ⟨_, _, hid⟩ := FrameRun.flags h
  have hlist := listTakes_reach (toAll src (.notice n)) a
  have hbudget : (listTakes (toAll src (.notice n)) a).budget.epoch = a.budget.epoch := by
    rw [h.taken, changeRecords_budget _ a h.working_a]
    split <;> rfl
  have hstop : u.stop = (noticeAside x).stop s.stop := by
    have h1 := h.before.stop
    have h2 := h.after.stop
    rw [show (listTakes (toAll src (.notice n)) a).stop = a.stop by rw [hlist]] at h2
    cases early with
    | true => exact h2.trans h1
    | false => exact h2.trans (congrArg (noticeAside x).stop h1)
  have hsame {β : Type} (view : State → β) (hf : ∀ {p q : State}, FrameReach p q → view q = view p)
      (hl : ∀ {p q : State}, ListReach p q → view q = view p) : view u = view s :=
    (hf h.after.reach).trans ((hl hlist).trans (hf h.before.reach))
  refine ⟨hid, (h.after.epoch fun _ => rfl).trans (hbudget.trans (h.before.epoch fun _ => rfl)), hstop,
    hsame State.meas ?_ ?_, hsame State.beats ?_ ?_, hsame State.cfg ?_ ?_⟩
  all_goals
    intro p q hpq
    rw [hpq]

theorem noticeAside_stop (x : OwnEntry) (l : StopLine) :
    (x.kind = .short → (noticeAside x).stop l = { l with window := .stopped }) ∧
      (x.kind ≠ .short → (noticeAside x).stop l = l) := by
  unfold noticeAside
  refine ⟨fun h => ?_, fun h => ?_⟩
  · rw [if_pos h]
    rfl
  · rw [if_neg h]
    rfl

/-- Settles O36: the list takes the NOTICE between what the other blocks do before and after it, which softens its records and moves
neither budget nor stop line beyond a SHORT's window; so what its record is, what it ends and what it counts stands at the end. -/
theorem noticeAddsOrActivates : Obligations.NoticeAddsOrActivates := by
  refine ⟨fun src n s e x hw hlisten hheld hsrc hown he hread => ?_, read_iff⟩
  obtain ⟨first, early, a, h⟩ := notice_run src n x e s.heard hw hown he hread
  have hoff : HeldByList s.heard := hheld.list
  refine ⟨_, congrArg Host.Outcome.next (receive_toAll src (.notice n) s hw hlisten hsrc rfl rfl), ?_⟩
  generalize inAnyOrder (takers (toAll src (.notice n))) s.heard = u at h
  have hswitch (p : Path) : (settle s.heard u).switch p = u.switch p := by cases p <;> simp
  have hblocked := fun p => FrameRun.leaves_of_blocked h s.heard p
  obtain ⟨hid, hepoch, hstop, hmeas, hbeats, hcfg⟩ := h.rest
  simp only [hswitch, settle_trips, settle_charge, settle_discharge, settle_phase, settle_budget_count, settle_budget_epoch,
    settle_stop, settle_meas, settle_beats, settle_cfg]
  refine ⟨fun hfits => ?_, fun hnone hroom => h.refused s.heard hoff hnone hroom, fun hk => ⟨?_, h.count_eq hk⟩, hid, hepoch,
    fun hshort => hstop.trans ((noticeAside_stop x _).1 hshort), fun hshort => hstop.trans ((noticeAside_stop x _).2 hshort),
    hmeas, hbeats, hcfg⟩
  · obtain ⟨hrecord, hpaths, hfull, htimer, hgain⟩ := h.accepted s.heard hoff hown hfits
    exact ⟨hrecord, hpaths, hfull, htimer, hgain, hblocked⟩
  · refine (h.records_eq hk hown).trans ?_
    rw [listHeard_congr src.toNat s s.heard (settle s.heard u) u _ rfl rfl rfl rfl (settle_phase _ _).symm]
    refine congrArg _ ?_
    unfold noticeList
    rw [show s.heard.trips = s.trips from rfl]
    cases findRecord src.toNat x.kind x.subject s.trips.records <;> rfl

end Sys2Proof.Machine
end

section
/-!
SUPPORT. The list a BEAT leaves: the three steps of R17 as one list of kept and added records, what each of them is to the budget and
the round, and how a member heard stands with it (R3, R17, R22 to R24).
-/
namespace Sys2Proof.Machine

/-! ### The records a beat keeps, updates and adds (R17) -/

/-- A record as its origin's beat leaves it, where the beat keeps it. -/
def refreshRecord (src : Nat) (es : List OwnEntry) (r : Record) : Record :=
  ((es.find? fun x => x.keys src r).map fun x => x.update r).getD r

/-- The records a beat does not remove. -/
def beatStays (src : Nat) (es : List OwnEntry) (l : List Record) : List Record :=
  l.filter fun r => r.origin != src || es.any fun x => x.keys src r

/-- The entries of a beat without a record. -/
def beatFresh (src : Nat) (es : List OwnEntry) (l : List Record) : List OwnEntry :=
  es.filter fun x => (findRecord src x.kind x.subject l).isNone

/-- The entries of a beat that join the list. -/
def beatAdded (n own src : Nat) (es : List OwnEntry) (l : List Record) : List OwnEntry :=
  (beatFresh src es l).take (roomBeside n own (beatStays src es l))

/-- The entries of a beat that stand in the list after it. -/
def beatTaken (n own src : Nat) (es : List OwnEntry) (l : List Record) : List OwnEntry :=
  es.filter fun x => (findRecord src x.kind x.subject l).isSome || (beatAdded n own src es l).contains x

/-- The record an entry of a beat brings, where the station counts by `counts`. -/
def beatBrings (counts : Bool) (src : Nat) (l : List Record) (x : OwnEntry) : Record :=
  broughtRecord counts src x x.phase (findRecord src x.kind x.subject l)

/-- The records of the list once its origin's beat has removed and updated. -/
def beatKept (src : Nat) (es : List OwnEntry) (counts : Bool) (l : List Record) : List Record :=
  l.filterMap fun r =>
    if r.origin = src then (es.find? fun x => x.kind = r.kind ∧ x.subject = r.subject).map (beatBrings counts src l) else some r

/-- The list after a beat, as the statement has it. -/
def beatList (n own src : Nat) (es : List OwnEntry) (counts : Bool) (l : List Record) : List Record :=
  beatKept src es counts l ++ (beatAdded n own src es l).map (beatBrings counts src l)

theorem OwnEntry.update_eq {src : Nat} {x : OwnEntry} {r : Record} (hkey : x.keys src r = true) :
    x.update r = { x.record src with counted := r.counted && r.tripId == x.tripId } := by
  obtain ⟨rfl, hkind, hs⟩ := (OwnEntry.keys_iff_fields src x r).1 hkey
  simp [OwnEntry.update, OwnEntry.record, hkind, hs]

theorem OwnEntry.keys_update (src : Nat) (x z : OwnEntry) (r : Record) : z.keys src (x.update r) = z.keys src r := rfl

theorem refreshRecord_key (src : Nat) (es : List OwnEntry) (r : Record) : (refreshRecord src es r).key = r.key := by
  unfold refreshRecord
  cases es.find? fun x => x.keys src r <;> rfl

/-- A record of another origin keeps its place and its value. -/
theorem find_keys_foreign (src : Nat) (es : List OwnEntry) (r : Record) (h : r.origin ≠ src) :
    es.find? (fun x => x.keys src r) = none :=
  List.find?_eq_none.2 fun x _ hx => h ((OwnEntry.keys_iff_fields src x r).1 hx).1

theorem find_keys_own (src : Nat) (es : List OwnEntry) (r : Record) (h : r.origin = src) :
    es.find? (fun x => x.keys src r) = es.find? fun x => x.kind = r.kind ∧ x.subject = r.subject := by
  congr 1
  funext x
  rw [Bool.eq_iff_iff, OwnEntry.keys_iff_fields, decide_eq_true_eq]
  exact ⟨fun g => ⟨g.2.1.symm, g.2.2.symm⟩, fun g => ⟨h, g.1.symm, g.2.symm⟩⟩

theorem find_keys_spec {src : Nat} {es : List OwnEntry} {r : Record} {x : OwnEntry}
    (h : es.find? (fun z => z.keys src r) = some x) : x ∈ es ∧ x.keys src r = true :=
  ⟨List.mem_of_find?_eq_some h, List.find?_some (p := fun z : OwnEntry => z.keys src r) h⟩

theorem map_filter_eq_filterMap {β : Type} (p : Record → Bool) (f : Record → β) (l : List Record) :
    (l.filter p).map f = l.filterMap fun r => if p r then some (f r) else none := by
  induction l with
  | nil => rfl
  | cons r rs ih => cases h : p r <;> simp [h, ih]

/-- A record stays where it is of another origin or an entry has its key (R17). -/
theorem beatStays_map {β : Type} (src : Nat) (es : List OwnEntry) (f : Record → β) (l : List Record) :
    (beatStays src es l).map f = l.filterMap fun r =>
      if r.origin = src then (es.find? fun x => x.kind = r.kind ∧ x.subject = r.subject).map fun _ => f r else some (f r) := by
  unfold beatStays
  rw [map_filter_eq_filterMap]
  refine List.filterMap_congr fun r _ => ?_
  by_cases ho : r.origin = src
  · rw [if_pos ho, ← find_keys_own src es r ho]
    cases hf : es.find? fun x => x.keys src r with
    | none =>
        have hany : (es.any fun x => x.keys src r) = false := by
          rw [← Bool.not_eq_true, List.any_eq_true]
          exact fun ⟨x, hx, hkey⟩ => List.find?_eq_none.1 hf x hx hkey
        simp [ho, hany]
    | some x =>
        have hany : (es.any fun x => x.keys src r) = true := List.any_eq_true.2 ⟨x, find_keys_spec hf⟩
        simp [hany]
  · simp [ho]

/-- An entry has a record after the removals where it had one before. -/
theorem any_keys_stays (src : Nat) (es : List OwnEntry) (l : List Record) (x : OwnEntry) (hx : x ∈ es) :
    (((beatStays src es l).map (refreshRecord src es)).any fun r => x.keys src r) =
      (findRecord src x.kind x.subject l).isSome := by
  rw [Bool.eq_iff_iff, Option.isSome_iff_ne_none, ← any_keys_iff, List.any_map, List.any_eq_true, List.any_eq_true]
  have hkeys (r : Record) : x.keys src (refreshRecord src es r) = x.keys src r := by
    rw [Bool.eq_iff_iff, OwnEntry.keys_iff, OwnEntry.keys_iff, refreshRecord_key]
  simp only [Function.comp_apply, hkeys, beatStays, List.mem_filter]
  refine ⟨fun ⟨r, hr, hk⟩ => ⟨r, hr.1, hk⟩, fun ⟨r, hr, hk⟩ => ⟨r, ⟨hr, ?_⟩, hk⟩⟩
  rw [Bool.or_eq_true]
  exact .inr (List.any_eq_true.2 ⟨x, hx, hk⟩)

/-- The three steps of R17: the list a beat makes, and whether it refuses an addition. -/
theorem replaceRecords_eq (n own src : Nat) (es : List OwnEntry) (l : List Record) (hown : src ≠ own) :
    replaceRecords n own src es l =
      ((beatStays src es l).map (refreshRecord src es) ++ (beatAdded n own src es l).map (OwnEntry.record src),
        decide (roomBeside n own (beatStays src es l) < (beatFresh src es l).length)) := by
  have hrefresh : (fun r => match es.find? (fun x => x.keys src r) with
      | some x => x.update r
      | none => r) = refreshRecord src es := by
    funext r
    unfold refreshRecord
    cases es.find? fun x => x.keys src r <;> rfl
  have hfresh : es.filter (fun x => !(((beatStays src es l).map (refreshRecord src es)).any fun r => x.keys src r)) =
      beatFresh src es l := by
    refine List.filter_congr fun x hx => ?_
    rw [any_keys_stays src es l x hx]
    cases findRecord src x.kind x.subject l <;> rfl
  have hroom : roomBeside n own ((beatStays src es l).map (refreshRecord src es)) = roomBeside n own (beatStays src es l) :=
    roomBeside_of_keys _ _ _ _ (map_key_of_keeps _ (refreshRecord_key src es) _)
  have heq : replaceRecords n own src es l = addAll n own ((es.filter (fun x =>
      !(((beatStays src es l).map (refreshRecord src es)).any fun r => x.keys src r))).map (OwnEntry.record src))
      ((beatStays src es l).map (refreshRecord src es)) := by
    rw [← hrefresh]
    rfl
  rw [heq, hfresh, addAll_eq n own _ (fun r hr => ?_), hroom, List.length_map, ← List.map_take]
  · rfl
  · obtain ⟨x, _, rfl⟩ := List.mem_map.1 hr
    exact hown

theorem findRecord_fresh {n own src : Nat} {es : List OwnEntry} {l : List Record} {x : OwnEntry}
    (h : x ∈ beatAdded n own src es l) : findRecord src x.kind x.subject l = none := by
  have := (List.mem_filter.1 (List.mem_of_mem_take h)).2
  simpa using this

theorem mem_of_beatAdded {n own src : Nat} {es : List OwnEntry} {l : List Record} {x : OwnEntry}
    (h : x ∈ beatAdded n own src es l) : x ∈ es := (List.mem_filter.1 (List.mem_of_mem_take h)).1

theorem mem_beatTaken (n own src : Nat) (es : List OwnEntry) (l : List Record) (x : OwnEntry) :
    x ∈ beatTaken n own src es l ↔
      x ∈ es ∧ (findRecord src x.kind x.subject l).isSome = true ∨ x ∈ beatAdded n own src es l := by
  unfold beatTaken
  rw [List.mem_filter, Bool.or_eq_true, List.contains_iff_mem, and_or_left]
  exact or_congr_right ⟨fun h => h.2, fun h => ⟨mem_of_beatAdded h, h⟩⟩

/-! ### The list a beat leaves, its offers made -/

/-- The list a BEAT leaves, its offers made (R17, R23, R127). -/
theorem replaceRecords_offered (n own src : Nat) (es : List OwnEntry) (counts : Bool) (l : List Record) (hown : src ≠ own)
    (hk : (l.map Record.key).Nodup) :
    (replaceRecords n own src es l).1.map (offerRecord counts own l) = beatList n own src es counts l := by
  have hkept : ((beatStays src es l).map (refreshRecord src es)).map (offerRecord counts own l) = beatKept src es counts l := by
    rw [List.map_map, beatStays_map]
    unfold beatKept
    refine List.filterMap_congr fun r hr => ?_
    split
    · rename_i ho
      rw [← find_keys_own src es r ho, Function.comp_apply]
      unfold refreshRecord
      cases hf : es.find? fun x => x.keys src r with
      | none => rfl
      | some x =>
          obtain ⟨_, hkey⟩ := find_keys_spec hf
          obtain ⟨_, hkind, hs⟩ := (OwnEntry.keys_iff_fields src x r).1 hkey
          have hheld : findRecord src x.kind x.subject l = some r := by
            rw [← ho, ← hkind, ← hs]
            exact findRecord_of_mem hk hr
          have hoffer := offerRecord_held counts own src x x.phase l r false hheld
          simp only [Option.map_some, Option.getD_some, OwnEntry.update_eq hkey, beatBrings, hheld]
          exact congrArg some hoffer
    · rename_i ho
      rw [Function.comp_apply, refreshRecord, find_keys_foreign src es r ho]
      exact congrArg some (offerRecord_old counts own hk hr)
  rw [replaceRecords_eq n own src es l hown, List.map_append, hkept, List.map_map]
  unfold beatList
  congr 1
  refine List.map_congr_left fun x hx => ?_
  have hnone := findRecord_fresh hx
  simp only [Function.comp_apply, beatBrings, hnone]
  exact offerRecord_joins counts own src x x.phase l hnone

theorem beatKept_keys (src : Nat) (es : List OwnEntry) (counts : Bool) (l : List Record) :
    (beatKept src es counts l).map Record.key = (beatStays src es l).map Record.key := by
  unfold beatKept
  rw [List.map_filterMap, beatStays_map]
  refine List.filterMap_congr fun r _ => ?_
  split
  · rename_i ho
    rw [← find_keys_own src es r ho]
    cases hf : es.find? fun x => x.keys src r with
    | none => rfl
    | some x => exact congrArg some ((OwnEntry.keys_iff src x r).1 (find_keys_spec hf).2).symm
  · rfl

/-! ### A list whose records are softened -/

section
variable {own : Nat} {g : Record → Record} (hg : Softens own g) (n src : Nat) (es : List OwnEntry) (l : List Record)
include hg

theorem beatStays_softened : beatStays src es (l.map g) = (beatStays src es l).map g := by
  unfold beatStays
  rw [List.filter_map]
  congr 1
  refine List.filter_congr fun r _ => ?_
  have hkeys (x : OwnEntry) : x.keys src (g r) = x.keys src r := by
    rw [Bool.eq_iff_iff, OwnEntry.keys_iff, OwnEntry.keys_iff, hg.key]
  simp only [Function.comp_apply, hkeys, (Record.key_eq.1 (hg.key r)).1]

theorem beatFresh_softened : beatFresh src es (l.map g) = beatFresh src es l := by
  unfold beatFresh
  simp only [hg.findRecord, Option.isNone_map]

theorem beatRoom_softened : roomBeside n own (beatStays src es (l.map g)) = roomBeside n own (beatStays src es l) := by
  rw [beatStays_softened hg]
  exact roomBeside_of_keys _ _ _ _ (hg.keys _)

theorem beatAdded_softened : beatAdded n own src es (l.map g) = beatAdded n own src es l := by
  unfold beatAdded
  rw [beatFresh_softened hg, beatRoom_softened hg]

theorem beatTaken_softened : beatTaken n own src es (l.map g) = beatTaken n own src es l := by
  unfold beatTaken
  simp only [hg.findRecord, Option.isSome_map, beatAdded_softened hg]

end

/-- The list a BEAT leaves, a member heard before or after. -/
theorem beatList_heard (n src : Nat) (es : List OwnEntry) (s t : State) (counts : Bool) (l : List Record) (hown : src ≠ s.rank) :
    beatList n s.rank src es (counts || decide (s.phase = .FORMING ∧ t.phase ≠ .FORMING)) (l.map (heardRecord src s t)) =
      (beatList n s.rank src es counts l).map (heardRecord src s t) := by
  have hsoft := heardRecord_softens src s t
  have hbrings (x : OwnEntry) : beatBrings (counts || decide (s.phase = .FORMING ∧ t.phase ≠ .FORMING)) src
      (l.map (heardRecord src s t)) x = heardRecord src s t (beatBrings counts src l x) := by
    unfold beatBrings
    rw [hsoft.findRecord, heardRecord_brought src s t counts x x.phase _ hown fun y hy => (findRecord_key hy).2.2.1]
  have hkept : beatKept src es (counts || decide (s.phase = .FORMING ∧ t.phase ≠ .FORMING)) (l.map (heardRecord src s t)) =
      (beatKept src es counts l).map (heardRecord src s t) := by
    unfold beatKept
    rw [List.filterMap_map, List.map_filterMap]
    refine List.filterMap_congr fun r _ => ?_
    have ho : (heardRecord src s t r).origin = r.origin := rfl
    have hk : (heardRecord src s t r).kind = r.kind := rfl
    have hs : (heardRecord src s t r).subject = r.subject := rfl
    simp only [Function.comp_apply, ho, hk, hs]
    split
    · rw [Option.map_map]
      exact congrArg (fun f => Option.map f _) (funext hbrings)
    · rfl
  unfold beatList
  rw [hkept, beatAdded_softened hsoft, List.map_append, List.map_map]
  exact congrArg _ (List.map_congr_left fun x _ => hbrings x)

/-! ### What the records of a beat are to the rest (R22, R23) -/

/-- The record an entry of a beat stands for, before its offer is made. -/
def entryRecord (src : Nat) (l : List Record) (x : OwnEntry) : Record :=
  ((findRecord src x.kind x.subject l).map x.update).getD (x.record src)

theorem entryRecord_held {src : Nat} {l : List Record} {x : OwnEntry} {y : Record}
    (h : findRecord src x.kind x.subject l = some y) : entryRecord src l x = x.update y := by
  rw [entryRecord, h]
  rfl

theorem entryRecord_fresh {src : Nat} {l : List Record} {x : OwnEntry} (h : findRecord src x.kind x.subject l = none) :
    entryRecord src l x = x.record src := by
  rw [entryRecord, h]
  rfl

/-- It carries what the entry says; counted is what the list held as counted under the same trip id (R4, R17). -/
theorem entryRecord_eq (src : Nat) (l : List Record) (x : OwnEntry) :
    ∃ c, entryRecord src l x = { x.record src with counted := c } ∧
      (c = true → (findRecord src x.kind x.subject l).map (·.tripId) = some x.tripId) := by
  cases h : findRecord src x.kind x.subject l with
  | none => exact ⟨false, entryRecord_fresh h, Bool.noConfusion⟩
  | some y =>
      obtain ⟨_, hkey⟩ := findRecord_key h
      refine ⟨_, (entryRecord_held h).trans (OwnEntry.update_eq ((OwnEntry.keys_iff_fields src x y).2 hkey)), fun hc => ?_⟩
      simp only [Bool.and_eq_true, beq_iff_eq] at hc
      simp [hc.2]

/-- The records of the list after a beat: those of other origins, and one for each entry taken (R17). -/
theorem mem_replaceRecords (n own src : Nat) (es : List OwnEntry) (l : List Record) (hown : src ≠ own)
    (hk : (l.map Record.key).Nodup) (hes : (es.map fun x => (x.kind, x.subject)).Nodup) (r : Record) :
    r ∈ (replaceRecords n own src es l).1 ↔
      r ∈ l ∧ r.origin ≠ src ∨ ∃ x ∈ beatTaken n own src es l, r = entryRecord src l x := by
  have hfind {x : OwnEntry} {y : Record} (hx : x ∈ es) (hkey : x.keys src y = true) :
      es.find? (fun z => z.keys src y) = some x := by
    cases hf : es.find? fun z => z.keys src y with
    | none => exact absurd hkey (List.find?_eq_none.1 hf x hx)
    | some z =>
        obtain ⟨_, h1, h2⟩ := (OwnEntry.keys_iff_fields src x y).1 hkey
        obtain ⟨hz, hzkey⟩ := find_keys_spec hf
        obtain ⟨_, h3, h4⟩ := (OwnEntry.keys_iff_fields src z y).1 hzkey
        exact congrArg some (List.inj_on_of_nodup_map hes hz hx
          (Prod.ext (h3.symm.trans h1) (h4.symm.trans h2)))
  have hheld {x : OwnEntry} {y : Record} (hy : y ∈ l) (hkey : x.keys src y = true) :
      findRecord src x.kind x.subject l = some y := by
    obtain ⟨h1, h2, h3⟩ := (OwnEntry.keys_iff_fields src x y).1 hkey
    rw [← h1, ← h2, ← h3]
    exact findRecord_of_mem hk hy
  rw [replaceRecords_eq n own src es l hown, List.mem_append, List.mem_map, List.mem_map]
  constructor
  · rintro (⟨y, hy, rfl⟩ | ⟨x, hx, rfl⟩)
    · obtain ⟨hyl, hstay⟩ := List.mem_filter.1 hy
      by_cases ho : y.origin = src
      · have hany : (es.any fun x => x.keys src y) = true := by simpa [ho] using hstay
        obtain ⟨x, hx, hkey⟩ := List.any_eq_true.1 hany
        refine .inr ⟨x, (mem_beatTaken ..).2 (.inl ⟨hx, by rw [hheld hyl hkey]; rfl⟩), ?_⟩
        rw [entryRecord_held (hheld hyl hkey), refreshRecord, hfind hx hkey]
        rfl
      · have hsame : refreshRecord src es y = y := by
          rw [refreshRecord, find_keys_foreign src es y ho]
          rfl
        exact .inl (hsame.symm ▸ ⟨hyl, ho⟩)
    · exact .inr ⟨x, (mem_beatTaken ..).2 (.inr hx), (entryRecord_fresh (findRecord_fresh hx)).symm⟩
  · rintro (⟨hr, ho⟩ | ⟨x, hx, rfl⟩)
    · refine .inl ⟨r, List.mem_filter.2 ⟨hr, by simp [ho]⟩, ?_⟩
      rw [refreshRecord, find_keys_foreign src es r ho]
      rfl
    · rcases (mem_beatTaken ..).1 hx with ⟨hxe, hsome⟩ | hadd
      · obtain ⟨y, hy⟩ := Option.isSome_iff_exists.1 hsome
        obtain ⟨hyl, hkey⟩ := findRecord_key hy
        have hkey := (OwnEntry.keys_iff_fields src x y).2 hkey
        refine .inl ⟨y, List.mem_filter.2 ⟨hyl, ?_⟩, ?_⟩
        · rw [Bool.or_eq_true]
          exact .inr (List.any_eq_true.2 ⟨x, hxe, hkey⟩)
        · rw [entryRecord_held hy, refreshRecord, hfind hxe hkey]
          rfl
      · exact .inr ⟨x, hadd, (entryRecord_fresh (findRecord_fresh hadd)).symm⟩

/-- The entry's record is new where its trip id is (R23). -/
theorem entryRecord_newIn (own src : Nat) (l : List Record) (x : OwnEntry) :
    (entryRecord src l x).newIn own (foreignChange l) = true ↔
      (findRecord src x.kind x.subject l).map (·.tripId) ≠ some x.tripId := by
  obtain ⟨c, heq, _⟩ := entryRecord_eq src l x
  rw [heq]
  cases h : findRecord src x.kind x.subject l with
  | none => simp [newIn_foreign own l { x.record src with counted := c } h]
  | some y =>
      rw [newIn_foreign_held own l { x.record src with counted := c } y h]
      simp [OwnEntry.record]

/-- The budget counts the entry's record where its trip id is a new one of the current class (R23, R127). -/
theorem entryRecord_offeredIn (own src : Nat) (l : List Record) (x : OwnEntry) :
    (entryRecord src l x).offeredIn own (foreignChange l) = true ↔
      x.kind.currentClass = true ∧ (findRecord src x.kind x.subject l).map (·.tripId) ≠ some x.tripId := by
  obtain ⟨c, heq, hcounted⟩ := entryRecord_eq src l x
  have hkind : (entryRecord src l x).kind = x.kind := by rw [heq]; rfl
  have hc : (entryRecord src l x).counted = c := by rw [heq]
  unfold Record.offeredIn
  rw [hkind, hc, Bool.and_eq_true, Bool.and_eq_true, entryRecord_newIn, Bool.not_eq_true']
  refine ⟨fun h => ⟨h.1.1, h.2⟩, fun h => ⟨⟨h.1, ?_⟩, h.2⟩⟩
  rw [← Bool.not_eq_true]
  exact fun g => h.2 (hcounted g)

/-- The entry's record gains where it is ACTIVE and was absent, CLEARED or of another trip id (R22). -/
theorem entryRecord_gainedIn (own src : Nat) (l : List Record) (x : OwnEntry) :
    (entryRecord src l x).gainedIn own (foreignChange l) = true ↔
      x.phase = .ACTIVE ∧ ∀ y, findRecord src x.kind x.subject l = some y → y.phase = .CLEARED ∨ y.tripId ≠ x.tripId := by
  obtain ⟨c, heq, _⟩ := entryRecord_eq src l x
  have hphase : (entryRecord src l x).phase = x.phase := by rw [heq]; rfl
  unfold Record.gainedIn
  rw [Bool.and_eq_true, Bool.or_eq_true, entryRecord_newIn, hphase, beq_iff_eq, show (foreignChange l).before = l from rfl]
  refine and_congr_right fun _ => ?_
  cases h : findRecord src x.kind x.subject l with
  | none => simp
  | some y =>
      have hre : (entryRecord src l x).reactivatedIn l = (y.phase == .CLEARED) := by
        rw [heq]
        exact reactivatedIn_held l _ y h
      simp [hre, or_comm]

/-- How many records of a BEAT the budget counts: one for each entry taken whose trip id is a new one of the current class. -/
theorem replaceRecords_offers (n own src : Nat) (es : List OwnEntry) (l : List Record) (hown : src ≠ own)
    (hk : (l.map Record.key).Nodup) (hes : (es.map fun x => (x.kind, x.subject)).Nodup) :
    ((replaceRecords n own src es l).1.filter (Record.offeredIn own (foreignChange l))).length =
      ((beatTaken n own src es l).filter fun x => x.kind.currentClass = true ∧
        (findRecord src x.kind x.subject l).map (·.tripId) ≠ some x.tripId).length := by
  have hkey (x : OwnEntry) : (entryRecord src l x).key = (src, x.kind, x.subject) := by
    obtain ⟨c, heq, _⟩ := entryRecord_eq src l x
    rw [heq]
    rfl
  have hcounts : (beatTaken n own src es l).filter (fun x => x.kind.currentClass = true ∧
      (findRecord src x.kind x.subject l).map (·.tripId) ≠ some x.tripId) =
      (beatTaken n own src es l).filter fun x => (entryRecord src l x).offeredIn own (foreignChange l) :=
    List.filter_congr fun x _ => by rw [Bool.eq_iff_iff, decide_eq_true_eq, entryRecord_offeredIn]
  have htaken : ((beatTaken n own src es l).map fun x => (src, x.kind, x.subject)).Nodup := by
    have h := (hes.sublist (List.filter_sublist.map _ : (beatTaken n own src es l |>.map _).Sublist _)).map
      (f := fun k : Kind × Option Nat => (src, k)) fun _ _ h => by simpa using h
    rwa [List.map_map] at h
  have hrecords := (replaceRecords_moves n own src [src] es l (by simp) hes).keys_nodup hk
  rw [hcounts]
  have hperm := (List.perm_ext_iff_of_nodup
    (hrecords.sublist ((List.filter_sublist (p := Record.offeredIn own (foreignChange l))).map _))
    (htaken.sublist ((List.filter_sublist
      (p := fun x => (entryRecord src l x).offeredIn own (foreignChange l))).map _))).2 fun k => ?_
  · simpa using hperm.length_eq
  simp only [List.mem_map, List.mem_filter, mem_replaceRecords n own src es l hown hk hes]
  constructor
  · rintro ⟨r, ⟨⟨hr, _⟩ | ⟨x, hx, rfl⟩, hoffer⟩, rfl⟩
    · exact absurd (offeredIn_old own hk hr) (by simp [hoffer])
    · exact ⟨x, ⟨hx, hoffer⟩, (hkey x).symm⟩
  · rintro ⟨x, ⟨hx, hoffer⟩, rfl⟩
    exact ⟨_, ⟨.inr ⟨x, hx, rfl⟩, hoffer⟩, hkey x⟩

end Sys2Proof.Machine
end

section
/-!
SUPPORT. The proof that a BEAT replaces its origin's records (R15, R17, R22 to R25, R116, R126 to R130).
-/
namespace Sys2Proof.Machine

/-! ### A BEAT as a run of its blocks -/

/-- What a beat does to the retry budget: the beat of an OPERATING or CONFINED member merges or joins (R129, R130). -/
def beatMerge (limit : Nat) (b : BeatFields) (d : Budget) : Budget :=
  if b.phase = 2 ∨ b.phase = 3 then d.takeBeat limit b.epoch b.count.toNat else d

/-- The stop line takes no part in a beat. -/
def beatAside (limit : Nat) (b : BeatFields) : Aside := { budget := beatMerge limit b, stop := fun l => l }

/-- A BEAT as the station `s` takes it. -/
def BeatRun (src : Byte) (b : BeatFields) (first early : Bool) (s a u : State) : Prop :=
  FrameRun (toAll src (.beat b)) (beatAside s.cfg.latchLimit b)
    (replaceRecords s.cfg.memberCount s.rank src.toNat (readEntries s.cfg.memberCount src.toNat b.records)) first early s a u

theorem budgetTakes_around (src : Byte) (b : BeatFields) (a : State) (hmem : src.toNat ∈ a.members) :
    Around src.toNat (beatAside a.cfg.latchLimit b) false true a (budgetTakes (toAll src (.beat b)) a) := by
  have hroster := isRosterRank_of_mem_members _ a hmem
  have hphase : (b.phase.toNat == 2 || b.phase.toNat == 3) = decide (b.phase = 2 ∨ b.phase = 3) := by
    rw [Bool.eq_iff_iff, Bool.or_eq_true, beq_iff_eq, beq_iff_eq, decide_eq_true_eq]
    bv_omega
  have heq : budgetTakes (toAll src (.beat b)) a = a.withBudget (beatMerge a.cfg.latchLimit b a.budget) := by
    unfold budgetTakes beatMerge toAll
    simp only [hroster, hphase, Bool.true_and, decide_eq_true_eq]
    split <;> rfl
  rw [heq]
  exact around_aside _ _ true a _ rfl (course_of_same rfl rfl rfl rfl rfl) rfl rfl rfl rfl rfl rfl rfl rfl rfl

/-- A beat moves no round: at most the last round and closer are the coordinator's (R99). -/
theorem recloseTakes_around (src : Byte) (b : BeatFields) (x : Aside) (a : State) :
    Around src.toNat x false false a (recloseTakes (toAll src (.beat b)) a) := by
  have heq : recloseTakes (toAll src (.beat b)) a = a ∨ recloseTakes (toAll src (.beat b)) a =
      a.withReclose { a.reclose with lastRound := b.lastRound.toNat, lastCloser := b.lastCloser.toNat } := by
    unfold recloseTakes toAll
    simp only
    repeat' split
    · exact .inl rfl
    · exact .inr rfl
    · exact .inl rfl
  rcases heq with e | e
  · rw [e]
    exact Around.refl _ x a
  · rw [e]
    refine around_aside _ x false a _ rfl ⟨rfl, fun p => .inl ?_, .inl ⟨rfl, rfl, fun p => ?_, rfl, rfl⟩⟩ rfl rfl rfl rfl
      rfl rfl rfl rfl rfl
    · cases p <;> rfl
    · cases p <;> rfl

theorem beat_run (src : Byte) (b : BeatFields) (e : Entry) (s : State) (hw : s.working = true)
    (hown : src.toNat ≠ s.rank) (he : s.entry src.toNat = some e) :
    ∃ first early a, BeatRun src b first early s a (inAnyOrder (takers (toAll src (.beat b))) s) := by
  refine frame_run (toAll src (.beat b)) (beatAside s.cfg.latchLimit b) _ .budget e [.membership, .list, .budget, .reclose] s rfl
    (by decide) (by decide) (by decide) (by decide) (fun i hi hm hl a hcfg hmem => ?_) (by decide) (by decide) hw hown he
    fun a hcfg hrank hroster => ?_
  · simp only [List.mem_cons, List.not_mem_nil, or_false] at hi
    rcases (hi.resolve_left hm).resolve_left hl with rfl | rfl
    · exact hcfg ▸ budgetTakes_around src b a hmem
    · exact recloseTakes_around src b _ a
  · have hroster : a.isRosterRank src.toNat = true := hroster
    unfold listTakes toAll
    simp only [hroster, hcfg, hrank, Bool.not_true, Bool.false_eq_true, if_false]

/-! ### The budget (R129, R130) -/

theorem newer_iff (e f : Byte) (hne : e ≠ f) : newer e f = true ↔ ¬ 128 ≤ (e - f).toNat := by
  unfold newer
  rw [decide_eq_true_eq]
  bv_omega

/-- What a beat makes of a count, as the statement has it (R129, R130). -/
def mergedCount (limit : Nat) (b : BeatFields) (d : Budget) (count : Nat) : Nat :=
  let bound := if limit = 0 then 255 else limit
  if b.phase = 1 ∨ b.phase = 4 then count
  else if d.joined = false then min b.count.toNat bound
  else if b.epoch = d.epoch then max count (min b.count.toNat bound)
  else if 128 ≤ (b.epoch - d.epoch).toNat then count
  else min b.count.toNat bound

theorem beatMerge_count (limit : Nat) (b : BeatFields) (d : Budget) (count : Nat) (hb : b.wf = true) :
    (beatMerge limit b { d with count := count }).count = mergedCount limit b d count := by
  have hcodes : (b.phase = 2 ∨ b.phase = 3) ↔ ¬ (b.phase = 1 ∨ b.phase = 4) := by
    have h : 1 ≤ b.phase.toNat ∧ b.phase.toNat ≤ 4 := by
      unfold BeatFields.wf at hb
      simp only [Bool.and_eq_true, decide_eq_true_eq] at hb
      exact hb.1.1.1
    bv_omega
  unfold beatMerge mergedCount
  by_cases hp : b.phase = 1 ∨ b.phase = 4
  · rw [if_neg (fun g => hcodes.1 g hp)]
    simp only [if_pos hp]
  · rw [if_pos (hcodes.2 hp)]
    simp only [if_neg hp]
    unfold Budget.takeBeat
    simp only
    cases hj : d.joined with
    | false => rfl
    | true =>
        simp only [Bool.not_true, Bool.false_eq_true, if_false, Bool.true_eq_false]
        by_cases he : b.epoch = d.epoch
        · rw [if_pos he, if_pos he]
          rfl
        · have hnew := newer_iff b.epoch d.epoch he
          rw [if_neg he, if_neg he]
          by_cases hold : 128 ≤ (b.epoch - d.epoch).toNat
          · rw [if_pos hold, if_neg fun g => hnew.1 g hold]
          · rw [if_neg hold, if_pos (hnew.2 hold)]
            rfl

variable {src : Byte} {b : BeatFields} {first early : Bool} {s a u : State}

/-- The entries the station takes a beat with (R15). -/
def State.entries (s : State) (src : Byte) (b : BeatFields) : List OwnEntry :=
  readEntries s.cfg.memberCount src.toNat b.records

/-- What the list holds under an entry's key. -/
def State.heldFor (s : State) (src : Byte) (x : OwnEntry) : Option Record :=
  findRecord src.toNat x.kind x.subject s.trips.records

/-- The entries of the beat that stand in the list after it. -/
def State.beatTaken (s : State) (src : Byte) (b : BeatFields) : List OwnEntry :=
  Machine.beatTaken s.cfg.memberCount s.rank src.toNat (s.entries src b) s.trips.records

/-- An addition of the beat is refused (R24). -/
def State.beatRefuses (s : State) (src : Byte) (b : BeatFields) : Bool :=
  decide (roomBeside s.cfg.memberCount s.rank (beatStays src.toNat (s.entries src b) s.trips.records) <
    (beatFresh src.toNat (s.entries src b) s.trips.records).length)

/-- The entry gains: ACTIVE, and absent before, CLEARED or of another trip id (R22). -/
def State.activates (s : State) (src : Byte) (x : OwnEntry) : Prop :=
  x.phase = .ACTIVE ∧ ∀ y, s.heldFor src x = some y → y.phase = .CLEARED ∨ y.tripId ≠ x.tripId

theorem State.entries_nodup (s : State) (src : Byte) (b : BeatFields) :
    ((s.entries src b).map fun x => (x.kind, x.subject)).Nodup := firstOfKey_nodup _

/-- The list as it takes the beat: its records softened, so the beat takes the same entries. -/
theorem BeatRun.softened (h : BeatRun src b first early s a u) : ∃ g, Softens s.rank g ∧
    (∀ x, findRecord src.toNat x.kind x.subject a.trips.records = (s.heldFor src x).map g) ∧
    Machine.beatTaken s.cfg.memberCount s.rank src.toNat (s.entries src b) a.trips.records = s.beatTaken src b := by
  obtain ⟨g, hg, ha⟩ := FrameRun.records_a h
  rw [ha]
  exact ⟨g, hg, fun x => hg.findRecord .., beatTaken_softened hg ..⟩

theorem BeatRun.refuses (h : BeatRun src b first early s a u) (hown : src.toNat ≠ s.rank) :
    (replaceRecords s.cfg.memberCount s.rank src.toNat (s.entries src b) a.trips.records).2 = s.beatRefuses src b := by
  obtain ⟨g, hg, ha⟩ := FrameRun.records_a h
  rw [replaceRecords_eq _ _ _ _ _ hown, ha]
  simp only [beatRoom_softened hg, beatFresh_softened hg]
  rfl

/-- The records of the list as it has taken the beat. -/
theorem BeatRun.mem_taken (h : BeatRun src b first early s a u) (hk : UniqueKeys s) (hown : src.toNat ≠ s.rank) (r : Record) :
    r ∈ (replaceRecords s.cfg.memberCount s.rank src.toNat (s.entries src b) a.trips.records).1 ↔
      r ∈ a.trips.records ∧ r.origin ≠ src.toNat ∨
        ∃ x ∈ s.beatTaken src b, r = entryRecord src.toNat a.trips.records x := by
  obtain ⟨_, _, _, htaken⟩ := h.softened
  rw [← htaken]
  exact mem_replaceRecords _ _ _ _ _ hown (h.before.uniqueKeys hk) (s.entries_nodup src b) r

/-- The list after a BEAT, with the keys apart (R3, R17, R128). -/
theorem BeatRun.records_eq (h : BeatRun src b first early s a u) (hk : UniqueKeys s) (hown : src.toNat ≠ s.rank) :
    u.trips.records = listHeard src.toNat s u
      (beatList s.cfg.memberCount s.rank src.toNat (s.entries src b) (s.phase != .FORMING) s.trips.records) :=
  FrameRun.records h hk (fun counts l => beatList s.cfg.memberCount s.rank src.toNat (s.entries src b) counts l)
    (fun counts l hl => replaceRecords_offered _ _ _ _ counts l hown hl)
    fun _ hc => hc ▸ beatList_heard s.cfg.memberCount src.toNat (s.entries src b) s u _ s.trips.records hown

/-- The list-full flag after a BEAT, its timer and the next trip id (R24). -/
theorem BeatRun.flags_eq (h : BeatRun src b first early s a u) (hown : src.toNat ≠ s.rank) :
    u.trips.full = (s.trips.full || s.beatRefuses src b) ∧
    u.trips.fullTimer = (if s.beatRefuses src b then .running s.cfg.tBeat else s.trips.fullTimer) ∧
    u.trips.nextId = s.trips.nextId := by
  have hflags := FrameRun.flags h
  rw [show readEntries s.cfg.memberCount src.toNat b.records = s.entries src b from rfl, h.refuses hown] at hflags
  exact hflags

/-- How many records of the beat the budget counts (R23, R127). -/
theorem BeatRun.offers (h : BeatRun src b first early s a u) (hk : UniqueKeys s) (hown : src.toNat ≠ s.rank) :
    ((replaceRecords s.cfg.memberCount s.rank src.toNat (s.entries src b) a.trips.records).1.filter
        (Record.offeredIn s.rank (foreignChange a.trips.records))).length =
      ((s.beatTaken src b).filter fun x =>
        x.kind.currentClass = true ∧ (s.heldFor src x).map (·.tripId) ≠ some x.tripId).length := by
  obtain ⟨g, hg, hheld, htaken⟩ := h.softened
  rw [replaceRecords_offers _ _ _ _ _ hown (h.before.uniqueKeys hk) (s.entries_nodup src b), htaken]
  simp only [hheld, Option.map_map, show (fun r : Record => r.tripId) ∘ g = fun r => r.tripId from funext hg.tripId]

/-- The count after a BEAT, with the keys apart: merged, and raised by its records before or after (R126, R127, R129, R130). -/
theorem BeatRun.count_eq (h : BeatRun src b first early s a u) (hk : UniqueKeys s) (hown : src.toNat ≠ s.rank)
    (hb : b.wf = true) :
    let counted := ((s.beatTaken src b).filter fun x =>
      x.kind.currentClass = true ∧ (s.heldFor src x).map (·.tripId) ≠ some x.tripId).length
    (s.phase = .FORMING → u.phase = .FORMING →
      u.budget.count = mergedCount s.cfg.latchLimit b s.budget s.budget.count) ∧
    (s.phase ≠ .FORMING →
      u.budget.count = countPlus s.cfg.latchLimit (mergedCount s.cfg.latchLimit b s.budget s.budget.count) counted ∨
      u.budget.count = mergedCount s.cfg.latchLimit b s.budget (countPlus s.cfg.latchLimit s.budget.count counted)) := by
  intro counted
  have hmerge (count : Nat) := beatMerge_count s.cfg.latchLimit b s.budget count hb
  refine ⟨fun hs hu => ?_, fun hs => ?_⟩
  · have hbudget := FrameRun.budget h hk (.inr hu)
    simp only [if_pos hs, raise_zero, beatAside, or_self] at hbudget
    rw [hbudget]
    exact hmerge _
  · have hbudget := FrameRun.budget h hk (.inl hs)
    rw [show readEntries s.cfg.memberCount src.toNat b.records = s.entries src b from rfl, h.offers hk hown] at hbudget
    simp only [if_neg hs] at hbudget
    rw [← hmerge, ← hmerge]
    exact hbudget.imp (congrArg Budget.count) (congrArg Budget.count)

/-- A record of a BEAT that gains ends a round its paths meet (R22, R116). -/
theorem BeatRun.leaves_of_activates (h : BeatRun src b first early s a u) (c : State) (hk : UniqueKeys s)
    (hown : src.toNat ≠ s.rank) (x : OwnEntry) (hx : x ∈ s.beatTaken src b) (hact : s.activates src x) :
    LeavesRound x.paths s (settle c u) := by
  obtain ⟨g, hg, hheld, _⟩ := h.softened
  have hpaths : (entryRecord src.toNat a.trips.records x).paths = x.paths := by
    obtain ⟨_, heq, _⟩ := entryRecord_eq src.toNat a.trips.records x
    rw [heq]
    rfl
  refine hpaths ▸ FrameRun.leaves_of_gained h c _ ((h.mem_taken hk hown _).2 (.inr ⟨x, hx, rfl⟩))
    ((entryRecord_gainedIn ..).2 ⟨hact.1, fun y hy => ?_⟩)
  rw [hheld, Option.map_eq_some_iff] at hy
  obtain ⟨z, hz, rfl⟩ := hy
  obtain ⟨_, hzo, _⟩ := findRecord_key hz
  rw [hg.foreign z (by rwa [hzo]), hg.tripId]
  exact hact.2 z hz

/-- A BEAT that brings nothing new moves neither switches nor round (R22, R24). -/
theorem BeatRun.silent_of_known (h : BeatRun src b first early s a u) (hk : UniqueKeys s) (hown : src.toNat ≠ s.rank)
    (hknown : ∀ x ∈ s.beatTaken src b, x.phase = .ACTIVE →
      (s.heldFor src x).map (fun y => (y.phase, y.tripId, y.paths)) = some (.ACTIVE, x.tripId, x.paths))
    (hflag : ¬ s.beatRefuses src b = true ∨ s.trips.full = true) (hp : u.phase = s.phase) :
    u.charge = s.charge ∧ u.discharge = s.discharge ∧ u.reclose.round = s.reclose.round := by
  obtain ⟨g, hg, hheld, _⟩ := h.softened
  have hka : (a.trips.records.map Record.key).Nodup := h.before.uniqueKeys hk
  have hactive (x : OwnEntry) (hx : x ∈ s.beatTaken src b) (hxp : x.phase = .ACTIVE) : ∃ y ∈ a.trips.records,
      findRecord src.toNat x.kind x.subject a.trips.records = some y ∧ y.phase = .ACTIVE ∧ y.tripId = x.tripId ∧
        y.paths = x.paths := by
    obtain ⟨z, hz, hsame⟩ := Option.map_eq_some_iff.1 (hknown x hx hxp)
    simp only [Prod.mk.injEq] at hsame
    obtain ⟨hzp, hzid, hzps⟩ := hsame
    obtain ⟨_, hzo, _⟩ := findRecord_key hz
    have hfound : findRecord src.toNat x.kind x.subject a.trips.records = some (g z) := by
      rw [hheld, hz]
      rfl
    exact ⟨g z, (findRecord_key hfound).1, hfound, (hg.foreign z (by rwa [hzo])).trans hzp, (hg.tripId z).trans hzid,
      (hg.paths z).trans hzps⟩
  refine FrameRun.silent h hk hp (fun p hblock => ?_) (fun r hr => ?_) ?_
  · obtain ⟨r, hr, hblocks⟩ := List.any_eq_true.1 hblock
    rcases (h.mem_taken hk hown r).1 hr with ⟨hra, _⟩ | ⟨x, hx, rfl⟩
    · exact List.any_eq_true.2 ⟨r, hra, hblocks⟩
    · obtain ⟨_, heq, _⟩ := entryRecord_eq src.toNat a.trips.records x
      rw [heq] at hblocks
      have hsplit : x.phase = .ACTIVE ∧ x.paths.has p = true := by simpa [Record.blocks, OwnEntry.record] using hblocks
      obtain ⟨y, hy, _, hyp, _, hyps⟩ := hactive x hx hsplit.1
      exact List.any_eq_true.2 ⟨y, hy, by simp [Record.blocks, hyp, hyps, hsplit.2]⟩
  · rcases (h.mem_taken hk hown r).1 hr with ⟨hra, _⟩ | ⟨x, hx, rfl⟩
    · exact Fades.gainedIn (f := fun r => r) a.rank ⟨rfl, rfl, fun h => ⟨h, rfl⟩⟩ hka hra
    · rw [← Bool.not_eq_true, entryRecord_gainedIn]
      rintro ⟨hxp, hchange⟩
      obtain ⟨y, _, hfound, hyp, hyid, _⟩ := hactive x hx hxp
      rcases hchange y hfound with e | e
      · exact absurd (hyp.symm.trans e) RecPhase.noConfusion
      · exact e hyid
  · rw [show readEntries s.cfg.memberCount src.toNat b.records = s.entries src b from rfl, h.refuses hown]
    simpa using hflag

/-! ### The entries read (R15) -/

/-- The first entry read of each key is taken (R15). -/
theorem mem_firstOfKey (l : List OwnEntry) (i : Nat) (x : OwnEntry) (hx : l[i]? = some x)
    (hfirst : ∀ y ∈ l.take i, ¬ (y.kind = x.kind ∧ y.subject = x.subject)) : x ∈ firstOfKey l := by
  induction l generalizing i with
  | nil => simp at hx
  | cons e es ih =>
      unfold firstOfKey
      cases i with
      | zero =>
          simp only [List.getElem?_cons_zero, Option.some.injEq] at hx
          exact hx ▸ List.mem_cons_self
      | succ i =>
          have hother : ¬ (e.kind = x.kind ∧ e.subject = x.subject) := hfirst e (by simp)
          refine List.mem_cons_of_mem _ (List.mem_filter.2 ⟨ih i (by simpa using hx) fun y hy => hfirst y (by simp [hy]), ?_⟩)
          rw [Bool.not_eq_true', ← Bool.not_eq_true, Bool.and_eq_true, beq_iff_eq, beq_iff_eq]
          exact fun h => hother ⟨h.1.symm, h.2.symm⟩

theorem readEntries_spec (n src : Nat) (es : List EntryBytes) :
    let read := es.filterMap (EntryBytes.read n src)
    let entries := readEntries n src es
    entries.Sublist read ∧ (entries.map fun x => (x.kind, x.subject)).Nodup ∧
    ∀ (i : Nat) (x : OwnEntry), read[i]? = some x →
      (∀ y ∈ read.take i, ¬ (y.kind = x.kind ∧ y.subject = x.subject)) → x ∈ entries :=
  ⟨firstOfKey_sublist _, firstOfKey_nodup _, fun i x hx hfirst => mem_firstOfKey _ i x hx hfirst⟩

/-- The closing checks start no round over one under way. -/
theorem settle_keeps_round (c u : State) (r : Round) (hr : u.reclose.round = some r) :
    (settle c u).reclose.round = some r := by
  rcases settle_round c u with ⟨e, _⟩ | ⟨e, _⟩
  · exact e.trans hr
  · exact absurd (e.symm.trans hr) (by simp)

/-- A beat in its ranges passes the body check (R161). -/
theorem beat_bodyOk (b : BeatFields) (h : b.wf = true) : (Content.beat b).bodyOk = true := by
  have hphase (c : Nat) (hc : 1 ≤ c ∧ c ≤ 4) : (Phase.ofCode c).isSome = true := by
    obtain ⟨h1, h2⟩ := hc
    interval_cases c <;> rfl
  have hswitch (c : Nat) (hc : 1 ≤ c ∧ c ≤ 5) : (SwState.ofCode c).isSome = true := by
    obtain ⟨h1, h2⟩ := hc
    interval_cases c <;> rfl
  unfold BeatFields.wf at h
  simp only [Bool.and_eq_true, decide_eq_true_eq] at h
  obtain ⟨⟨⟨hp, hc⟩, hd⟩, hlen⟩ := h
  unfold Content.bodyOk
  simp only [hphase _ hp, hswitch _ hc, hswitch _ hd, hlen, decide_true, Bool.and_self]

/-- Settles O34: the list takes the BEAT between what membership unit and budget do before and after it, which softens its records;
so the three steps of R17 make the same list in any order, and what they offer, block and end stands at the end. -/
theorem beatReplacesRecords : Obligations.BeatReplacesRecords := by
  refine ⟨fun src b s e hw hlisten hk hsrc hwf hown he => ?_, readEntries_spec⟩
  obtain ⟨first, early, a, h⟩ := beat_run src b e s.heard hw hown he
  refine ⟨_, congrArg Host.Outcome.next (receive_toAll src (.beat b) s hw hlisten hsrc rfl (beat_bodyOk b hwf)), ?_⟩
  generalize inAnyOrder (takers (toAll src (.beat b))) s.heard = u at h
  intro entries held brought kept fresh added refused taken activates counted bound merged
  have hroom : roomBeside s.cfg.memberCount s.rank kept =
      roomBeside s.cfg.memberCount s.rank (beatStays src.toNat entries s.trips.records) :=
    roomBeside_of_keys _ _ _ _ (beatKept_keys ..)
  have hadded : added = beatAdded s.cfg.memberCount s.rank src.toNat entries s.trips.records :=
    congrArg (fun n => fresh.take n) hroom
  have hrefuses : s.heard.beatRefuses src b = decide refused :=
    congrArg (fun n => decide (n < fresh.length)) hroom.symm
  have htaken : s.heard.beatTaken src b = taken :=
    congrArg (fun l : List OwnEntry => entries.filter fun x => (held x).isSome || l.contains x) hadded.symm
  have hswitch (p : Path) : (settle s.heard u).switch p = u.switch p := by cases p <;> simp
  obtain ⟨hfull, htimer, hid⟩ := h.flags_eq hown
  obtain ⟨hforming, hcounts⟩ := h.count_eq hk hown hwf
  rw [htaken] at hcounts
  simp only [hrefuses, decide_eq_true_eq] at hfull htimer
  have hfull_of (hr : refused) : u.trips.full = true := by simp [hfull, hr]
  simp only [hswitch, settle_trips, settle_charge, settle_discharge, settle_phase, settle_budget_count]
  refine ⟨?_, hfull, htimer, hid, hforming, hcounts, fun hheld => ?_, fun hknown hflag hp => ?_⟩
  · refine (h.records_eq hk hown).trans ?_
    rw [hadded]
    exact listHeard_congr src.toNat s s.heard (settle s.heard u) u _ rfl rfl rfl rfl (settle_phase _ _).symm
  · have hoff : HeldByList u := FrameRun.heldByList h (s := s.heard) hheld.list
    refine ⟨fun r hr hactive p hp => hoff p (.inl (List.any_eq_true.2 ⟨r, hr, ?_⟩)),
      fun hr => ⟨hoff .charge (.inr (hfull_of hr)), hoff .discharge (.inr (hfull_of hr))⟩,
      fun x hx hact => h.leaves_of_activates s.heard hk hown x (htaken ▸ hx) hact,
      fun p => FrameRun.leaves_of_blocked h s.heard p, fun hr hclear => ?_⟩
    · simp [Record.blocks, hactive, hp]
    · refine FrameRun.leaves_of_refused h s.heard ?_ hclear bothPaths
      exact (h.refuses hown).trans (hrefuses.trans (decide_eq_true hr))
  · obtain ⟨hc, hd, hround⟩ := h.silent_of_known hk hown (by rw [htaken]; exact hknown)
      (by rw [hrefuses, decide_eq_true_eq]; exact hflag) hp
    exact ⟨hc, hd, fun r hr => settle_keeps_round s.heard u r (hround.trans hr)⟩

end Sys2Proof.Machine
end

section
/-!
SUPPORT. The table of R30 for a delayed kind, and the two timers that end a trip (R11, R30, R40, R42, R50).
-/
namespace Sys2Proof.Machine

/-- Settles O9: the branches of the table, by the condition's state and by where the count stands. -/
theorem delayedKindTable : Obligations.DelayedKindTable := by
  rintro delay ⟨state, count, timer⟩ _ rfl
  refine ⟨?_, ?_⟩
  · rintro rfl rfl
    refine ⟨rfl, ?_, fun hne => ?_⟩
    · rintro rfl
      rfl
    · simp [Cond.delayed, hne]
  · rintro rfl
    refine ⟨rfl, fun hlast => ?_, fun hne => ?_⟩
    · simp [Cond.delayed, hlast, Cond.tripped]
    · simp [Cond.delayed, hne]

/-- The recovery timer of a current-class condition in SETTLING clears it, and the closing checks follow (R40, R42). -/
theorem exec_recoveryTimerExpiry (k : Kind) (s : State) (hw : s.working = true) (hk : k.currentClass = true)
    (hstate : (s.conds.get (ownCond k)).state = .SETTLING) (hrun : (s.conds.get (ownCond k)).timer.isRunning = true) :
    exec (.recoveryTimerExpiry k) s = .next (settle s (clearCond (ownCond k) s)) := by
  unfold exec execRecoveryTimerExpiry
  simp only [hw, hk, hstate, hrun, and_self, if_true]

/-- The release timer of a TRIPPED UNEXPLAINED STOP clears it, and the closing checks follow (R50). -/
theorem exec_releaseTimerExpiry (s : State) (hw : s.working = true)
    (hstate : s.conds.unexplainedStop.state = .TRIPPED) (hrun : s.conds.unexplainedStop.timer.isRunning = true) :
    exec .releaseTimerExpiry s = .next (settle s (clearCond (ownCond .unexplainedStop) s)) := by
  unfold exec execReleaseTimerExpiry
  simp only [hw, hstate, hrun, and_self, if_true]

/-- Settles O12: both timers clear their condition, whose record fades without a report; the closing checks reach none of the
parts named. -/
theorem recoveryTimersClear : Obligations.RecoveryTimersClear := by
  intro s k c hw hkeys hcase hrun
  have hclears : exec c s = .next (settle s (clearCond (ownCond k) s)) := by
    rcases hcase with ⟨rfl, hk, hstate⟩ | ⟨rfl, rfl, hstate⟩
    · exact exec_recoveryTimerExpiry k s hw hk hstate hrun
    · exact exec_releaseTimerExpiry s hw hstate hrun
  refine ⟨_, hclears, ?_⟩
  have hkey (r : Record) : (r.hasKey s.rank k none = true) = (r.origin = s.rank ∧ r.kind = k ∧ r.subject = none) := by
    simp [Record.hasKey, and_assoc]
  rw [clearCond_eq (ownCond k) s hkeys]
  simp only [settle_conds, settle_trips, settle_link_notices, settle_charge, settle_discharge, settle_stop, settle_meas,
    settle_roster, settle_phase, settle_budget_epoch, settle_budget_count, ← hkey]
  exact ⟨rfl, rfl, rfl, rfl, rfl, rfl, rfl, rfl, rfl, rfl, rfl⟩

end Sys2Proof.Machine
end

section
/-!
SUPPORT. How far each command reaches: the parts of the station its operations may change, and which commands a station passes
over out of work and in LOADING (R54, R56, R75, R146, R155, R157, R197, R201, R203).
-/
namespace Sys2Proof.Machine

/-! ### Changes within some parts of the station -/

/-- From `s` to `t` no more than the parts `bs` change: the queue stays, and a written configuration block stays in any case. -/
structure Within (bs : List Block) (s t : State) : Prop where
  pending : t.pending = s.pending
  store : s.store.written = true → t.store = s.store
  rest : ∀ b, b ∉ bs → Unchanged s t b

theorem Unchanged.trans {s t u : State} {b : Block} (h : Unchanged s t b) (g : Unchanged t u b) : Unchanged s u b := by
  cases b <;> exact Eq.trans g h

theorem Within.refl (bs : List Block) (s : State) : Within bs s s := ⟨rfl, fun _ => rfl, fun b _ => by cases b <;> rfl⟩

theorem Within.mono {bs cs : List Block} {s t : State} (h : Within bs s t) (hsub : bs ⊆ cs) : Within cs s t :=
  ⟨h.pending, h.store, fun b hb => h.rest b fun hin => hb (hsub hin)⟩

theorem Within.trans {bs : List Block} {s t u : State} (h : Within bs s t) (g : Within bs t u) : Within bs s u := by
  refine ⟨g.pending.trans h.pending, fun hs => ?_, fun b hb => (h.rest b hb).trans (g.rest b hb)⟩
  have ht := h.store hs
  rw [g.store (ht ▸ hs), ht]

/-- A part that did not change need not be named. -/
theorem Within.drop {bs cs : List Block} {s t : State} (h : Within bs s t) (hk : ∀ b ∈ bs, b ∉ cs → Unchanged s t b) :
    Within cs s t := by
  refine ⟨h.pending, h.store, fun b hb => ?_⟩
  by_cases hin : b ∈ bs
  · exact hk b hin hb
  · exact h.rest b hin

theorem Within.ite {bs : List Block} {s t u : State} {c : Prop} [Decidable c] (ht : c → Within bs s t)
    (hu : ¬ c → Within bs s u) : Within bs s (if c then t else u) := by
  split
  · exact ht ‹_›
  · exact hu ‹_›

/-- What is done under a guard, and nothing otherwise. -/
theorem Within.guarded {bs : List Block} {s t : State} {c : Prop} [Decidable c] (h : Within bs s t) :
    Within bs s (if c then t else s) := .ite (fun _ => h) fun _ => .refl bs s

/-! ### One part at a time -/

theorem withPhase_within (s : State) (v : Phase) : Within [.phase] s (s.withPhase v) :=
  ⟨rfl, fun _ => rfl, fun b hb => by cases b <;> simp at hb <;> rfl⟩
theorem withMeas_within (s : State) (v : Meas) : Within [.meas] s (s.withMeas v) :=
  ⟨rfl, fun _ => rfl, fun b hb => by cases b <;> simp at hb <;> rfl⟩
theorem withConds_within (s : State) (v : Conds) : Within [.conds] s (s.withConds v) :=
  ⟨rfl, fun _ => rfl, fun b hb => by cases b <;> simp at hb <;> rfl⟩
theorem withTrips_within (s : State) (v : TripList) : Within [.trips] s (s.withTrips v) :=
  ⟨rfl, fun _ => rfl, fun b hb => by cases b <;> simp at hb <;> rfl⟩
theorem withRoster_within (s : State) (v : List Entry) : Within [.roster] s (s.withRoster v) :=
  ⟨rfl, fun _ => rfl, fun b hb => by cases b <;> simp at hb <;> rfl⟩
theorem withFormation_within (s : State) (v : Timer) : Within [.formation] s (s.withFormation v) :=
  ⟨rfl, fun _ => rfl, fun b hb => by cases b <;> simp at hb <;> rfl⟩
theorem withBeats_within (s : State) (v : Beats) : Within [.beats] s (s.withBeats v) :=
  ⟨rfl, fun _ => rfl, fun b hb => by cases b <;> simp at hb <;> rfl⟩
theorem withBudget_within (s : State) (v : Budget) : Within [.budget] s (s.withBudget v) :=
  ⟨rfl, fun _ => rfl, fun b hb => by cases b <;> simp at hb <;> rfl⟩
theorem withReclose_within (s : State) (v : Reclose) : Within [.reclose] s (s.withReclose v) :=
  ⟨rfl, fun _ => rfl, fun b hb => by cases b <;> simp at hb <;> rfl⟩
theorem withStop_within (s : State) (v : StopLine) : Within [.stop] s (s.withStop v) :=
  ⟨rfl, fun _ => rfl, fun b hb => by cases b <;> simp at hb <;> rfl⟩
theorem withLink_within (s : State) (v : Link) : Within [.link] s (s.withLink v) :=
  ⟨rfl, fun _ => rfl, fun b hb => by cases b <;> simp at hb <;> rfl⟩
theorem withFreeCount_within (s : State) (v : Nat) : Within [] s (s.withFreeCount v) :=
  ⟨rfl, fun _ => rfl, fun b _ => by cases b <;> rfl⟩

/-! ### The reaches of Laws/Scope as parts -/

theorem ListReach.within {s t : State} (h : ListReach s t) : Within listReach s t := by
  rw [h]
  exact ⟨rfl, fun _ => rfl, fun b hb => by cases b <;> simp [listReach, closingReach] at hb <;> rfl⟩

theorem CondReach.within {s t : State} (h : CondReach s t) : Within (.stop :: condReach) s t := by
  rw [h]
  exact ⟨rfl, fun _ => rfl, fun b hb => by cases b <;> simp [condReach, listReach, closingReach] at hb <;> rfl⟩

theorem FrameReach.within {s t : State} (h : FrameReach s t) : Within frameReach s t := by
  rw [h]
  exact ⟨rfl, fun _ => rfl, fun b hb => by cases b <;> simp [frameReach, condReach, listReach, closingReach] at hb <;> rfl⟩

/-- The closing checks reach the round, the quiet timer and the link (R100, R102, R132). -/
theorem settle_within (b s : State) : Within closingReach s (settle b s) := by
  refine (settle_reach b s).within.drop fun c hc hnot => ?_
  simp only [listReach, closingReach, List.cons_append, List.nil_append, List.mem_cons, List.not_mem_nil, or_false] at hc hnot
  rcases hc with rfl | rfl | rfl | hc
  · exact settle_trips b s
  · exact settle_charge b s
  · exact settle_discharge b s
  · exact absurd hc hnot

/-- An operation on some parts, with the closing checks of its command. -/
theorem Within.closing {bs : List Block} {s t : State} (h : Within bs s t) (b : State) (hsub : closingReach ⊆ bs) :
    Within bs s (settle b t) := h.trans ((settle_within b t).mono hsub)

/-- A free order of acts on some parts. -/
theorem inAnyOrder_within (bs : List Block) (acts : List (State → State)) (h : ∀ f ∈ acts, ∀ s, Within bs s (f s))
    (s : State) : Within bs s (inAnyOrder acts s) :=
  inAnyOrder_keeps (Within bs s) acts (fun t n ht => ht.trans ((withFreeCount_within t n).mono (List.nil_subset _)))
    (fun f hf t ht => ht.trans (h f hf t)) s (.refl bs s)

/-! ### The condition monitor -/

theorem freeTripOrder_within (ids : List CondId) (s : State) : Within [] s (freeTripOrder ids s).2 := by
  unfold freeTripOrder
  split
  · exact .refl _ s
  · exact .refl _ s
  · exact withFreeCount_within s _

/-- Own conditions that clear and trip reach what a change of the list reaches (R31). -/
theorem reportConds_within (cleared tripped : List CondId) (s : State) :
    Within listReach s (reportConds cleared tripped s) := by
  have hclear := (foldl_clearOwn_reach cleared s).list.within
  have horder := (freeTripOrder_within tripped (cleared.foldl (fun t id => clearOwn id t) s)).mono (List.nil_subset listReach)
  have hactivate := (foldl_activateOwn_reach (freeTripOrder tripped (cleared.foldl (fun t id => clearOwn id t) s)).1
    (freeTripOrder tripped (cleared.foldl (fun t id => clearOwn id t) s)).2).list.within
  exact ((hclear.trans horder).trans hactivate).trans (listReport_reach _ _).within

/-- New conditions and the report of their changes. -/
theorem reportNew_within (c : Conds) (cleared tripped : List CondId) (s : State) :
    Within condReach s (reportConds cleared tripped (s.withConds c)) :=
  ((withConds_within s c).mono (by decide)).trans
    ((reportConds_within cleared tripped _).mono (by decide))

theorem tripConds_within (ids : List CondId) (s : State) : Within condReach s (tripConds ids s) := reportNew_within _ _ _ s
theorem clearCond_within (id : CondId) (s : State) : Within condReach s (clearCond id s) := reportNew_within _ _ _ s
theorem membersLost_within (ids : List Nat) (s : State) : Within condReach s (membersLost ids s) := tripConds_within _ s
theorem reportEvaluated_within (e : Evaluated) (s : State) : Within condReach s (reportEvaluated e s) :=
  reportNew_within _ _ _ s

theorem shortSettles_within (s : State) : Within [.conds] s (shortSettles s) := by
  unfold shortSettles
  exact .guarded (withConds_within s _)

theorem shortReleased_within (s : State) : Within [.conds] s (shortReleased s) := by
  unfold shortReleased
  split
  · exact .refl _ s
  · exact withConds_within s _
  · exact shortSettles_within s
  · exact withConds_within s _

theorem releaseLine_within (s : State) : Within [.conds, .stop] s (releaseLine s) :=
  ((withStop_within s _).mono (by decide)).trans ((shortSettles_within _).mono (by decide))

theorem releaseIfDone_within (s : State) : Within [.conds, .stop] s (releaseIfDone s) := by
  unfold releaseIfDone
  exact .guarded (releaseLine_within s)

theorem setReleaseTimer_within (t : Timer) (s : State) : Within [.conds] s (setReleaseTimer t s) := by
  unfold setReleaseTimer
  exact .guarded (withConds_within s _)

theorem unexplainedReport_within (s : State) : Within condReach s (unexplainedReport s) := by
  unfold unexplainedReport
  have htrip := tripConds_within [ownCond .unexplainedStop] s
  exact .guarded (.ite (fun _ => htrip) fun _ => htrip.trans ((setReleaseTimer_within _ _).mono (by decide)))

theorem switchFaultReport_within (s : State) : Within condReach s (switchFaultReport s) := by
  unfold switchFaultReport
  exact .guarded (tripConds_within _ s)

theorem switchEvent_within (p : Path) (out : Switch × Bool) (s : State) : Within condReach s (switchEvent p out s) := by
  have hmove : Within condReach s (moveSwitch p out.1 s) := (moveSwitch_reach p out.1 s).list.within.mono (by decide)
  unfold switchEvent
  exact .ite (fun _ => hmove.trans (switchFaultReport_within _)) fun _ => hmove

/-- A hold of both paths leaves the list and the budget (R116, R139). -/
theorem holdBoth_within (s : State) : Within [.charge, .discharge, .reclose, .link] s (holdBoth s) := by
  refine (holdBoth_reach s).list.within.drop fun b hb hnot => ?_
  simp only [listReach, closingReach, List.cons_append, List.nil_append, List.mem_cons, List.not_mem_nil, or_false] at hb hnot
  rcases hb with rfl | rfl | rfl | rfl | rfl | rfl
  · exact holdBoth_trips s
  · simp at hnot
  · simp at hnot
  · simp at hnot
  · exact show (holdBoth s).budget = s.budget by rw [holdBoth_reach s]
  · simp at hnot

theorem lineAsserted_within (unexplained : Bool) (s : State) :
    Within ([.conds, .stop, .charge, .discharge] ++ closingReach) s (lineAsserted unexplained s) :=
  (((withStop_within s _).mono (by decide)).trans ((setReleaseTimer_within _ _).mono (by decide))).trans
    ((holdBoth_within _).mono (by decide))

theorem windowExpired_within (s : State) : Within ([.charge, .discharge] ++ closingReach) s (windowExpired s) := by
  refine (windowExpired_reach s).list.within.drop fun b hb hnot => ?_
  simp only [listReach, closingReach, List.cons_append, List.nil_append, List.mem_cons, List.not_mem_nil, or_false] at hb hnot
  rcases hb with rfl | hb
  · exact windowExpired_trips s
  · exact absurd hb hnot

/-! ### Membership and the phase -/

theorem changePhase_within (p : Phase) (s : State) :
    Within ([.phase, .formation] ++ listReach) s (changePhase p s) := by
  have hphase : Within ([.phase, .formation] ++ listReach) s (s.withPhase p) := (withPhase_within s p).mono (by decide)
  have hforming : Within ([.phase, .formation] ++ listReach) s
      (if s.phase = .FORMING then settleForming (s.withPhase p) else s.withPhase p) :=
    .ite (fun _ => hphase.trans ((settleForming_reach _).within.mono (by decide))) fun _ => hphase
  unfold changePhase
  simp only
  generalize (if s.phase = .FORMING then settleForming (s.withPhase p) else s.withPhase p) = u at hforming
  have htimer : Within ([.phase, .formation] ++ listReach) s
      (if s.phase = .FORMING ∧ p = .OPERATING then u.withFormation .stopped else u) :=
    .ite (fun _ => hforming.trans ((withFormation_within u _).mono (by decide))) fun _ => hforming
  exact .ite (fun _ => htimer.trans ((holdBoth_reach _).list.within.mono (by decide))) fun _ => htimer

theorem phaseChecks_within (s : State) : Within ([.phase, .formation] ++ listReach) s (phaseChecks s) := by
  rcases phaseChecks_cases s with e | ⟨p, _, _, _, _, e⟩
  · rw [e]
    exact .refl _ s
  · rw [e]
    exact changePhase_within p s

theorem entryLost_within (r : Nat) (s : State) :
    Within ([.phase, .roster, .formation] ++ condReach) s (entryLost r s) := by
  have hroster : Within ([.phase, .roster, .formation] ++ condReach) s
      (s.withRoster (updateEntry r Entry.goLost s.roster)) := (withRoster_within s _).mono (by decide)
  have hlost := hroster.trans ((membersLost_within [r] _).mono (by decide))
  exact (hlost.trans ((markStale_reach r true _).list.within.mono (by decide))).trans
    ((phaseChecks_within _).mono (by decide))

theorem formationExpired_within (s : State) : Within ([.roster, .formation] ++ condReach) s (formationExpired s) :=
  (((withRoster_within s _).mono (by decide)).trans ((withFormation_within _ .stopped).mono (by decide))).trans
    ((membersLost_within _ _).mono (by decide))

/-! ### Beats, the medium and the resets -/

theorem placeBeat_within (b : BeatFields) (s : State) : Within [.beats, .link] s (placeBeat b s) :=
  ((withLink_within s _).mono (by decide)).trans ((withBeats_within _ _).mono (by decide))

theorem beatPeriod_within (s : State) : Within ([.meas, .beats] ++ condReach) s (beatPeriod s) := by
  have hclose : Within ([.meas, .beats] ++ condReach) s (closeAverage s) := (withMeas_within s _).mono (by decide)
  refine (hclose.trans (inAnyOrder_within _ _ (fun f hf t => ?_) _)).trans ((withBeats_within _ _).mono (by decide))
  simp only [List.mem_cons, List.not_mem_nil, or_false] at hf
  rcases hf with rfl | rfl
  · exact (reportEvaluated_within _ t).mono (by decide)
  · exact (placeBeat_within _ t).mono (by decide)

theorem count_within (s : State) (f : Counters → Counters) : Within [.link] s (s.count f) := withLink_within s _

theorem mediumIdle_within (s : State) : Within frameReach s (mediumIdle s) := by
  have hlink : [Block.link] ⊆ frameReach := by decide
  have hcount (u : State) (f : Counters → Counters) : Within frameReach u (u.count f) := (count_within u f).mono hlink
  unfold mediumIdle
  split
  · exact .refl _ s
  · refine ((withLink_within s s.link.goIdle).mono hlink).trans ?_
    generalize s.withLink s.link.goIdle = u
    unfold judgeEnded
    repeat' split
    · exact .refl _ u
    · exact hcount u _
    · exact .refl _ u
    · exact hcount u _
    · exact hcount u _
    · exact .refl _ u
    · exact (receive_reach _ u).within

/-- The parts a reset reaches: all but the configuration block (R197, R204, R205). -/
def resetReach : List Block := [.meas, .supply, .load, .cfg, .beats] ++ frameReach

/-- What leaves queue and configuration block as they are is within a reset's reach. -/
theorem within_reset {s t : State} (hp : t.pending = s.pending) (hs : t.store = s.store) : Within resetReach s t := by
  refine ⟨hp, fun _ => hs, fun b hb => ?_⟩
  cases b <;> simp [resetReach, frameReach, condReach, listReach, closingReach] at hb
  exact hs

theorem replyLeft_within (s : State) : Within resetReach s (replyLeft s) := by
  unfold replyLeft
  exact .guarded (within_reset rfl rfl)

theorem collided_within (k : TxClass) (f : TxFrame) (s : State) : Within resetReach s (collided k f s) := by
  have hlink (u : State) (l : Link) : Within resetReach u (u.withLink l) := within_reset rfl rfl
  have hcount : Within resetReach s (s.count Counters.collided) := hlink s _
  unfold collided
  simp only
  generalize s.count Counters.collided = u at hcount
  have hdrop : Within resetReach s ((u.withLink (u.link.dropHead k)).count Counters.drop16) :=
    (hcount.trans (hlink u _)).trans (hlink _ _)
  generalize (u.withLink (u.link.dropHead k)).count Counters.drop16 = v at hdrop
  exact .ite (fun _ => hcount.trans (hlink u _)) fun _ => .ite (fun _ => hdrop.trans (replyLeft_within v)) fun _ => hdrop

theorem reportSent_within (k : TxClass) (f : TxFrame) (s : State) : Within resetReach s (reportSent k f s) := by
  have hstop : Within resetReach s (s.withStop { s.stop with confirmed := true }) := within_reset rfl rfl
  unfold reportSent
  refine .ite (fun _ => hstop.trans ?_) fun _ => .guarded (replyLeft_within s)
  exact (releaseIfDone_within _).mono (by decide)

/-- The parts a load reaches: all, the configuration block at the first load alone (R197, R200, R201). -/
def loadReach : List Block := .store :: resetReach

theorem within_load {s t : State} (hp : t.pending = s.pending) (hs : s.store.written = true → t.store = s.store) :
    Within loadReach s t := by
  refine ⟨hp, hs, fun b hb => ?_⟩
  cases b <;> simp [loadReach, resetReach, frameReach, condReach, listReach, closingReach] at hb

theorem Within.load {bs : List Block} {s t : State} (h : Within bs s t) : Within loadReach s t := within_load h.pending h.store

theorem startRun_within (shunt : Int) (s : State) : Within loadReach s (startRun shunt s) := by
  have hmeas : Within loadReach s ((startScan s).withMeas { (startScan s).meas with
      sampleTimer := .running 250, sum := 0, number := 0, comparator := comparatorRises s.cfg shunt }) :=
    within_load rfl fun _ => rfl
  unfold startRun
  exact .ite (fun _ => hmeas.trans (shortAsserted_reach _).within.load) fun _ => hmeas

theorem readStopLine_within (asserted : Bool) (s : State) : Within loadReach s (readStopLine asserted s) := by
  unfold readStopLine
  exact .guarded (lineAsserted_within true s).load

theorem readFeedback_within (i : LoadInputs) (s : State) : Within loadReach s (readFeedback i s) := by
  have hcharge : Within loadReach s (if i.feedbackCharge then moveSwitch .charge s.charge.feedbackOn s else s) :=
    .guarded (moveSwitch_reach _ _ s).list.within.load
  unfold readFeedback
  exact .ite (fun _ => hcharge.trans (moveSwitch_reach _ _ _).list.within.load) fun _ => hcharge

theorem endLoading_within (i : LoadInputs) (s : State) : Within loadReach s (endLoading i s) := by
  have hread : Within loadReach s (s.withStore (s.store.read i.block)) := within_load rfl (Store.read_written i.block s.store)
  unfold endLoading
  refine .guarded (.ite (fun _ => hread.trans (within_load rfl fun _ => rfl)) fun _ => hread.trans ?_)
  refine Within.trans ?_ (inAnyOrder_within _ _ (fun f hf t => ?_) _)
  · exact within_load rfl fun _ => rfl
  simp only [List.mem_cons, List.not_mem_nil, or_false] at hf
  rcases hf with rfl | rfl | rfl
  · exact startRun_within _ t
  · exact readStopLine_within _ t
  · exact readFeedback_within _ t

/-! ### Every command -/

/-- A guarded command with its closing checks. -/
theorem Within.command {bs : List Block} {s t : State} {c : Prop} [Decidable c] (h : Within bs s t)
    (hsub : closingReach ⊆ bs) : Within bs s (if c then settle s t else s) := .guarded (h.closing s hsub)

/-- Every command answers a next state, changed within the command's reach. -/
theorem exec_within (c : Instr) (s : State) : ∃ t, exec c s = .next t ∧ Within c.reach s t := by
  cases c
  all_goals simp only [Instr.reach]
  case supplyReset => exact ⟨_, rfl, within_reset rfl rfl⟩
  case supplyResetEnd =>
    refine ⟨_, rfl, .guarded ⟨rfl, fun _ => rfl, fun b hb => ?_⟩⟩
    cases b <;> simp at hb <;> rfl
  case loadingEnd i => exact ⟨_, rfl, endLoading_within i s⟩
  case checkIntervalExpiry => exact ⟨_, rfl, .guarded (withMeas_within s _)⟩
  case scanResult m =>
    exact ⟨_, rfl, .command (((withMeas_within s _).mono (by decide)).trans ((reportEvaluated_within _ _).mono (by decide)))
      (by decide)⟩
  case currentSample x =>
    exact ⟨_, rfl, .command (((withMeas_within s _).mono (by decide)).trans ((reportEvaluated_within _ _).mono (by decide)))
      (by decide)⟩
  case comparatorAssertion x =>
    exact ⟨_, rfl, .command (((withMeas_within s _).mono (by decide)).trans ((shortAsserted_reach _).within.mono (by decide)))
      (by decide)⟩
  case comparatorRelease x =>
    exact ⟨_, rfl, .command (((withMeas_within s _).mono (by decide)).trans ((shortReleased_within _).mono (by decide)))
      (by decide)⟩
  case shortDelayExpiry => exact ⟨_, rfl, .command (tripShort_reach s).within (by decide)⟩
  case recoveryTimerExpiry k => exact ⟨_, rfl, .command (clearCond_within _ s) (by decide)⟩
  case releaseTimerExpiry => exact ⟨_, rfl, .command (clearCond_within _ s) (by decide)⟩
  case beatPeriodEvent => exact ⟨_, rfl, .command (beatPeriod_within s) (by decide)⟩
  case haltedBeat => exact ⟨_, rfl, .guarded ((placeBeat_within _ s).trans ((withBeats_within _ _).mono (by decide)))⟩
  case silenceTimerExpiry r =>
    refine ⟨_, rfl, ?_⟩
    split
    · exact .command (entryLost_within r s) (by decide)
    · exact .refl _ s
  case formationTimeout => exact ⟨_, rfl, .command (formationExpired_within s) (by decide)⟩
  case holdOffExpiry p => exact ⟨_, rfl, .command ((withReclose_within s _).mono (by decide)) (by decide)⟩
  case windowTimerExpiry => exact ⟨_, rfl, .command (windowExpired_within s) (by decide)⟩
  case listFullTimerExpiry => exact ⟨_, rfl, .command ((withTrips_within s _).mono (by decide)) (by decide)⟩
  case quietTimerExpiry => exact ⟨_, rfl, .command ((withBudget_within s _).mono (by decide)) (by decide)⟩
  case feedbackOn p => exact ⟨_, rfl, .command (moveSwitch_reach p _ s).list.within (by decide)⟩
  case feedbackOff p => exact ⟨_, rfl, .command (switchEvent_within p _ s) (by decide)⟩
  case closeLimitExpiry p => exact ⟨_, rfl, .command (switchEvent_within p _ s) (by decide)⟩
  case openLimitExpiry p => exact ⟨_, rfl, .command (switchEvent_within p _ s) (by decide)⟩
  case stopLineGoingAsserted => exact ⟨_, rfl, .command (lineAsserted_within false s) (by decide)⟩
  case stopLineGoingReleased =>
    exact ⟨_, rfl, .command (((withStop_within s _).mono (by decide)).trans ((setReleaseTimer_within _ _).mono (by decide)))
      (by decide)⟩
  case minimumTimerExpiry =>
    exact ⟨_, rfl, .guarded (((withStop_within s _).mono (by decide)).trans (releaseIfDone_within _))⟩
  case driverLimitExpiry => exact ⟨_, rfl, .guarded (releaseLine_within s)⟩
  case explanationWindowExpiry =>
    exact ⟨_, rfl, .command (((withStop_within s _).mono (by decide)).trans ((unexplainedReport_within _).mono (by decide)))
      (by decide)⟩
  case stuckTimerExpiry =>
    exact ⟨_, rfl, .command (((withStop_within s _).mono (by decide)).trans ((unexplainedReport_within _).mono (by decide)))
      (by decide)⟩
  case mediumIdle => exact ⟨_, rfl, mediumIdle_within s⟩
  case frameStart =>
    refine ⟨_, rfl, ?_⟩
    split
    · exact .guarded (withLink_within s _)
    · exact .refl _ s
  case collision matched echo =>
    refine ⟨_, rfl, ?_⟩
    split
    · exact .refl _ s
    · simp only
      split
      · exact .refl _ s
      · refine .ite (fun _ => .refl _ s) fun _ => Within.trans ?_ (collided_within _ _ _)
        exact within_reset rfl rfl
  case frameSent =>
    refine ⟨_, rfl, ?_⟩
    split
    · exact .refl _ s
    · refine Within.trans ?_ (reportSent_within _ _ _)
      exact within_reset rfl rfl
  case characterReceived e => exact ⟨_, rfl, .ite (fun _ => .refl _ s) fun _ => withLink_within s _⟩
  all_goals exact ⟨_, rfl, (receive_reach _ s).within⟩

/-! ### Commands passed over -/

/-- A station out of work passes over every command that is taken only at work (R54, R56, R75, R146, R155, R203). -/
theorem exec_of_idle (c : Instr) (s : State) (hw : s.working = false) (hc : c.atWork = true) : exec c s = .next s := by
  have hguard (q : Prop) [Decidable q] (t : State) : (if s.working = true ∧ q then t else s) = s :=
    if_neg fun h => Bool.false_ne_true (hw.symm.trans h.1)
  have hplain (t : State) : (if s.working = true then t else s) = s := if_neg (by simp [hw])
  cases c
  case silenceTimerExpiry r =>
    unfold exec execSilenceTimerExpiry
    refine congrArg Host.Outcome.next ?_
    split
    · exact hguard _ _
    · rfl
  case checkIntervalExpiry | scanResult | currentSample | beatPeriodEvent | windowTimerExpiry | feedbackOn | feedbackOff |
      closeLimitExpiry | openLimitExpiry | stopLineGoingAsserted | stopLineGoingReleased => exact congrArg _ (hplain _)
  case comparatorAssertion | comparatorRelease | shortDelayExpiry | recoveryTimerExpiry | releaseTimerExpiry |
      formationTimeout | holdOffExpiry | listFullTimerExpiry | quietTimerExpiry | minimumTimerExpiry |
      driverLimitExpiry | explanationWindowExpiry | stuckTimerExpiry => exact congrArg _ (hguard _ _)
  all_goals exact absurd hc Bool.noConfusion

/-- In LOADING no frame is received (R157). -/
theorem receive_of_loading (f : RxFrame) (s : State) (hp : s.phase = .LOADING) : receive f s = s := if_pos (.inl hp)

/-- A station in LOADING passes over every command but those of reset and loading (R157, R200, R204). -/
theorem exec_of_loading (c : Instr) (s : State) (hp : s.phase = .LOADING) (hsend : s.link.sending = none)
    (hc : c.ofReset = false) : exec c s = .next s := by
  by_cases hwork : c.atWork = true
  · exact exec_of_idle c s (not_working_of_loading hp) hwork
  · have hprogress : s.link.inProgress = none := by simp [Link.inProgress, hsend]
    cases c
    case haltedBeat => simp [exec, execHaltedBeat, hp]
    case mediumIdle => simp [exec, execMediumIdle, mediumIdle, hp]
    case frameStart =>
      simp only [exec, execFrameStart, hp, ne_eq, not_true, false_and, if_false]
      split <;> rfl
    case collision | frameSent => simp [exec, execCollision, execFrameSent, hprogress]
    case characterReceived e => simp [exec, execCharacterReceived, hp]
    case supplyReset | supplyResetEnd | loadingEnd => exact absurd hc Bool.noConfusion
    case beat | notice | propose | answer | proceed | closed | complete | abandon | reply | readStatus | readList |
        readRoster | readMeasurements | readCounters | clearCounters | readConfiguration | placeHold | releaseHold |
        clearTripped | resetBudget | restart | unknownRequest => exact congrArg _ (receive_of_loading _ s hp)
    all_goals exact absurd rfl hwork

/-- Settles O2: each command's operation is within its reach, and its guard fails out of work and in LOADING. -/
theorem everyCommandAnswers : Obligations.EveryCommandAnswers := by
  refine ⟨fun c s => ?_, exec_of_idle, exec_of_loading⟩
  obtain ⟨t, ht, hwithin⟩ := exec_within c s
  exact ⟨t, ht, hwithin.pending, hwithin.store, hwithin.rest⟩

end Sys2Proof.Machine
end

section
/-!
SUPPORT. Own records put on the list in the order their conditions trip, and cleared in place: the trip ids, the NOTICEs, the
records found and those left as they were (R5, R9 to R13, R33).
-/
namespace Sys2Proof.Machine

/-! ### Keys of own conditions -/

/-- The key of an own condition's record (R5). -/
def CondId.key (own : Nat) (id : CondId) : Nat × Kind × Option Nat := (own, id.kind, id.subject)

theorem CondId.key_inj {own : Nat} {a b : CondId} (h : a.key own = b.key own) : a = b := by
  obtain ⟨_, _⟩ := a
  obtain ⟨_, _⟩ := b
  simpa [CondId.key] using h

theorem CondId.names_iff (own : Nat) (id : CondId) (r : Record) : id.names own r = true ↔ r.key = id.key own :=
  Record.hasKey_iff own id.kind id.subject r

/-! ### A record under its key (R5, R6) -/

/-- Records that change under other keys alone leave what a key finds. -/
theorem findRecord_map_other (f : Record → Record) (o : Nat) (k : Kind) (sj : Option Nat) (l : List Record)
    (hkey : ∀ r, (f r).key = r.key) (hfix : ∀ r, r.key = (o, k, sj) → f r = r) :
    findRecord o k sj (l.map f) = findRecord o k sj l := by
  have hsame (r : Record) : Record.hasKey o k sj (f r) = Record.hasKey o k sj r := by
    rw [Bool.eq_iff_iff, Record.hasKey_iff, Record.hasKey_iff, hkey]
  unfold findRecord
  rw [find_map_of_key _ f hsame]
  cases hx : l.find? (Record.hasKey o k sj) with
  | none => rfl
  | some x => exact congrArg some (hfix x ((Record.hasKey_iff ..).1 (List.find?_some hx)))

theorem findRecord_upsert_other (r : Record) (o : Nat) (k : Kind) (sj : Option Nat) (l : List Record)
    (h : (o, k, sj) ≠ r.key) : findRecord o k sj (upsert r l) = findRecord o k sj l := by
  unfold upsert
  split
  · refine findRecord_map_other _ o k sj l (fun x => ?_) fun x hx => if_neg fun hk => ?_
    · split
      · exact ((Record.hasKey_iff ..).1 ‹_›).symm
      · rfl
    · exact h (hx.symm.trans ((Record.hasKey_iff ..).1 hk))
  · have hr : Record.hasKey o k sj r = false := by
      rw [← Bool.not_eq_true, Record.hasKey_iff]
      exact h.symm
    unfold findRecord
    rw [List.find?_append, List.find?_cons_of_neg (by simp [hr]), List.find?_nil, Option.or_none]

theorem mem_upsert_other (r x : Record) (l : List Record) (h : x.key ≠ r.key) : x ∈ upsert r l ↔ x ∈ l := by
  have hne : x ≠ r := fun e => h (congrArg Record.key e)
  unfold upsert
  split
  · rw [List.mem_map]
    constructor
    · rintro ⟨y, hy, e⟩
      split at e
      · exact absurd e.symm hne
      · exact e ▸ hy
    · refine fun hx => ⟨x, hx, if_neg fun hk => h ?_⟩
      exact (Record.hasKey_iff ..).1 hk
  · simp [hne]

/-! ### Activations in order (R9, R10, R12, R13, R33) -/

/-- The conditions named reach the list one after the other. -/
def activateAll (ids : List CondId) (s : State) : State := ids.foldl (fun t id => activateOwn id t) s

theorem activateAll_cons (id : CondId) (ids : List CondId) (s : State) :
    activateAll (id :: ids) s = activateAll ids (activateOwn id s) := rfl

/-- The record a trip of an own condition puts on the list, with its trip id (R9, R10). -/
def trippedRecord (own : Nat) (id : CondId) (n : Nat) : Record :=
  { origin := own, kind := id.kind, subject := id.subject, tripId := n, paths := kindPaths id.kind, phase := .ACTIVE
    stale := false, counted := false }

theorem Kind.fixedPaths_eq (k : Kind) (h : k ≠ .hold) : k.fixedPaths = some (kindPaths k) := by
  cases k <;> first | rfl | exact absurd rfl h

theorem newOwnRecord_eq (own : Nat) (id : CondId) (c : Conds) (t : TripList) (h : id.kind ≠ .hold) :
    newOwnRecord own id (c.paths id) t = trippedRecord own id t.nextId := by
  simp [newOwnRecord, trippedRecord, Conds.paths, Kind.fixedPaths_eq _ h]

/-- Counting on from the next trip id (R33). -/
theorem tripIdAfter_next (n k : Nat) : tripIdAfter (nextTripId n) k = tripIdAfter n (k + 1) := by
  induction k with
  | zero => rfl
  | succ k ih =>
      rw [tripIdAfter, ih]
      rfl

theorem activateAll_nextId (ids : List CondId) (s : State) :
    (activateAll ids s).trips.nextId = tripIdAfter s.trips.nextId ids.length := by
  induction ids generalizing s with
  | nil => rfl
  | cons id ids ih => exact (ih _).trans (tripIdAfter_next _ _)

/-- A key that no activated condition has finds what it found. -/
theorem activateAll_find_other (ids : List CondId) (s : State) (o : Nat) (k : Kind) (sj : Option Nat)
    (h : ∀ id ∈ ids, (o, k, sj) ≠ id.key s.rank) :
    findRecord o k sj (activateAll ids s).trips.records = findRecord o k sj s.trips.records := by
  induction ids generalizing s with
  | nil => rfl
  | cons id ids ih =>
      exact (ih (activateOwn id s) fun i hi => h i (List.mem_cons_of_mem _ hi)).trans
        (findRecord_upsert_other _ _ _ _ _ (h id List.mem_cons_self))

theorem mem_activateAll_other (ids : List CondId) (s : State) (x : Record) (h : ∀ id ∈ ids, x.key ≠ id.key s.rank) :
    x ∈ (activateAll ids s).trips.records ↔ x ∈ s.trips.records := by
  induction ids generalizing s with
  | nil => rfl
  | cons id ids ih =>
      exact (ih (activateOwn id s) fun i hi => h i (List.mem_cons_of_mem _ hi)).trans
        (mem_upsert_other _ _ _ (h id List.mem_cons_self))

/-- Each activated condition's key finds its record, with the trip id its place in the order gives (R33). -/
theorem activateAll_find (ids : List CondId) (s : State) (hnodup : ids.Nodup) (hhold : ∀ id ∈ ids, id.kind ≠ .hold)
    (i : Nat) (id : CondId) (hi : ids[i]? = some id) :
    findRecord s.rank id.kind id.subject (activateAll ids s).trips.records =
      some (trippedRecord s.rank id (tripIdAfter s.trips.nextId i)) := by
  induction ids generalizing s i with
  | nil => simp at hi
  | cons x xs ih =>
      obtain ⟨hx, hxs⟩ := List.nodup_cons.1 hnodup
      rw [activateAll_cons]
      cases i with
      | zero =>
          obtain rfl : x = id := by simpa using hi
          refine (activateAll_find_other xs (activateOwn x s) s.rank x.kind x.subject fun y hy e => hx ?_).trans ?_
          · exact CondId.key_inj (own := s.rank) e ▸ hy
          · rw [activateOwn_find, newOwnRecord_eq _ _ _ _ (hhold x List.mem_cons_self)]
            rfl
      | succ i =>
          rw [← tripIdAfter_next]
          exact ih (activateOwn x s) hxs (fun y hy => hhold y (List.mem_cons_of_mem _ hy)) i (by simpa using hi)

/-- The NOTICE of a tripped record, as a frame carries it (R13, R165). -/
theorem entry_trippedRecord (own n : Nat) (id : CondId) :
    (trippedRecord own id n).entry =
      { kind := byteOf id.kind.code, subject := byteOf (id.subject.getD 0), tripId := byteOf n
        state := byteOf (kindPaths id.kind).code } := rfl

theorem ownNotices_cons (n : Nat) (id : CondId) (ids : List CondId) :
    ownNotices n (id :: ids) =
      TxFrame.new 0 (.notice (trippedRecord 0 id n).entry) :: ownNotices (nextTripId n) ids := by
  unfold ownNotices
  rw [List.mapIdx_cons, entry_trippedRecord]
  simp only [tripIdAfter_next]
  rfl

/-- The NOTICEs join the queue in order while there is room (R13, R173). -/
theorem activateAll_notices (ids : List CondId) (s : State) (hhold : ∀ id ∈ ids, id.kind ≠ .hold) :
    (activateAll ids s).link.notices =
      s.link.notices ++ (ownNotices s.trips.nextId ids).take (8 - s.link.notices.length) := by
  induction ids generalizing s with
  | nil => simp [activateAll, ownNotices]
  | cons id ids ih =>
      have hone : (activateOwn id s).link = s.link.queueNotice (.notice (trippedRecord s.rank id s.trips.nextId).entry) := by
        unfold activateOwn
        rw [newOwnRecord_eq _ _ _ _ (hhold id List.mem_cons_self)]
        rfl
      rw [activateAll_cons, ih _ fun i hi => hhold i (List.mem_cons_of_mem _ hi), ownNotices_cons, hone]
      have hid : (activateOwn id s).trips.nextId = nextTripId s.trips.nextId := rfl
      rw [hid]
      unfold Link.queueNotice
      split
      · rename_i hroom
        obtain ⟨k, hk⟩ : ∃ k, 8 - s.link.notices.length = k + 1 := ⟨7 - s.link.notices.length, by omega⟩
        have hk' : 8 - (s.link.notices.length + 1) = k := by omega
        simp [hk, hk']
        rfl
      · rename_i hfull
        have hk : 8 - s.link.notices.length = 0 := by omega
        simp [hk]

end Sys2Proof.Machine
end

section
/-!
SUPPORT. What a report of own conditions does to the station, whatever the order of its activations: list, budget, switches,
round and NOTICEs (R9 to R13, R22, R23, R31, R33, R116, R126, R127).
-/
namespace Sys2Proof.Machine

/-! ### The list before its report -/

/-- A record as the clearing of own conditions leaves it (R11). -/
def clearRecord (own : Nat) (ids : List CondId) (r : Record) : Record :=
  if ids.any fun id => id.names own r then { r with phase := .CLEARED } else r

theorem clearRecord_fades (own : Nat) (ids : List CondId) (r : Record) : Fades (clearRecord own ids) r := by
  unfold clearRecord
  refine ⟨?_, ?_, ?_⟩
  · split <;> rfl
  · split <;> rfl
  · split
    · exact RecPhase.noConfusion
    · exact fun h => ⟨h, rfl⟩

theorem clearRecord_of_unnamed {own : Nat} {ids : List CondId} {r : Record} (h : ∀ id ∈ ids, r.key ≠ id.key own) :
    clearRecord own ids r = r :=
  if_neg fun hany => by
    obtain ⟨id, hid, hn⟩ := List.any_eq_true.1 hany
    exact h id hid ((CondId.names_iff own id r).1 hn)

theorem clearRecord_of_named {own : Nat} {ids : List CondId} {id : CondId} {r : Record} (hid : id ∈ ids)
    (h : r.key = id.key own) : clearRecord own ids r = { r with phase := .CLEARED } :=
  if_pos (List.any_eq_true.2 ⟨id, hid, (CondId.names_iff own id r).2 h⟩)

theorem foldl_clearOwn_eq (ids : List CondId) (s : State) :
    ids.foldl (fun t id => clearOwn id t) s = s.withRecords (s.trips.records.map (clearRecord s.rank ids)) := by
  induction ids generalizing s with
  | nil =>
      have hid : clearRecord s.rank [] = id := rfl
      rw [hid, List.map_id]
      rfl
  | cons i is ih =>
      refine (ih (clearOwn i s)).trans (congrArg s.withRecords ?_)
      rw [clearOwn_records, List.map_map]
      refine List.map_congr_left fun r _ => ?_
      have hnames (x : CondId) : x.names s.rank { r with phase := .CLEARED } = x.names s.rank r := rfl
      show clearRecord s.rank is (if i.names s.rank r then { r with phase := .CLEARED } else r) = _
      unfold clearRecord
      rw [List.any_cons]
      cases i.names s.rank r with
      | true => simp
      | false => simp

/-- The station with the records of own conditions turned CLEARED and the free counter at `m` (R11; log entry 2). -/
def ownCleared (cleared : List CondId) (m : Nat) (s : State) : State :=
  (s.withRecords (s.trips.records.map (clearRecord s.rank cleared))).withFreeCount m

/-- The station as a report of own conditions finds it: some records turned CLEARED, then those of the tripped conditions put on
the list in their order (R9 to R12). -/
def ownChanged (cleared order : List CondId) (m : Nat) (s : State) : State := activateAll order (ownCleared cleared m s)

theorem orderBy_perm {α : Type} (n : Nat) (l : List α) : (orderBy n l).Perm l := by
  induction l generalizing n with
  | nil => exact .refl _
  | cons x xs ih =>
      unfold orderBy
      refine List.perm_middle.trans ?_
      rw [List.take_append_drop]
      exact (ih _).cons x

theorem freeTripOrder_spec (ids : List CondId) (s : State) :
    ∃ order m, order.Perm ids ∧ freeTripOrder ids s = (order, s.withFreeCount m) := by
  unfold freeTripOrder
  split
  · exact ⟨[], s.freeCount, .refl _, rfl⟩
  · exact ⟨_, s.freeCount, .refl _, rfl⟩
  · exact ⟨_, s.freeCount + 1, orderBy_perm _ _, rfl⟩

/-- A report of own conditions is the list's report of the change, in some order of the activations (R31; log entry 2). -/
theorem reportConds_eq (cleared tripped : List CondId) (s : State) :
    ∃ order m, order.Perm tripped ∧ reportConds cleared tripped s =
      listReport { before := s.trips.records, activated := tripped } (ownChanged cleared order m s) := by
  obtain ⟨order, m, hperm, heq⟩ :=
    freeTripOrder_spec tripped (s.withRecords (s.trips.records.map (clearRecord s.rank cleared)))
  refine ⟨order, m, hperm, ?_⟩
  unfold reportConds
  simp only [foldl_clearOwn_eq, heq]
  rfl

variable (cleared order : List CondId) (m : Nat) (s : State)

theorem activateAll_eq (ids : List CondId) (u : State) :
    activateAll ids u = { u with trips := (activateAll ids u).trips, link := (activateAll ids u).link } := by
  induction ids generalizing u with
  | nil => rfl
  | cons id ids ih => exact ih (activateOwn id u)

/-- Until the report only list, queues and free counter change. -/
theorem ownChanged_eq :
    ownChanged cleared order m s = { s with trips := (ownChanged cleared order m s).trips
                                            link := (ownChanged cleared order m s).link, freeCount := m } :=
  activateAll_eq order (ownCleared cleared m s)

theorem ownChanged_rank : (ownChanged cleared order m s).rank = s.rank := by
  unfold State.rank
  rw [ownChanged_eq]

theorem ownChanged_find_other (o : Nat) (k : Kind) (sj : Option Nat) (h : ∀ id ∈ order, (o, k, sj) ≠ id.key s.rank) :
    findRecord o k sj (ownChanged cleared order m s).trips.records =
      (findRecord o k sj s.trips.records).map (clearRecord s.rank cleared) := by
  refine (activateAll_find_other order (ownCleared cleared m s) o k sj h).trans (find_map_of_key _ _ (fun r => ?_) _)
  rw [Bool.eq_iff_iff, Record.hasKey_iff, Record.hasKey_iff, (clearRecord_fades s.rank cleared r).key]

theorem mem_ownChanged_other (x : Record) (h : ∀ id ∈ order, x.key ≠ id.key s.rank) :
    x ∈ (ownChanged cleared order m s).trips.records ↔ x ∈ s.trips.records.map (clearRecord s.rank cleared) :=
  mem_activateAll_other order (ownCleared cleared m s) x h

theorem ownChanged_find (hnodup : order.Nodup) (hhold : ∀ id ∈ order, id.kind ≠ .hold) (i : Nat) (id : CondId)
    (hi : order[i]? = some id) :
    findRecord s.rank id.kind id.subject (ownChanged cleared order m s).trips.records =
      some (trippedRecord s.rank id (tripIdAfter s.trips.nextId i)) :=
  activateAll_find order (ownCleared cleared m s) hnodup hhold i id hi

theorem upsert_keys_nodup (r : Record) (l : List Record) (h : (l.map Record.key).Nodup) :
    ((upsert r l).map Record.key).Nodup := by
  rw [upsert_keys]
  split
  · exact h
  · rename_i hnew
    simpa using h.concat hnew

theorem activateAll_uniqueKeys (ids : List CondId) (u : State) (h : UniqueKeys u) : UniqueKeys (activateAll ids u) := by
  induction ids generalizing u with
  | nil => exact h
  | cons id ids ih => exact ih _ (upsert_keys_nodup _ _ h)

theorem ownChanged_uniqueKeys (h : UniqueKeys s) : UniqueKeys (ownChanged cleared order m s) := by
  refine activateAll_uniqueKeys order _ ?_
  show ((s.trips.records.map _).map Record.key).Nodup
  rw [map_key_of_keeps _ fun r => (clearRecord_fades s.rank cleared r).key]
  exact h

theorem queueNotice_course (c : Content) (u : State) : Course u (queueNotice c u) := by
  have hlink : (u.link.queueNotice c).rounds = u.link.rounds ∧
      (u.link.queueNotice c).counters.roundsAbandoned = u.link.counters.roundsAbandoned := by
    unfold Link.queueNotice
    split <;> exact ⟨rfl, rfl⟩
  exact ⟨rfl, fun p => .inl (by cases p <;> rfl), .inl ⟨rfl, rfl, fun _ => rfl, hlink.1, hlink.2⟩⟩

theorem activateAll_course (ids : List CondId) (u : State) : Course u (activateAll ids u) := by
  induction ids generalizing u with
  | nil => exact .refl u
  | cons id ids ih =>
      have hone : Course u (activateOwn id u) :=
        Course.trans (t := u.withTrips _) (withTrips_course u _) (queueNotice_course _ _)
      exact hone.trans (ih _)

/-- Switches and round stay until the report. -/
theorem ownChanged_course : Course s (ownChanged cleared order m s) :=
  Course.trans (t := ownCleared cleared m s) (course_of_same rfl rfl rfl rfl rfl) (activateAll_course order _)

theorem ownChanged_nextId :
    (ownChanged cleared order m s).trips.nextId = tripIdAfter s.trips.nextId order.length :=
  activateAll_nextId order (ownCleared cleared m s)

theorem ownChanged_notices (hhold : ∀ id ∈ order, id.kind ≠ .hold) :
    (ownChanged cleared order m s).link.notices =
      s.link.notices ++ (ownNotices s.trips.nextId order).take (8 - s.link.notices.length) :=
  activateAll_notices order (ownCleared cleared m s) hhold

/-! ### Offers to the budget (R23, R126, R127) -/

/-- A record as the list's offers leave it. -/
def State.offerTaken (s : State) (ch : Change) (r : Record) : Record :=
  if (s.phase = .OPERATING ∨ s.phase = .CONFINED) ∧ r.offeredIn s.rank ch = true then { r with counted := true } else r

theorem State.offerTaken_key (ch : Change) (r : Record) : (s.offerTaken ch r).key = r.key := by
  unfold State.offerTaken
  split <;> rfl

theorem takeOffers_trips (ch : Change) :
    (takeOffers ch s).trips = { s.trips with records := s.trips.records.map (s.offerTaken ch) } := by
  by_cases hc : s.phase = .OPERATING ∨ s.phase = .CONFINED
  · have hfun : s.offerTaken ch = fun r => if r.offeredIn s.rank ch then { r with counted := true } else r := by
      funext r
      simp [State.offerTaken, hc]
    unfold takeOffers
    rw [if_pos hc, hfun]
    rfl
  · have hfun : s.offerTaken ch = id := by
      funext r
      simp [State.offerTaken, hc]
    unfold takeOffers
    rw [if_neg hc, hfun, List.map_id]

theorem takeOffers_count (ch : Change) (hw : s.working = true) :
    (takeOffers ch s).budget.count = if s.phase = .FORMING then s.budget.count
      else countPlus s.cfg.latchLimit s.budget.count (s.trips.records.filter (Record.offeredIn s.rank ch)).length := by
  unfold takeOffers
  by_cases hf : s.phase = .FORMING
  · rw [if_neg (by simp [hf]), if_pos hf]
  · rw [if_pos ((counts_iff hw).2 hf), if_neg hf]
    rfl

/-- A record under no activated key is new as it would be with none activated. -/
theorem Record.newIn_unnamed {own : Nat} {ch : Change} {r : Record} (h : ∀ id ∈ ch.activated, r.key ≠ id.key own) :
    r.newIn own ch = r.newIn own (foreignChange ch.before) := by
  have hnone : (ch.activated.any fun id => id.names own r) = false := by
    rw [List.any_eq_false]
    exact fun id hid hn => h id hid ((CondId.names_iff own id r).1 hn)
  unfold Record.newIn
  rw [hnone]
  rfl

/-- A record that fades and has no activated key is not offered (R23). -/
theorem Fades.not_offered {f : Record → Record} {l : List Record} {own : Nat} {tripped : List CondId} {r : Record}
    (h : Fades f r) (hk : (l.map Record.key).Nodup) (hr : r ∈ l) (hother : ∀ id ∈ tripped, r.key ≠ id.key own) :
    (f r).offeredIn own { before := l, activated := tripped } = false := by
  have hnew := Record.newIn_unnamed (ch := { before := l, activated := tripped }) (r := f r) fun id hid => h.key ▸ hother id hid
  unfold Record.offeredIn
  rw [hnew]
  exact Bool.and_eq_false_iff.2 (.inr (h.newIn own hk hr))

/-! ### The NOTICE queue under departures -/

theorem Link.queueRound_notices (l : Link) (dst : Byte) (c : Content) : (l.queueRound dst c).notices = l.notices := by
  rw [Link.queueRound_frame]

theorem leaveRound_notices : (leaveRound s).link.notices = s.link.notices := by
  have hremember (r : Round) (u : State) : (rememberLeft r u).link = u.link := by
    unfold rememberLeft
    split <;> rfl
  unfold leaveRound
  split
  · rfl
  · rename_i r _
    have hcount (u : State) : (u.count Counters.abandoned).link.notices = u.link.notices := rfl
    simp only [hcount, endRound_link, hremember]
    split
    · exact Link.queueRound_notices _ _ _
    · rfl

theorem openPath_notices (p : Path) (u : State) : (openPath p u).link.notices = u.link.notices := by
  have hset : (u.setSwitch p (u.switch p).openCommand).link.notices = u.link.notices := by simp
  rcases openPath_eq p u with e | e
  · rw [e, hset]
  · rw [e]
    unfold afterOpen
    split
    · exact hset
    · split
      · rw [leaveRound_notices, hset]
      · exact hset

theorem listReport_notices (ch : Change) : (listReport ch s).link.notices = s.link.notices := by
  have hoffers : (takeOffers ch s).link = s.link := by
    unfold takeOffers
    split <;> rfl
  have hopen := forPaths_keeps (fun u => u.link.notices) (newlyBlocked ch.before (takeOffers ch s).trips.records) openPath
    openPath_notices (takeOffers ch s)
  unfold listReport
  simp only
  split
  · rw [hopen, hoffers]
  · split
    · rw [leaveRound_notices, hopen, hoffers]
    · rw [hopen, hoffers]

/-! ### The report -/

/-- The record of a condition that tripped, as its report leaves it where the station counts (R9, R10, R23). -/
def reportedRecord (s : State) (id : CondId) (n : Nat) : Record :=
  { trippedRecord s.rank id n with
    counted := decide (s.phase = .OPERATING ∨ s.phase = .CONFINED) && id.kind.currentClass }

/-- From `s` to `t` the conditions of `order` have tripped, one after the other, and the change is reported: each has its record
with its trip id and its NOTICE where there is room, its paths are off, and a round one of them meets is left. -/
structure OwnReport (order : List CondId) (s t : State) : Prop where
  course : Course s t
  rank : t.rank = s.rank
  nextId : t.trips.nextId = tripIdAfter s.trips.nextId order.length
  notices : t.link.notices = s.link.notices ++ (ownNotices s.trips.nextId order).take (8 - s.link.notices.length)
  epoch : t.budget.epoch = s.budget.epoch
  forming : s.phase = .FORMING → t.budget = s.budget
  found : ∀ (i : Nat) (id : CondId), order[i]? = some id →
    findRecord s.rank id.kind id.subject t.trips.records = some (reportedRecord s id (tripIdAfter s.trips.nextId i))
  off : HeldByList s → ∀ id ∈ order, ∀ p, (kindPaths id.kind).has p = true → (t.switch p).isOff
  idle : ∀ id ∈ order, ∀ r, s.reclose.round = some r →
    (∃ p, r.paths.has p = true ∧ (kindPaths id.kind).has p = true) → t.reclose.round = none

theorem offerTaken_trippedRecord (ch : Change) (id : CondId) (n : Nat) (hid : id ∈ ch.activated) :
    s.offerTaken ch (trippedRecord s.rank id n) = reportedRecord s id n := by
  have hnew : (trippedRecord s.rank id n).newIn s.rank ch = true :=
    Record.newIn_activated _ _ id _ hid ((CondId.names_iff _ _ _).2 rfl)
  have hoffer : (trippedRecord s.rank id n).offeredIn s.rank ch = id.kind.currentClass := by
    unfold Record.offeredIn
    rw [hnew]
    simp [trippedRecord]
  unfold State.offerTaken reportedRecord
  rw [hoffer]
  split
  · rename_i h
    simp [h]
  · rename_i h
    rw [not_and_or] at h
    rcases h with h | h <;> simp [h, trippedRecord]

/-- A report of own conditions that trip does so, in some order of them (R9 to R13, R22, R31, R33, R116; log entry 2). -/
theorem reportConds_report (cleared tripped : List CondId) (s : State) (hnodup : tripped.Nodup)
    (hhold : ∀ id ∈ tripped, id.kind ≠ .hold) :
    ∃ order, order.Perm tripped ∧ OwnReport order s (reportConds cleared tripped s) := by
  obtain ⟨order, m, hperm, heq⟩ := reportConds_eq cleared tripped s
  have hfind := ownChanged_find cleared order m s (hperm.nodup_iff.2 hnodup) fun id hid => hhold id (hperm.mem_iff.1 hid)
  have hshape := ownChanged_eq cleared order m s
  have hnext := ownChanged_nextId cleared order m s
  have hnotices := ownChanged_notices cleared order m s fun id hid => hhold id (hperm.mem_iff.1 hid)
  have hcourse := ownChanged_course cleared order m s
  refine ⟨order, hperm, ?_⟩
  rw [heq]
  have hrank := ownChanged_rank cleared order m s
  generalize ownChanged cleared order m s = w at hfind hshape hnext hnotices hcourse hrank
  have hphase : w.phase = s.phase := by rw [hshape]
  have hmem (i : Nat) (id : CondId) (hi : order[i]? = some id) :
      trippedRecord s.rank id (tripIdAfter s.trips.nextId i) ∈ w.trips.records :=
    List.mem_of_find?_eq_some (hfind i id hi)
  generalize hch : (⟨s.trips.records, tripped⟩ : Change) = ch
  have hactivated (id : CondId) (hid : id ∈ order) : id ∈ ch.activated := hch ▸ hperm.mem_iff.1 hid
  have hreport := listReport_course ch w
  refine ⟨hcourse.trans hreport, (listReport_reach ch w).cond.rank.trans hrank, ?_, (listReport_notices w ch).trans hnotices,
    ?_, fun hf => ?_, fun i id hi => ?_, fun hheld id hid p hp => ?_, fun id hid r hr ⟨p, hp, hq⟩ => ?_⟩
  · rw [listReport_trips, takeOffers_trips]
    exact hnext
  · rw [(listReport_soft ch w).epoch, hshape]
  · rw [listReport_budget]
    unfold takeOffers
    rw [if_neg (by simp [hphase, hf]), hshape]
  · have hkeep (r : Record) : Record.hasKey s.rank id.kind id.subject (w.offerTaken ch r) =
        Record.hasKey s.rank id.kind id.subject r := by
      rw [Bool.eq_iff_iff, Record.hasKey_iff, Record.hasKey_iff, w.offerTaken_key]
    have hsame : reportedRecord w id = reportedRecord s id := by
      unfold reportedRecord
      rw [hrank, hphase]
    have htaken := offerTaken_trippedRecord w ch id (tripIdAfter s.trips.nextId i) (hactivated id (List.mem_of_getElem? hi))
    rw [hrank, hsame] at htaken
    rw [listReport_trips, takeOffers_trips, ← htaken]
    exact (find_map_of_key _ _ hkeep _).trans (congrArg _ (hfind i id hi))
  · obtain ⟨i, hi⟩ := List.getElem?_of_mem hid
    have hafter : w.blocked p = true :=
      List.any_eq_true.2 ⟨_, hmem i id hi, by simpa [Record.blocks, trippedRecord] using hp⟩
    by_cases hbefore : s.blocked p = true
    · exact (hcourse.trans hreport).keeps_isOff p (hheld p (.inl hbefore))
    · exact listReport_off ch w p hafter (by rw [← hch]; simpa [State.blocked] using hbefore)
  · obtain ⟨i, hi⟩ := List.getElem?_of_mem hid
    have hround : w.reclose.round = some r := by
      rw [hshape]
      exact hr
    refine listReport_leaves ch w r hround (endsRound_of_gained (hmem i id hi) ?_ (meets_of_shared hq hp))
    have hnew := Record.newIn_activated s.rank ch id (trippedRecord s.rank id (tripIdAfter s.trips.nextId i))
      (hactivated id hid) ((CondId.names_iff _ _ _).2 rfl)
    unfold Record.gainedIn
    rw [hrank, hnew]
    rfl

/-! ### The report on a list with its keys apart (R5) -/

/-- A record under no activated key is not offered, whatever the station counts. -/
theorem offerTaken_clearRecord {own : Nat} {cleared tripped : List CondId} {l : List Record} {r : Record} (w : State)
    (hrank : w.rank = own) (hk : (l.map Record.key).Nodup) (hr : r ∈ l) (hother : ∀ id ∈ tripped, r.key ≠ id.key own) :
    w.offerTaken { before := l, activated := tripped } (clearRecord own cleared r) = clearRecord own cleared r := by
  have hoffer := (clearRecord_fades own cleared r).not_offered hk hr hother
  unfold State.offerTaken
  rw [hrank, hoffer]
  exact if_neg fun h => Bool.noConfusion h.2

section
variable (cleared tripped : List CondId) (s : State) (hkeys : UniqueKeys s)
include hkeys

/-- A record under no activated key is on the list as its clearing left it (R5, R11). -/
theorem mem_reportConds_other (x : Record) (hother : ∀ id ∈ tripped, x.key ≠ id.key s.rank) :
    x ∈ (reportConds cleared tripped s).trips.records ↔ x ∈ s.trips.records.map (clearRecord s.rank cleared) := by
  obtain ⟨order, m, hperm, heq⟩ := reportConds_eq cleared tripped s
  have hrank := ownChanged_rank cleared order m s
  have hmem (y : Record) (hy : y.key = x.key) :=
    mem_ownChanged_other cleared order m s y fun id hid => hy ▸ hother id (hperm.mem_iff.1 hid)
  have hfixed (z : Record) (hz : z ∈ s.trips.records) (hkey : z.key = x.key) :=
    offerTaken_clearRecord (cleared := cleared) _ hrank hkeys hz fun id hid => hkey ▸ hother id hid
  have hclear (z : Record) : (clearRecord s.rank cleared z).key = z.key := (clearRecord_fades s.rank cleared z).key
  rw [heq, listReport_trips, takeOffers_trips]
  generalize ownChanged cleared order m s = w at hrank hmem hfixed
  constructor
  · intro hx
    obtain ⟨y, hy, rfl⟩ := List.mem_map.1 hx
    have hy := (hmem y (w.offerTaken_key _ y).symm).1 hy
    obtain ⟨z, hz, rfl⟩ := List.mem_map.1 hy
    rw [hfixed z hz (by rw [w.offerTaken_key, hclear])]
    exact hy
  · intro hx
    obtain ⟨z, hz, rfl⟩ := List.mem_map.1 hx
    exact List.mem_map.2 ⟨_, (hmem _ rfl).2 hx, hfixed z hz (hclear z).symm⟩

/-- The record of a condition that cleared is CLEARED in place, with trip id and path set kept (R11). -/
theorem reportConds_cleared (id : CondId) (hid : id ∈ cleared) (hnot : id ∉ tripped) :
    findRecord s.rank id.kind id.subject (reportConds cleared tripped s).trips.records =
      (findRecord s.rank id.kind id.subject s.trips.records).map fun r => { r with phase := .CLEARED } := by
  obtain ⟨order, m, hperm, heq⟩ := reportConds_eq cleared tripped s
  have hrank := ownChanged_rank cleared order m s
  have hother (x : CondId) (hx : x ∈ tripped) : id.key s.rank ≠ x.key s.rank := fun e => hnot (CondId.key_inj e ▸ hx)
  have hfind := ownChanged_find_other cleared order m s s.rank id.kind id.subject fun x hx => hother x (hperm.mem_iff.1 hx)
  rw [heq, listReport_trips, takeOffers_trips]
  generalize ownChanged cleared order m s = w at hrank hfind
  refine (find_map_of_key _ _ (fun r => ?_) _).trans ?_
  · rw [Bool.eq_iff_iff, Record.hasKey_iff, Record.hasKey_iff, w.offerTaken_key]
  · refine (congrArg _ hfind).trans ?_
    cases hr : findRecord s.rank id.kind id.subject s.trips.records with
    | none => rfl
    | some r =>
        have hkey : r.key = id.key s.rank := (Record.hasKey_iff ..).1 (List.find?_some hr)
        have hfixed := offerTaken_clearRecord (cleared := cleared) (tripped := tripped) w hrank hkeys
          (List.mem_of_find?_eq_some hr) fun x hx => hkey ▸ hother x hx
        rw [Option.map_some, Option.map_some, hfixed, clearRecord_of_named hid hkey]
        rfl

/-- Of the conditions that trip, those of the current class are offered, each once (R23). -/
theorem offered_ownChanged (order : List CondId) (m : Nat) (hperm : order.Perm tripped) (hnodup : tripped.Nodup)
    (hhold : ∀ id ∈ tripped, id.kind ≠ .hold) :
    ((ownChanged cleared order m s).trips.records.filter
      (Record.offeredIn s.rank { before := s.trips.records, activated := tripped })).length =
      (tripped.filter (·.kind.currentClass)).length := by
  have hfind := ownChanged_find cleared order m s (hperm.nodup_iff.2 hnodup) fun id hid => hhold id (hperm.mem_iff.1 hid)
  have hother := mem_ownChanged_other cleared order m s
  have huniq : UniqueKeys (ownChanged cleared order m s) := ownChanged_uniqueKeys cleared order m s hkeys
  generalize ownChanged cleared order m s = w at hfind hother huniq
  have hsame : ((w.trips.records.filter
      (Record.offeredIn s.rank { before := s.trips.records, activated := tripped })).map Record.key).Perm
      ((tripped.filter (·.kind.currentClass)).map (CondId.key s.rank)) := by
    refine (List.perm_ext_iff_of_nodup (huniq.sublist (List.filter_sublist.map _))
      ((hnodup.filter _).map fun _ _ => CondId.key_inj)).2 fun key => ?_
    simp only [List.mem_map, List.mem_filter]
    constructor
    · rintro ⟨r, ⟨hr, hoffer⟩, rfl⟩
      by_cases hnamed : ∃ id ∈ tripped, r.key = id.key s.rank
      · obtain ⟨id, hid, hkey⟩ := hnamed
        refine ⟨id, ⟨hid, ?_⟩, hkey.symm⟩
        have hkind : r.kind = id.kind := congrArg (·.2.1) hkey
        unfold Record.offeredIn at hoffer
        simp only [Bool.and_eq_true] at hoffer
        exact hkind ▸ hoffer.1.1
      · have hnot (id : CondId) (hid : id ∈ tripped) : r.key ≠ id.key s.rank := fun e => hnamed ⟨id, hid, e⟩
        obtain ⟨z, hz, rfl⟩ := List.mem_map.1 ((hother r fun id hid => hnot id (hperm.mem_iff.1 hid)).1 hr)
        have hkey := (clearRecord_fades s.rank cleared z).key
        exact absurd (hoffer.symm.trans ((clearRecord_fades s.rank cleared z).not_offered hkeys hz fun id hid =>
          hkey ▸ hnot id hid)) Bool.noConfusion
    · rintro ⟨id, ⟨hid, hclass⟩, rfl⟩
      obtain ⟨i, hi⟩ := List.getElem?_of_mem (hperm.mem_iff.2 hid)
      refine ⟨_, ⟨List.mem_of_find?_eq_some (hfind i id hi), ?_⟩, rfl⟩
      have hnew := Record.newIn_activated s.rank { before := s.trips.records, activated := tripped } id
        (trippedRecord s.rank id (tripIdAfter s.trips.nextId i)) hid ((CondId.names_iff _ _ _).2 rfl)
      unfold Record.offeredIn
      rw [hnew]
      simpa [trippedRecord] using hclass
  simpa using hsame.length_eq

/-- The count rises by the conditions of the current class that trip, outside FORMING (R23, R126 to R128). -/
theorem reportConds_count (hw : s.working = true) (hnodup : tripped.Nodup) (hhold : ∀ id ∈ tripped, id.kind ≠ .hold) :
    (reportConds cleared tripped s).budget.count = if s.phase = .FORMING then s.budget.count
      else countPlus s.cfg.latchLimit s.budget.count (tripped.filter (·.kind.currentClass)).length := by
  obtain ⟨order, m, hperm, heq⟩ := reportConds_eq cleared tripped s
  have hlength := offered_ownChanged cleared tripped s hkeys order m hperm hnodup hhold
  have hrank := ownChanged_rank cleared order m s
  have hshape := ownChanged_eq cleared order m s
  rw [heq, listReport_budget]
  generalize ownChanged cleared order m s = w at hlength hrank hshape
  have hphase : w.phase = s.phase := by rw [hshape]
  have hbudget : w.budget = s.budget := by rw [hshape]
  have hcfg : w.cfg = s.cfg := by rw [hshape]
  have hwork : w.working = true := by
    unfold State.working
    rw [hphase]
    exact hw
  rw [takeOffers_count w _ hwork, hphase, hbudget, hcfg, hrank, hlength]

end

end Sys2Proof.Machine
end

section
/-!
SUPPORT. Own changes reported as the statements say, and SHORT: its comparator, its delay and its trip (R9 to R13, R22, R23,
R31, R33, R41, R42, R68, R69, R116, R126 to R128, R148, R152).
-/
namespace Sys2Proof.Machine

/-! ### Own changes within a command (R31) -/

/-- From `s` to `t` nothing changes that a report of own conditions reads or tells of, but for switches and a round that a
course may change. -/
structure Beside (s t : State) : Prop where
  trips : t.trips = s.trips
  notices : t.link.notices = s.link.notices
  epoch : t.budget.epoch = s.budget.epoch
  count : t.budget.count = s.budget.count
  phase : t.phase = s.phase
  rank : t.rank = s.rank
  course : Course s t

theorem Beside.refl (s : State) : Beside s s := ⟨rfl, rfl, rfl, rfl, rfl, rfl, .refl s⟩

theorem withConds_beside (s : State) (c : Conds) : Beside s (s.withConds c) :=
  ⟨rfl, rfl, rfl, rfl, rfl, rfl, course_of_same rfl rfl rfl rfl rfl⟩

theorem withMeas_beside (s : State) (m : Meas) : Beside s (s.withMeas m) :=
  ⟨rfl, rfl, rfl, rfl, rfl, rfl, course_of_same rfl rfl rfl rfl rfl⟩

theorem withStop_beside (s : State) (l : StopLine) : Beside s (s.withStop l) :=
  ⟨rfl, rfl, rfl, rfl, rfl, rfl, course_of_same rfl rfl rfl rfl rfl⟩

theorem Beside.trans {s t u : State} (h : Beside s t) (g : Beside t u) : Beside s u :=
  ⟨g.trips.trans h.trips, g.notices.trans h.notices, g.epoch.trans h.epoch, g.count.trans h.count, g.phase.trans h.phase,
    g.rank.trans h.rank, h.course.trans g.course⟩

theorem settle_switch (b s : State) (p : Path) : (settle b s).switch p = s.switch p := by
  cases p
  · exact settle_charge b s
  · exact settle_discharge b s

/-- A condition that has entered TRIPPED has not recovered. -/
theorem Trips.not_recovers {s t : State} {id : CondId} (h : Trips s t id) : ¬ Recovers s t id :=
  fun g => CondState.noConfusion (h.2.2.symm.trans g.2.2)

/-- A command that reports exactly the conditions it cleared and tripped, and does nothing else to list, NOTICEs and budget,
reports its own changes (R9 to R11, R13, R22, R23, R31, R33, R116, R126 to R128). -/
theorem ownChangesReported {s u w : State} (b : State) (cleared tripped : List CondId) (hw : s.working = true)
    (hkeys : UniqueKeys s) (hheld : HeldPathsOff s) (hbefore : Beside s u) (hafter : Beside (reportConds cleared tripped u) w)
    (hnodup : tripped.Nodup) (hhold : ∀ id ∈ tripped, id.kind ≠ .hold) (htrips : ∀ id, id ∈ tripped ↔ Trips s w id)
    (hrecovers : ∀ id, id ∈ cleared ↔ Recovers s w id) : OwnChangesReported s (settle b w) := by
  obtain ⟨order, hperm, hreport⟩ := reportConds_report cleared tripped u hnodup hhold
  have hukeys : UniqueKeys u := by
    unfold UniqueKeys
    rw [hbefore.trips]
    exact hkeys
  have huwork : u.working = true := State.working_of_phase hbefore.phase hw
  have huheld : HeldByList u := hheld.list.course hbefore.course
    (fun p => by unfold State.blocked; rw [hbefore.trips]; exact id) (by rw [hbefore.trips]; exact id)
  have hcourse : Course s w := (hbefore.course.trans hreport.course).trans hafter.course
  have hrank : w.rank = s.rank := (hafter.rank.trans hreport.rank).trans hbefore.rank
  have hsettled (id : CondId) :
      (Trips s (settle b w) id ↔ Trips s w id) ∧ (Recovers s (settle b w) id ↔ Recovers s w id) := by
    unfold Trips Recovers
    rw [settle_conds]
    exact ⟨.rfl, .rfl⟩
  have hmem (id : CondId) : id ∈ order ↔ Trips s (settle b w) id := by
    rw [hperm.mem_iff, htrips, (hsettled id).1]
  have hlen := hperm.length_eq
  refine ⟨⟨order, hperm.nodup_iff.2 hnodup, hmem, ?_, ?_, ?_, ?_, fun i id hi => ?_⟩, fun id hid => ?_, fun x hx => ?_⟩
  · rw [settle_trips, hafter.trips, hreport.nextId, hbefore.trips]
  · rw [settle_link_notices, hafter.notices, hreport.notices, hbefore.notices, hbefore.trips]
  · rw [settle_budget_epoch, hafter.epoch, hreport.epoch, hbefore.epoch]
  · rw [settle_budget_count, hafter.count, reportConds_count cleared tripped u hukeys huwork hnodup hhold, hbefore.phase,
      hbefore.count, hbefore.course.cfg, (hperm.filter _).length_eq]
  · have hid : id ∈ order := List.mem_of_getElem? hi
    refine ⟨⟨reportedRecord u id (tripIdAfter s.trips.nextId i), ?_, rfl, rfl, rfl⟩, fun p hp => ?_, ?_⟩
    · have hfound := hreport.found i id hi
      rw [hbefore.rank, hbefore.trips] at hfound
      rw [settle_trips, hafter.trips]
      exact hfound
    · rw [settle_switch]
      exact hafter.course.keeps_isOff p (hreport.off huheld id hid p hp)
    · refine hcourse.leavesRound b _ hrank fun r hr hmet => hafter.course.keeps_idle ?_
      rcases hbefore.course.round_or_idle with e | e
      · exact hreport.idle id hid r (e.trans hr) hmet
      · exact hreport.course.keeps_idle e
  · have hid := (hsettled id).2.1 hid
    have hin : id ∈ cleared := (hrecovers id).2 hid
    have hnot : id ∉ tripped := fun h => ((htrips id).1 h).not_recovers hid
    have hfound := reportConds_cleared cleared tripped u hukeys id hin hnot
    rw [hbefore.rank, hbefore.trips] at hfound
    rw [settle_trips, hafter.trips]
    exact hfound
  · have hnone (id : CondId) (hid : id ∈ tripped ∨ id ∈ cleared) : x.key ≠ id.key s.rank := by
      refine fun e => hx id ?_ (Record.key_eq (b := trippedRecord s.rank id 0).1 e)
      rw [(hsettled id).1, (hsettled id).2]
      exact hid.imp (htrips id).1 (hrecovers id).1
    rw [settle_trips, hafter.trips, mem_reportConds_other cleared tripped u hukeys x
      fun id hid => hbefore.rank ▸ hnone id (.inl hid), hbefore.trips, hbefore.rank]
    have hclear (z : Record) (hz : z.key = x.key) : clearRecord s.rank cleared z = z :=
      clearRecord_of_unnamed fun id hid => hz ▸ hnone id (.inr hid)
    constructor
    · intro hin
      obtain ⟨z, hz, rfl⟩ := List.mem_map.1 hin
      rwa [hclear z (clearRecord_fades s.rank cleared z).key.symm]
    · exact fun hin => List.mem_map.2 ⟨x, hin, hclear x rfl⟩

/-- A command that leaves list, NOTICEs and budget as they were, and in which no condition trips or recovers, has nothing to
report. -/
theorem nothingReported {s w : State} (b : State) (hw : s.working = true) (hkeys : UniqueKeys s) (hheld : HeldPathsOff s)
    (h : Beside s w) (hquiet : ∀ id, ¬ Trips s w id ∧ ¬ Recovers s w id) : OwnChangesReported s (settle b w) := by
  have hsame : reportConds [] [] s = s := by
    have hfades (r : Record) : Fades (fun r => r) r := ⟨rfl, rfl, fun hr => ⟨hr, rfl⟩⟩
    exact listReport_of_fades s.trips.records (fun r => r) s hkeys (fun r _ => hfades r) (List.map_id' _).symm
  refine ownChangesReported b [] [] hw hkeys hheld (.refl s) (hsame.symm ▸ h) List.nodup_nil (fun _ => nofun) ?_ ?_
  · exact fun id => ⟨nofun, fun ht => ((hquiet id).1 ht).elim⟩
  · exact fun id => ⟨nofun, fun hr => ((hquiet id).2 hr).elim⟩

/-! ### The trip of SHORT (R31, R148) -/

/-- The station as SHORT enters TRIPPED. -/
def shortEntered (s : State) : State := s.withConds { s.conds with short := .tripped }

/-- The station once SHORT has entered TRIPPED and reported it, before the pull. -/
def shortReported (s : State) : State := tripConds [ownCond .short] s

theorem shortReported_report (s : State) : OwnReport [ownCond .short] (shortEntered s) (shortReported s) := by
  obtain ⟨order, hperm, h⟩ := reportConds_report [] [ownCond .short] (shortEntered s)
    (List.nodup_singleton _) (by simp [ownCond])
  rw [List.perm_singleton] at hperm
  exact hperm ▸ h

/-- The trip moves of the conditions SHORT alone. -/
theorem shortReported_conds (s : State) : (shortReported s).conds = { s.conds with short := .tripped } :=
  (reportConds_within [] [ownCond .short] (shortEntered s)).rest .conds (by decide)

/-- The trip leaves measurement, roster, phase and stop line to the pull. -/
theorem shortReported_same (s : State) : (shortReported s).meas = s.meas ∧ (shortReported s).roster = s.roster ∧
    (shortReported s).phase = s.phase ∧ (shortReported s).stop = s.stop := by
  have h := reportConds_within [] [ownCond .short] (shortEntered s)
  exact ⟨h.rest .meas (by decide), h.rest .roster (by decide), h.rest .phase (by decide), h.rest .stop (by decide)⟩

theorem shortReported_find (s : State) : findRecord s.rank .short none (shortReported s).trips.records =
    some (reportedRecord s (ownCond .short) s.trips.nextId) :=
  (shortReported_report s).found 0 (ownCond .short) rfl

/-- SHORT trips: the trip is reported, and the line is pulled with the record's trip id awaited (R148, R152). -/
theorem tripShort_eq (s : State) :
    tripShort s = (shortReported s).withStop (s.stop.pull (some s.trips.nextId)) := by
  have hrank : (shortReported s).rank = s.rank := (shortReported_report s).rank
  obtain ⟨_, _, _, hstop⟩ := shortReported_same s
  unfold tripShort
  simp only [show tripConds [ownCond .short] s = shortReported s from rfl, hrank, shortReported_find, hstop]
  rfl

/-- The trip leaves a round on any path (R22, R116). -/
theorem tripShort_leaves (b s : State) (met : PathSet) : LeavesRound met s (settle b (tripShort s)) := by
  have h := shortReported_report s
  have hcourse : Course s (tripShort s) := by
    rw [tripShort_eq]
    exact ((withConds_beside s _).course.trans h.course).trans (withStop_beside _ _).course
  refine hcourse.leavesRound b met ((tripShort_reach s).rank) fun r hr ⟨p, hp, _⟩ => ?_
  have hidle := h.idle (ownCond .short) List.mem_cons_self r hr ⟨p, hp, by cases p <;> rfl⟩
  rw [tripShort_eq]
  exact hidle

/-- Where held paths are off, the trip leaves both switches off (R22, R139). -/
theorem tripShort_off (s : State) (hheld : HeldPathsOff s) (p : Path) : ((tripShort s).switch p).isOff := by
  have h := (shortReported_report s).off hheld.list (ownCond .short) List.mem_cons_self p (by cases p <;> rfl)
  rw [tripShort_eq]
  cases p <;> exact h

/-- The NOTICE of a SHORT trip with its trip id (R13, R165). -/
def shortNotice (n : Nat) : TxFrame :=
  { dst := 0, content := .notice { kind := 5, subject := 0, tripId := byteOf n, state := 3 }, collisions := 0 }

/-- The trip's NOTICE joins the queue where there is room (R13, R173). -/
theorem shortReported_notices (s : State) : (shortReported s).link.notices =
    s.link.notices ++ [shortNotice s.trips.nextId].take (8 - s.link.notices.length) := (shortReported_report s).notices

/-- One trip raises the count by 1 below its bound (R126). -/
theorem countPlus_one (limit count : Nat) : countPlus limit count 1 =
    if count < (if limit = 0 then 255 else limit) then count + 1 else count := by
  unfold countPlus
  generalize (if limit = 0 then 255 else limit) = bound
  by_cases h : count < bound
  · simp [h, Nat.not_le.2 h]
  · simp [h, Nat.le_of_not_lt h]

/-- With the keys apart, a trip of SHORT counts as one (R126, R127). -/
theorem shortReported_count (s : State) (hw : s.working = true) (hkeys : UniqueKeys s) :
    (shortReported s).budget.count = if s.phase = .FORMING then s.budget.count
      else countPlus s.cfg.latchLimit s.budget.count 1 :=
  reportConds_count [] [ownCond .short] (shortEntered s) hkeys hw (List.nodup_singleton _) (by simp [ownCond])

/-- The record of a SHORT trip is counted outside FORMING (R23, R127). -/
theorem reportedRecord_short_counted (s : State) (hw : s.working = true) (n : Nat) :
    (reportedRecord s (ownCond .short) n).counted = decide (s.phase ≠ .FORMING) := by
  unfold reportedRecord
  simp only [counts_iff hw]
  exact Bool.and_true _

/-- The short delay's expiry in WATCH trips SHORT, and the closing checks follow (R41). -/
theorem exec_shortDelayExpiry (s : State) (hw : s.working = true) (hwatch : s.conds.short.state = .WATCH)
    (hrun : s.conds.short.timer.isRunning = true) : exec .shortDelayExpiry s = .next (settle s (tripShort s)) := by
  unfold exec execShortDelayExpiry
  simp only [hw, hwatch, hrun, and_self, if_true]

/-- Settles O11: the expiry is the trip of SHORT and its pull, whose report gives record, NOTICE, switches and round; the count
is that of one current-class trip. -/
theorem shortTripPullsLine : Obligations.ShortTripPullsLine := by
  intro s hw hheld hwatch hrun
  refine ⟨_, exec_shortDelayExpiry s hw hwatch hrun, ?_⟩
  have hreport := shortReported_report s
  have hconds := shortReported_conds s
  obtain ⟨hmeas, hroster, hphase, _⟩ := shortReported_same s
  have hfind := shortReported_find s
  have hnotices := shortReported_notices s
  have hswitch := tripShort_off s hheld
  have hround := tripShort_leaves s s bothPaths
  have hcount := shortReported_count s hw
  have hcounted := reportedRecord_short_counted s hw s.trips.nextId
  rw [tripShort_eq] at hswitch hround ⊢
  generalize shortReported s = v at *
  simp only [settle_conds, settle_stop, settle_trips, settle_charge, settle_discharge, settle_link_notices,
    settle_budget_count, settle_meas, settle_roster, settle_phase, State.withStop_conds, State.withStop_stop,
    State.withStop_trips, State.withStop_charge, State.withStop_discharge, State.withStop_link, State.withStop_budget,
    State.withStop_meas, State.withStop_roster, State.withStop_phase]
  refine ⟨hconds, rfl, hreport.nextId, ⟨_, hfind, rfl, rfl, rfl⟩, hswitch .charge, hswitch .discharge, hround, fun hroom => ?_,
    fun hfull => ?_, fun hkeys hp => ⟨?_, ?_⟩, fun hp => ⟨congrArg Budget.count (hreport.forming hp), ?_⟩, hmeas, hroster,
    hphase⟩
  · exact hnotices.trans (congrArg _ (List.take_of_length_le (by simp; omega)))
  · have hnone : 8 - s.link.notices.length = 0 := by omega
    exact hnotices.trans (by simp [hnone])
  · rw [hcount hkeys, if_neg hp]
    exact countPlus_one _ _
  · rw [hfind, Option.map_some, hcounted, decide_eq_true hp]
  · rw [hfind, Option.map_some, hcounted, decide_eq_false (by simp [hp])]

/-! ### The comparator (R41, R42, R68, R69) -/

theorem comparatorRises_iff (c : Cfg) (x : Int) : comparatorRises c x = true ↔ (c.shortThreshold : Int) * 20000 < -x :=
  decide_eq_true_iff

theorem comparatorFalls_iff (c : Cfg) (x : Int) :
    comparatorFalls c x = true ↔ -x ≤ (c.shortThreshold : Int) * 20000 - 10000 := decide_eq_true_iff

/-- The station with the comparator at a level. -/
def State.compared (s : State) (up : Bool) : State := s.withMeas { s.meas with comparator := up }

/-- An assertion delivered: SHORT takes it, and the closing checks follow (R41, R69). -/
theorem exec_comparatorAssertion (x : Int) (s : State) (hw : s.working = true) (hdown : s.meas.comparator = false)
    (hrises : (s.cfg.shortThreshold : Int) * 20000 < -x) :
    exec (.comparatorAssertion x) s = .next (settle s (shortAsserted (s.compared true))) := by
  unfold exec execComparatorAssertion
  simp only [hw, hdown, (comparatorRises_iff s.cfg x).2 hrises, Bool.not_false, and_self, if_true]
  rfl

/-- A release delivered (R41, R42, R69). -/
theorem exec_comparatorRelease (x : Int) (s : State) (hw : s.working = true) (hup : s.meas.comparator = true)
    (hfalls : -x ≤ (s.cfg.shortThreshold : Int) * 20000 - 10000) :
    exec (.comparatorRelease x) s = .next (settle s (shortReleased (s.compared false))) := by
  unfold exec execComparatorRelease
  simp only [hw, hup, (comparatorFalls_iff s.cfg x).2 hfalls, and_self, if_true]
  rfl

/-- Only changes are delivered (R69; log entry 29). -/
theorem exec_comparator_unchanged (x : Int) (s : State) :
    (s.meas.comparator = true → exec (.comparatorAssertion x) s = .next s) ∧
      (s.meas.comparator = false → exec (.comparatorRelease x) s = .next s) :=
  ⟨fun h => congrArg Host.Outcome.next (if_neg (by simp [h])), fun h => congrArg Host.Outcome.next (if_neg (by simp [h]))⟩

/-- A released comparator moves SHORT alone, by its state (R41, R42). -/
theorem shortReleased_eq (s : State) (hreleased : s.meas.comparator = false) :
    shortReleased s = { s with conds := { s.conds with short :=
      match s.conds.short.state with
      | .QUIET => s.conds.short
      | .WATCH => { state := .QUIET, count := 0, timer := .stopped }
      | .TRIPPED =>
          if s.stop.driving = false ∧ s.cfg.recoveryTime * 100000 ≠ 0 then
            { state := .SETTLING, count := 0, timer := .running (s.cfg.recoveryTime * 100000) }
          else s.conds.short
      | .SETTLING => { s.conds.short with timer := .running (s.cfg.recoveryTime * 100000) } } } := by
  unfold shortReleased
  cases hstate : s.conds.short.state with
  | QUIET => rfl
  | WATCH => rfl
  | SETTLING => rfl
  | TRIPPED =>
      have hguard : (s.conds.short.state = .TRIPPED ∧ (!s.meas.comparator) = true ∧ (!s.stop.driving) = true ∧
          s.cfg.recoveryTimeUs ≠ 0) ↔ s.stop.driving = false ∧ s.cfg.recoveryTime * 100000 ≠ 0 := by
        simp [hstate, hreleased, Cfg.recoveryTimeUs]
      unfold shortSettles
      simp only [hguard]
      split <;> rfl

/-- The conditions at SHORT's own key. -/
theorem get_of_not_short (c : Conds) (v : Cond) (id : CondId) (h : id.kind ≠ .short) :
    Conds.get { c with short := v } id = c.get id := by
  unfold Conds.get
  cases hk : id.kind <;> first | rfl | exact absurd hk h

/-- Where SHORT alone may have changed, it alone may have tripped or recovered. -/
theorem changes_of_short {s w : State} {v : Cond} (hconds : w.conds = { s.conds with short := v }) (id : CondId) :
    (Trips s w id ↔ id = ownCond .short ∧ (s.conds.short.state = .QUIET ∨ s.conds.short.state = .WATCH) ∧
      v.state = .TRIPPED) ∧
    (Recovers s w id ↔ id = ownCond .short ∧ (s.conds.short.state = .TRIPPED ∨ s.conds.short.state = .SETTLING) ∧
      v.state = .QUIET) := by
  unfold Trips Recovers CondId.ofStation
  rw [hconds]
  by_cases hid : id = ownCond .short
  · subst hid
    simp [ownCond, Conds.get]
  · by_cases hkind : id.kind = .short
    · have hsubject : id.subject ≠ none := fun hs => hid (by obtain ⟨_, _⟩ := id; simp_all [ownCond])
      simp [hid, hkind, hsubject]
    · rw [get_of_not_short s.conds v id hkind]
      generalize s.conds.get id = c
      constructor
      · refine ⟨fun ⟨_, hfrom, hto⟩ => ?_, fun h => absurd h.1 hid⟩
        rcases hfrom with e | e <;> exact CondState.noConfusion (e.symm.trans hto)
      · refine ⟨fun ⟨_, hfrom, hto⟩ => ?_, fun h => absurd h.1 hid⟩
        rcases hfrom with e | e <;> exact CondState.noConfusion (e.symm.trans hto)

/-- SHORT as an assertion leaves it where it does not trip, with its short delay in microseconds (R41; log entry 35). -/
def Cond.asserted (delay : Nat) (c : Cond) : Cond :=
  match c.state with
  | .QUIET => { state := .WATCH, count := 0, timer := .running delay }
  | .WATCH => c
  | .TRIPPED => c
  | .SETTLING => { c with timer := .stopped }

theorem Cond.asserted_of_quiet (delay : Nat) (c : Cond) (h : c.state = .QUIET) :
    c.asserted delay = { state := .WATCH, count := 0, timer := .running delay } := by
  unfold Cond.asserted
  rw [h]

theorem Cond.asserted_of_kept (delay : Nat) (c : Cond) (h : c.state = .WATCH ∨ c.state = .TRIPPED) :
    c.asserted delay = c := by
  unfold Cond.asserted
  rcases h with h | h <;> rw [h]

theorem Cond.asserted_of_settling (delay : Nat) (c : Cond) (h : c.state = .SETTLING) :
    c.asserted delay = { c with timer := .stopped } := by
  unfold Cond.asserted
  rw [h]

/-- So left, SHORT has neither tripped nor recovered. -/
theorem Cond.asserted_state (delay : Nat) (c : Cond) :
    ((c.asserted delay).state = .TRIPPED → c.state = .TRIPPED) ∧ (c.asserted delay).state ≠ .QUIET := by
  unfold Cond.asserted
  cases h : c.state <;> simp [h]

theorem shortAsserted_of_kept (s : State) (h : ¬ (s.conds.short.state = .QUIET ∧ s.cfg.shortDelayUs = 0)) :
    shortAsserted s = s.withConds { s.conds with short := s.conds.short.asserted s.cfg.shortDelayUs } := by
  unfold shortAsserted
  cases hstate : s.conds.short.state with
  | QUIET =>
      rw [Cond.asserted_of_quiet _ _ hstate]
      exact if_neg fun hd => h ⟨hstate, hd⟩
  | WATCH =>
      rw [Cond.asserted_of_kept _ _ (.inl hstate)]
      rfl
  | TRIPPED =>
      rw [Cond.asserted_of_kept _ _ (.inr hstate)]
      rfl
  | SETTLING =>
      rw [Cond.asserted_of_settling _ _ hstate]

theorem shortAsserted_of_trip (s : State) (hquiet : s.conds.short.state = .QUIET) (hdelay : s.cfg.shortDelayUs = 0) :
    shortAsserted s = tripShort s := by
  unfold shortAsserted
  rw [hquiet]
  exact if_pos hdelay

/-- An assertion that does not trip SHORT has nothing to report. -/
theorem asserted_reports_nothing (s : State) (hw : s.working = true) (hkeys : UniqueKeys s) (hheld : HeldPathsOff s)
    (h : ¬ (s.conds.short.state = .QUIET ∧ s.cfg.shortDelayUs = 0)) :
    OwnChangesReported s (settle s (shortAsserted (s.compared true))) := by
  rw [shortAsserted_of_kept (s.compared true) h]
  have hchanges := changes_of_short (s := s) (w := (s.compared true).withConds
    { s.conds with short := s.conds.short.asserted s.cfg.shortDelayUs }) rfl
  obtain ⟨htripped, hquiet⟩ := s.conds.short.asserted_state s.cfg.shortDelayUs
  refine nothingReported s hw hkeys hheld ((withMeas_beside s _).trans (withConds_beside _ _)) fun id =>
    ⟨fun ht => ?_, fun hr => hquiet ((hchanges id).2.1 hr).2.2⟩
  obtain ⟨_, hfrom, hto⟩ := (hchanges id).1.1 ht
  rcases hfrom with e | e <;> exact CondState.noConfusion (e.symm.trans (htripped hto))

/-- An assertion that trips SHORT reports that trip alone. -/
theorem asserted_reports_trip (s : State) (hw : s.working = true) (hkeys : UniqueKeys s) (hheld : HeldPathsOff s)
    (hquiet : s.conds.short.state = .QUIET) (hdelay : s.cfg.shortDelayUs = 0) :
    OwnChangesReported s (settle s (shortAsserted (s.compared true))) := by
  have hconds : (tripShort (s.compared true)).conds = { s.conds with short := .tripped } := by
    rw [tripShort_eq]
    exact shortReported_conds (s.compared true)
  have hchanges := changes_of_short hconds
  rw [shortAsserted_of_trip (s.compared true) hquiet hdelay]
  rw [tripShort_eq] at hchanges ⊢
  refine ownChangesReported s [] [ownCond .short] hw hkeys hheld
    ((withMeas_beside s _).trans (withConds_beside (s.compared true) { s.conds with short := .tripped }))
    (withStop_beside _ _) (List.nodup_singleton _) (by simp [ownCond]) (fun id => ?_) fun id => ?_
  · rw [(hchanges id).1, List.mem_singleton]
    exact ⟨fun h => ⟨h, .inl hquiet, rfl⟩, fun h => h.1⟩
  · rw [(hchanges id).2]
    exact ⟨nofun, fun h => CondState.noConfusion h.2.2⟩

/-- Settles O10: an assertion trips SHORT or moves it alone, a release moves it alone, and a level the comparator holds already
is no change. -/
theorem comparatorMovesShort : Obligations.ComparatorMovesShort := by
  refine ⟨fun x s hw hdown hrises => ⟨_, exec_comparatorAssertion x s hw hdown hrises, ?_⟩,
    fun x s hw hup hfalls => ⟨_, exec_comparatorRelease x s hw hup hfalls, ?_⟩, exec_comparator_unchanged⟩
  · by_cases htrip : s.conds.short.state = .QUIET ∧ s.cfg.shortDelayUs = 0
    · obtain ⟨hquiet, hdelay⟩ := htrip
      have hreports := fun hk hh => asserted_reports_trip s hw hk hh hquiet hdelay
      have hconds := shortReported_conds (s.compared true)
      obtain ⟨hmeas, hroster, hphase, _⟩ := shortReported_same (s.compared true)
      rw [shortAsserted_of_trip (s.compared true) hquiet hdelay, tripShort_eq] at hreports ⊢
      generalize shortReported (s.compared true) = v at hconds hmeas hroster hphase hreports
      simp only [settle_conds, settle_stop, settle_trips, settle_meas, settle_roster, settle_phase, State.withStop_conds,
        State.withStop_stop, State.withStop_trips, State.withStop_meas, State.withStop_roster, State.withStop_phase, hconds]
      refine ⟨hmeas, rfl, hroster, hphase, fun _ _ => ⟨rfl, rfl, rfl, rfl, rfl⟩, fun _ hne => absurd hdelay hne,
        fun h => ?_, fun h => ?_, hreports⟩
      · rw [hquiet] at h
        exact h.elim CondState.noConfusion CondState.noConfusion
      · exact CondState.noConfusion (hquiet.symm.trans h)
    · have hreports := fun hk hh => asserted_reports_nothing s hw hk hh htrip
      rw [shortAsserted_of_kept (s.compared true) htrip] at hreports ⊢
      simp only [settle_conds, settle_stop, settle_trips, settle_meas, settle_roster, settle_phase]
      refine ⟨rfl, rfl, rfl, rfl, fun hq hd => absurd ⟨hq, hd⟩ htrip, fun hq hd => ?_, fun h => ?_, fun h => ?_, hreports⟩
      · exact ⟨Cond.asserted_of_quiet _ s.conds.short hq, rfl, rfl⟩
      · have hsame := Cond.asserted_of_kept s.cfg.shortDelayUs s.conds.short h
        exact ⟨congrArg (fun v => { s.conds with short := v }) hsame, rfl, rfl⟩
      · exact ⟨Cond.asserted_of_settling _ s.conds.short h, rfl, rfl⟩
  · have heq := shortReleased_eq (s.compared false) rfl
    exact heq ▸ settle_endsAs s _

end Sys2Proof.Machine
end

section
/-!
SUPPORT. What the tests of an event do to the conditions they move, and what their report leaves of the rest of the station
(R30, R31, R34 to R40).
-/
namespace Sys2Proof.Machine

/-! ### A condition by its name (R28) -/

theorem Conds.get_set_self (c : Conds) (k : Kind) (v : Cond) (hk : k ≠ .memberLost) :
    (c.set (ownCond k) v).get (ownCond k) = v := by
  cases k <;> first | rfl | exact absurd rfl hk

theorem Conds.get_set_of_kind_ne (c : Conds) (k : Kind) (v : Cond) (id : CondId) (h : id.kind ≠ k) :
    (c.set (ownCond k) v).get id = c.get id := by
  obtain ⟨kind, subject⟩ := id
  cases k <;> cases kind <;> first | rfl | exact absurd rfl h

/-- An own condition is its kind's, but for MEMBER LOST (R28). -/
theorem CondId.eq_ownCond {id : CondId} (hid : id.ofStation) (h : id.kind ≠ .memberLost) : id = ownCond id.kind := by
  obtain ⟨kind, subject⟩ := id
  exact congrArg (CondId.mk kind) (hid.resolve_left h)

theorem Conds.get_set_other (c : Conds) (k : Kind) (v : Cond) (id : CondId) (hk : k ≠ .memberLost) (hid : id.ofStation)
    (h : id ≠ ownCond k) : (c.set (ownCond k) v).get id = c.get id := by
  refine c.get_set_of_kind_ne k v id ?_
  rintro rfl
  exact h (id.eq_ownCond hid hk)

/-! ### One evaluation (R30) -/

/-- The condition enters TRIPPED, and it recovers, as `Trips` and `Recovers` have it. -/
def Cond.TripsTo (old new : Cond) : Prop := (old.state = .QUIET ∨ old.state = .WATCH) ∧ new.state = .TRIPPED
def Cond.RecoversTo (old new : Cond) : Prop := (old.state = .TRIPPED ∨ old.state = .SETTLING) ∧ new.state = .QUIET

theorem trips_iff (s t : State) (id : CondId) :
    Trips s t id ↔ id.ofStation ∧ (s.conds.get id).TripsTo (t.conds.get id) := .rfl
theorem recovers_iff (s t : State) (id : CondId) :
    Recovers s t id ↔ id.ofStation ∧ (s.conds.get id).RecoversTo (t.conds.get id) := .rfl

theorem Cond.not_tripsTo_self (c : Cond) : ¬ c.TripsTo c := fun ⟨hfrom, hto⟩ =>
  hfrom.elim (fun h => CondState.noConfusion (h.symm.trans hto)) fun h => CondState.noConfusion (h.symm.trans hto)

theorem Cond.not_recoversTo_self (c : Cond) : ¬ c.RecoversTo c := fun ⟨hfrom, hto⟩ =>
  hfrom.elim (fun h => CondState.noConfusion (h.symm.trans hto)) fun h => CondState.noConfusion (h.symm.trans hto)

/-- The evaluation tells of a trip exactly where the condition enters TRIPPED, and of a clear exactly where it recovers
(R31). -/
structure Telling (f : Cond → Cond × CondEvent) : Prop where
  trip : ∀ c, (f c).2 = .trip ↔ c.TripsTo (f c).1
  clear : ∀ c, (f c).2 = .clear ↔ c.RecoversTo (f c).1

theorem delayed_telling (delay : Nat) (pass : Bool) : Telling (Cond.delayed delay pass) := by
  suffices h : ∀ c, ((Cond.delayed delay pass c).2 = .trip ↔ c.TripsTo (Cond.delayed delay pass c).1) ∧
      ((Cond.delayed delay pass c).2 = .clear ↔ c.RecoversTo (Cond.delayed delay pass c).1) from
    ⟨fun c => (h c).1, fun c => (h c).2⟩
  intro c
  unfold Cond.delayed Cond.TripsTo Cond.RecoversTo
  cases hstate : c.state with
  | QUIET =>
      cases pass
      · simp [hstate]
      · by_cases hlast : delay = 1 <;> simp [hlast, Cond.tripped]
  | WATCH =>
      cases pass
      · simp [Cond.quiet]
      · by_cases hlast : c.count + 1 = delay <;> simp [hlast, Cond.tripped]
  | TRIPPED => simp [hstate]
  | SETTLING => simp [hstate]

/-- An evaluation that differs in TRIPPED and SETTLING alone tells as the table does where it tells right there. -/
theorem Telling.of_delayed {f : Cond → Cond × CondEvent} (delay : Nat) (pass : Bool)
    (hearly : ∀ c, c.state = .QUIET ∨ c.state = .WATCH → f c = c.delayed delay pass)
    (hlate : ∀ c, c.state = .TRIPPED ∨ c.state = .SETTLING →
      (f c).2 ≠ .trip ∧ ((f c).2 = .clear ↔ (f c).1.state = .QUIET)) : Telling f := by
  have htable := delayed_telling delay pass
  have hsplit (c : Cond) : (c.state = .QUIET ∨ c.state = .WATCH) ∨ (c.state = .TRIPPED ∨ c.state = .SETTLING) := by
    cases c.state <;> simp
  have hapart (c : Cond) (h : c.state = .TRIPPED ∨ c.state = .SETTLING) : ¬ (c.state = .QUIET ∨ c.state = .WATCH) := by
    rcases h with h | h <;> simp [h]
  refine ⟨fun c => ?_, fun c => ?_⟩
  · rcases hsplit c with h | h
    · rw [hearly c h]
      exact htable.trip c
    · exact ⟨fun ht => absurd ht (hlate c h).1, fun ht => absurd ht.1 (hapart c h)⟩
  · rcases hsplit c with h | h
    · rw [hearly c h]
      exact htable.clear c
    · exact (hlate c h).2.trans ⟨fun hq => ⟨h, hq⟩, fun hr => hr.2⟩

theorem onScan_telling (delay : Nat) (pass recovers : Bool) : Telling (Cond.onScan delay pass recovers) := by
  refine .of_delayed delay pass (fun c h => ?_) fun c h => ?_
  · unfold Cond.onScan
    rcases h with h | h <;> rw [h]
  · unfold Cond.onScan
    rcases h with h | h
    · cases recovers <;> simp [h, Cond.quiet]
    · simp [h, Cond.delayed]

theorem onSample_telling (delay recovery : Nat) (pass : Bool) : Telling (Cond.onSample delay recovery pass) := by
  refine .of_delayed delay pass (fun c h => ?_) fun c h => ?_
  · unfold Cond.onSample
    rcases h with h | h <;> rw [h]
  · unfold Cond.onSample
    rcases h with h | h
    · cases hkeep : pass || recovery == 0 <;> simp [h]
    · cases pass <;> simp [h]

/-! ### The tables of the statements (R30, R34 to R40) -/

theorem delayed_moves {delay : Nat} {pass : Bool} {trips : Prop} (h : pass = true ↔ trips) {c new : Cond}
    (hnew : c.state = .QUIET ∨ c.state = .WATCH → new = (c.delayed delay pass).1) : DelayMoves delay trips c new := by
  obtain rfl := propext h
  refine ⟨fun hq => ?_, fun hq => ?_⟩
  · rw [hnew (.inl hq)]
    refine ⟨fun hn => ?_, fun ht hone => ?_, fun ht hmore => ?_⟩
    · simp [Cond.delayed, hq, hn]
    · simp [Cond.delayed, hq, ht, hone, Cond.tripped]
    · simp [Cond.delayed, hq, ht, hmore]
  · rw [hnew (.inr hq)]
    refine ⟨fun hn => ?_, fun ht hlast => ?_, fun ht hmore => ?_⟩
    · simp [Cond.delayed, hq, hn, Cond.quiet]
    · simp [Cond.delayed, hq, ht, hlast, Cond.tripped]
    · simp [Cond.delayed, hq, ht, hmore]

theorem onScan_moves {delay : Nat} {pass recovers : Bool} {trips ends : Prop} (ht : pass = true ↔ trips)
    (hr : recovers = true ↔ ends) (c : Cond) : ScanMoves delay trips ends c (Cond.onScan delay pass recovers c).1 := by
  obtain rfl := propext hr
  refine ⟨delayed_moves ht fun h => ?_, fun h => ⟨fun hends => ?_, fun hstays => ?_⟩⟩
  · unfold Cond.onScan
    rcases h with h | h <;> rw [h]
  · simp [Cond.onScan, h, hends, Cond.quiet]
  · simp [Cond.onScan, h, hstays]

theorem onSample_moves {delay recovery : Nat} {pass : Bool} {trips : Prop} (ht : pass = true ↔ trips) (c : Cond) :
    SampleMoves delay recovery trips c (Cond.onSample delay recovery pass c).1 := by
  refine ⟨delayed_moves ht fun h => ?_, fun h => ?_, fun h => ?_⟩
  · unfold Cond.onSample
    rcases h with h | h <;> rw [h]
  all_goals obtain rfl := propext ht
  · refine ⟨fun hstays => ?_, fun hends hlong => ?_⟩
    · simp [Cond.onSample, h, hstays]
    · simp [Cond.onSample, h, hends, hlong]
  · refine ⟨fun hover => ?_, fun hunder => ?_⟩
    · simp [Cond.onSample, h, hover]
    · simp [Cond.onSample, h, hunder]

/-! ### The tests of one event, one after the other -/

/-- The evaluation of one kind at an event. -/
structure CondTest where
  kind : Kind
  move : Cond → Cond × CondEvent

/-- The condition a test moves. -/
def CondTest.cond (x : CondTest) : CondId := ownCond x.kind

/-- What the test makes of the conditions. -/
def CondTest.outcome (x : CondTest) (c : Conds) : Cond × CondEvent := x.move (c.get x.cond)

/-- The results of the tests join in their order. -/
def Evaluated.joinAll (tests : List CondTest) (e : Evaluated) : Evaluated := tests.foldl (fun e x => e.join x.cond x.move) e

/-- The conditions reported for an event of theirs. -/
def Evaluated.told (e : Evaluated) : CondEvent → List CondId
  | .none => []
  | .trip => e.tripped
  | .clear => e.cleared

/-- The conditions whose tests tell of an event, on the conditions given. -/
def tellers (ev : CondEvent) (tests : List CondTest) (c : Conds) : List CondId :=
  (tests.filter fun x => (x.outcome c).2 = ev).map CondTest.cond

/-- Tests of different kinds, none of them HOLD or MEMBER LOST, each telling of what it does. -/
structure OwnTests (tests : List CondTest) : Prop where
  nodup : (tests.map CondTest.kind).Nodup
  notLost : ∀ x ∈ tests, x.kind ≠ .memberLost
  notHold : ∀ x ∈ tests, x.kind ≠ .hold
  telling : ∀ x ∈ tests, Telling x.move

/-- Tests are known by their kinds. -/
theorem ownTests_of_kinds {tests : List CondTest} {kinds : List Kind} (hkinds : tests.map CondTest.kind = kinds)
    (hnodup : kinds.Nodup) (hlost : .memberLost ∉ kinds) (hhold : .hold ∉ kinds)
    (htelling : ∀ x ∈ tests, Telling x.move) : OwnTests tests := by
  subst hkinds
  exact ⟨hnodup, fun x hx h => hlost (h ▸ List.mem_map_of_mem hx), fun x hx h => hhold (h ▸ List.mem_map_of_mem hx), htelling⟩

theorem Evaluated.join_conds (id : CondId) (f : Cond → Cond × CondEvent) (e : Evaluated) :
    (e.join id f).conds = e.conds.set id (f (e.conds.get id)).1 := by
  unfold Evaluated.join
  rcases f (e.conds.get id) with ⟨c, _ | _ | _⟩ <;> rfl

theorem Evaluated.join_told (id : CondId) (f : Cond → Cond × CondEvent) (e : Evaluated) (ev : CondEvent) (h : ev ≠ .none) :
    (e.join id f).told ev = e.told ev ++ if (f (e.conds.get id)).2 = ev then [id] else [] := by
  unfold Evaluated.join
  rcases f (e.conds.get id) with ⟨c, _ | _ | _⟩ <;> cases ev <;> simp [Evaluated.told] at h ⊢

theorem Evaluated.joinAll_cons (x : CondTest) (tests : List CondTest) (e : Evaluated) :
    e.joinAll (x :: tests) = (e.join x.cond x.move).joinAll tests := rfl

theorem CondTest.cond_inj {x y : CondTest} (h : x.cond = y.cond) : x.kind = y.kind := congrArg CondId.kind h

theorem CondTest.cond_ofStation (x : CondTest) : x.cond.ofStation := .inr rfl

theorem OwnTests.tail {x : CondTest} {tests : List CondTest} (h : OwnTests (x :: tests)) : OwnTests tests :=
  ⟨(List.nodup_cons.1 h.nodup).2, fun y hy => h.notLost y (.tail _ hy), fun y hy => h.notHold y (.tail _ hy),
    fun y hy => h.telling y (.tail _ hy)⟩

/-- A first test leaves what the others find. -/
theorem OwnTests.outcome_join {x y : CondTest} {tests : List CondTest} (h : OwnTests (x :: tests)) (hy : y ∈ tests)
    (e : Evaluated) : y.outcome (e.join x.cond x.move).conds = y.outcome e.conds := by
  have hne : y.cond ≠ x.cond := fun hc =>
    (List.nodup_cons.1 h.nodup).1 (CondTest.cond_inj hc ▸ List.mem_map_of_mem hy)
  unfold CondTest.outcome
  rw [Evaluated.join_conds]
  exact congrArg y.move (Conds.get_set_other _ _ _ _ (h.notLost x List.mem_cons_self) y.cond_ofStation hne)

theorem joinAll_get_other (tests : List CondTest) (htests : OwnTests tests) (e : Evaluated) (id : CondId)
    (hid : id.ofStation) (h : ∀ x ∈ tests, id ≠ x.cond) : (e.joinAll tests).conds.get id = e.conds.get id := by
  induction tests generalizing e with
  | nil => rfl
  | cons x xs ih =>
      rw [Evaluated.joinAll_cons, ih htests.tail _ fun y hy => h y (.tail _ hy), Evaluated.join_conds]
      exact Conds.get_set_other _ _ _ _ (htests.notLost x List.mem_cons_self) hid (h x List.mem_cons_self)

theorem joinAll_get (tests : List CondTest) (htests : OwnTests tests) (e : Evaluated) (x : CondTest) (hx : x ∈ tests) :
    (e.joinAll tests).conds.get x.cond = (x.outcome e.conds).1 := by
  induction tests generalizing e with
  | nil => exact absurd hx List.not_mem_nil
  | cons y ys ih =>
      rw [Evaluated.joinAll_cons]
      rcases List.mem_cons.1 hx with rfl | hin
      · have hnot (z : CondTest) (hz : z ∈ ys) : x.cond ≠ z.cond := fun hc =>
          (List.nodup_cons.1 htests.nodup).1 (CondTest.cond_inj hc ▸ List.mem_map_of_mem hz)
        rw [joinAll_get_other ys htests.tail _ _ x.cond_ofStation hnot, Evaluated.join_conds]
        exact Conds.get_set_self _ _ _ (htests.notLost x List.mem_cons_self)
      · rw [ih htests.tail _ hin, htests.outcome_join hin]

theorem joinAll_told (tests : List CondTest) (htests : OwnTests tests) (e : Evaluated) (ev : CondEvent) (hev : ev ≠ .none) :
    (e.joinAll tests).told ev = e.told ev ++ tellers ev tests e.conds := by
  induction tests generalizing e with
  | nil => exact (List.append_nil _).symm
  | cons x xs ih =>
      have hsame : tellers ev xs (e.join x.cond x.move).conds = tellers ev xs e.conds :=
        congrArg (List.map _) (List.filter_congr fun y hy => by rw [htests.outcome_join hy])
      rw [Evaluated.joinAll_cons, ih htests.tail, Evaluated.join_told _ _ _ _ hev, hsame, List.append_assoc]
      change e.told ev ++ ((if (x.outcome e.conds).2 = ev then [x.cond] else []) ++ tellers ev xs e.conds) = _
      unfold tellers
      rw [List.filter_cons]
      by_cases htells : (x.outcome e.conds).2 = ev
      · rw [if_pos htells, if_pos (decide_eq_true htells)]
        rfl
      · rw [if_neg htells, if_neg (by simpa using htells)]
        rfl

/-- The conditions reported are those of tests that tell of the event, each once. -/
theorem mem_tellers {ev : CondEvent} {tests : List CondTest} {c : Conds} {id : CondId} :
    id ∈ tellers ev tests c ↔ ∃ x ∈ tests, (x.outcome c).2 = ev ∧ x.cond = id := by
  simp [tellers, and_assoc]

theorem tellers_nodup (ev : CondEvent) (tests : List CondTest) (htests : OwnTests tests) (c : Conds) :
    (tellers ev tests c).Nodup := by
  have hinj : Function.Injective ownCond := fun _ _ h => congrArg CondId.kind h
  have hall := htests.nodup.map hinj
  rw [List.map_map] at hall
  exact hall.sublist (List.filter_sublist.map _)

/-- The conditions as the tests leave them (R30). -/
theorem joinAll_conds (tests : List CondTest) (e : Evaluated) :
    (e.joinAll tests).conds = tests.foldl (fun c x => c.set x.cond (x.outcome c).1) e.conds := by
  induction tests generalizing e with
  | nil => rfl
  | cons x xs ih => rw [Evaluated.joinAll_cons, ih, Evaluated.join_conds]; rfl

section
variable {s w : State} {tests : List CondTest} (htests : OwnTests tests)
include htests

/-- What a change that only some tests make is told of by them: an event that never stands for a condition that stays, and
that a test tells exactly where it happens. -/
theorem mem_tellers_iff {ev : CondEvent} {happens : Cond → Cond → Prop} (hstay : ∀ c, ¬ happens c c)
    (htell : ∀ x ∈ tests, ∀ c, (x.move c).2 = ev ↔ happens c (x.move c).1)
    (hconds : w.conds = (s.evaluating.joinAll tests).conds) (id : CondId) :
    id ∈ tellers ev tests s.conds ↔ id.ofStation ∧ happens (s.conds.get id) (w.conds.get id) := by
  rw [mem_tellers, hconds]
  constructor
  · rintro ⟨x, hx, hev, rfl⟩
    rw [joinAll_get tests htests _ x hx]
    exact ⟨x.cond_ofStation, (htell x hx _).1 hev⟩
  · rintro ⟨hid, hhappens⟩
    by_cases htested : ∃ x ∈ tests, id = x.cond
    · obtain ⟨x, hx, rfl⟩ := htested
      rw [joinAll_get tests htests _ x hx] at hhappens
      exact ⟨x, hx, (htell x hx _).2 hhappens, rfl⟩
    · rw [joinAll_get_other tests htests _ id hid fun x hx hc => htested ⟨x, hx, hc⟩] at hhappens
      exact absurd hhappens (hstay _)

/-- The conditions reported as tripped are those whose tests tell so. -/
theorem joinAll_tripped (s : State) : (s.evaluating.joinAll tests).tripped = tellers .trip tests s.conds :=
  joinAll_told tests htests s.evaluating .trip CondEvent.noConfusion

/-- The conditions reported as cleared are those whose tests tell so. -/
theorem joinAll_cleared (s : State) : (s.evaluating.joinAll tests).cleared = tellers .clear tests s.conds :=
  joinAll_told tests htests s.evaluating .clear CondEvent.noConfusion

theorem mem_tripped_iff (hconds : w.conds = (s.evaluating.joinAll tests).conds) (id : CondId) :
    id ∈ (s.evaluating.joinAll tests).tripped ↔ Trips s w id := by
  rw [joinAll_tripped htests, trips_iff]
  exact mem_tellers_iff htests Cond.not_tripsTo_self (fun x hx => (htests.telling x hx).trip) hconds id

theorem mem_cleared_iff (hconds : w.conds = (s.evaluating.joinAll tests).conds) (id : CondId) :
    id ∈ (s.evaluating.joinAll tests).cleared ↔ Recovers s w id := by
  rw [joinAll_cleared htests, recovers_iff]
  exact mem_tellers_iff htests Cond.not_recoversTo_self (fun x hx => (htests.telling x hx).clear) hconds id

end

/-! ### The epoch and the last round stay -/

theorem leaveRound_lastRound (s : State) : (leaveRound s).reclose.lastRound = s.reclose.lastRound := by
  have hremember (r : Round) (u : State) : (rememberLeft r u).reclose.lastRound = u.reclose.lastRound := by
    unfold rememberLeft
    split <;> rfl
  have hend (r : Round) (u : State) : (endRound r u).reclose.lastRound = u.reclose.lastRound :=
    (forPaths_keeps (·.reclose.lastRound) r.paths startHoldOff (fun p _ => by cases p <;> rfl) _).trans
      (congrArg Reclose.lastRound (openClosedSet_same r u).1)
  unfold leaveRound
  split
  · rfl
  · refine ((hend _ _).trans (hremember _ _)).trans ?_
    split <;> rfl

theorem openPath_lastRound (p : Path) (s : State) : (openPath p s).reclose.lastRound = s.reclose.lastRound := by
  have hset : (s.setSwitch p (s.switch p).openCommand).reclose = s.reclose := s.setSwitch_reclose p _
  rcases openPath_eq p s with e | e
  · rw [e, hset]
  · rw [e]
    unfold afterOpen
    split
    · rw [hset]
    · split
      · rw [leaveRound_lastRound, hset]
      · rw [hset]

theorem listReport_lastRound (ch : Change) (s : State) :
    (listReport ch s).reclose.lastRound = s.reclose.lastRound := by
  have hoffers : (takeOffers ch s).reclose = s.reclose := by
    unfold takeOffers
    split <;> rfl
  have hopen := forPaths_keeps (·.reclose.lastRound) (newlyBlocked ch.before (takeOffers ch s).trips.records) openPath
    openPath_lastRound (takeOffers ch s)
  unfold listReport
  simp only
  split
  · rw [hopen, hoffers]
  · split
    · rw [leaveRound_lastRound, hopen, hoffers]
    · rw [hopen, hoffers]

/-- A report of own conditions moves neither the budget's epoch nor the last round. -/
theorem reportConds_same (cleared tripped : List CondId) (s : State) :
    (reportConds cleared tripped s).budget.epoch = s.budget.epoch ∧
      (reportConds cleared tripped s).reclose.lastRound = s.reclose.lastRound := by
  obtain ⟨order, m, _, heq⟩ := reportConds_eq cleared tripped s
  rw [heq, listReport_lastRound, (listReport_soft _ _).epoch, ownChanged_eq]
  exact ⟨rfl, rfl⟩

/-! ### A measured value taken (R62, R65) -/

/-- The station once the measurement unit holds a new value and the condition monitor has evaluated it, before the closing
checks. -/
def measured (m : Meas) (tests : List CondTest) (s : State) : State :=
  reportEvaluated (s.evaluating.joinAll tests) (s.withMeas m)

theorem measured_conds (m : Meas) (tests : List CondTest) (s : State) :
    (measured m tests s).conds = (s.evaluating.joinAll tests).conds :=
  (reportConds_within _ _ _).rest .conds (by decide)

/-- What a command that takes a measured value leaves of the parts it may not reach. -/
theorem settle_measured (b : State) (m : Meas) (tests : List CondTest) (s : State) :
    (settle b (measured m tests s)).roster = s.roster ∧ (settle b (measured m tests s)).stop = s.stop ∧
    (settle b (measured m tests s)).phase = s.phase ∧ (settle b (measured m tests s)).beats = s.beats ∧
    (settle b (measured m tests s)).cfg = s.cfg ∧ (settle b (measured m tests s)).budget.epoch = s.budget.epoch ∧
    (settle b (measured m tests s)).reclose.lastRound = s.reclose.lastRound := by
  have h : Within condReach (s.withMeas m) (measured m tests s) := reportEvaluated_within _ _
  have hsame := reportConds_same (s.evaluating.joinAll tests).cleared (s.evaluating.joinAll tests).tripped
    ((s.withMeas m).withConds (s.evaluating.joinAll tests).conds)
  simp only [settle_roster, settle_stop, settle_phase, settle_beats, settle_cfg, settle_budget_epoch,
    settle_reclose_lastRound]
  exact ⟨h.rest .roster (by decide), h.rest .stop (by decide), h.rest .phase (by decide), h.rest .beats (by decide),
    h.rest .cfg (by decide), hsame.1, hsame.2⟩

theorem settle_measured_meas (b : State) (m : Meas) (tests : List CondTest) (s : State) :
    (settle b (measured m tests s)).meas = m := by
  rw [settle_meas]
  exact (reportEvaluated_within _ _).rest .meas (by decide)

theorem settle_measured_conds (b : State) (m : Meas) (tests : List CondTest) (s : State) :
    (settle b (measured m tests s)).conds = tests.foldl (fun c x => c.set x.cond (x.outcome c).1) s.conds := by
  rw [settle_conds, measured_conds, joinAll_conds]
  rfl

/-- The conditions the tests trip and those they clear are reported to the list (R9 to R11, R13, R22, R31). -/
theorem measured_reported {s : State} (b : State) (m : Meas) {tests : List CondTest} (htests : OwnTests tests)
    (hw : s.working = true) (hkeys : UniqueKeys s) (hheld : HeldPathsOff s) :
    OwnChangesReported s (settle b (measured m tests s)) := by
  have hconds := measured_conds m tests s
  refine ownChangesReported b (s.evaluating.joinAll tests).cleared (s.evaluating.joinAll tests).tripped hw hkeys hheld
    ((withMeas_beside s m).trans (withConds_beside _ (s.evaluating.joinAll tests).conds)) (.refl _) ?_ (fun id hid => ?_)
    (mem_tripped_iff htests hconds) (mem_cleared_iff htests hconds)
  · rw [joinAll_tripped htests]
    exact tellers_nodup _ _ htests _
  · rw [joinAll_tripped htests, mem_tellers] at hid
    obtain ⟨x, hx, _, rfl⟩ := hid
    exact htests.notHold x hx

end Sys2Proof.Machine
end

section
/-!
SUPPORT. The measured values and the tests on them: scan results and shunt samples (R30, R34 to R40, R57 to R65).
-/
namespace Sys2Proof.Machine

/-! ### Measured values (R58, R61, R64) -/

theorem clampDie_spec (t : Int) : -40 ≤ clampDie t ∧ clampDie t ≤ 150 ∧ (t < -40 → clampDie t = -40) ∧
    (150 < t → clampDie t = 150) ∧ (-40 ≤ t → t ≤ 150 → clampDie t = t) := by
  unfold clampDie
  split
  · omega
  · split <;> omega

theorem clampCell_spec (x : Int) : clampCell x ≤ 5000 ∧ (x ≤ 0 → clampCell x = 0) ∧ (5000 < x → clampCell x = 5000) ∧
    (0 ≤ x → x ≤ 5000 → (clampCell x : Int) = x) := by
  unfold clampCell
  split
  · omega
  · split <;> omega

/-- A sample is a tenth of the shunt voltage, rounded toward zero, and at most full scale (R64). -/
theorem sampleOf_spec (x : Int) : -32000 ≤ sampleOf x ∧ sampleOf x ≤ 32000 ∧
    (320000 < x → sampleOf x = 32000) ∧ (x < -320000 → sampleOf x = -32000) ∧
    (0 ≤ x → x ≤ 320000 → sampleOf x * 10 ≤ x ∧ x < sampleOf x * 10 + 10) ∧
    (x ≤ 0 → -320000 ≤ x → x ≤ sampleOf x * 10 ∧ sampleOf x * 10 - 10 < x) := by
  have hup : 0 ≤ x → x.tdiv 10 * 10 ≤ x ∧ x < x.tdiv 10 * 10 + 10 := fun h => by
    rw [Int.tdiv_eq_ediv_of_nonneg h]
    omega
  have hdown : x ≤ 0 → x ≤ x.tdiv 10 * 10 ∧ x.tdiv 10 * 10 - 10 < x := fun h => by
    have hneg : x.tdiv 10 = -((-x).tdiv 10) := by rw [Int.neg_tdiv, neg_neg]
    rw [hneg, Int.tdiv_eq_ediv_of_nonneg (by omega)]
    omega
  unfold sampleOf
  simp only
  generalize x.tdiv 10 = q at hup hdown
  split
  · omega
  · split <;> omega

theorem scanOf_cell (c : Cfg) (m : ScanInputs) (j : Nat) (x : Int) (hj : j < c.cellCount) (hx : m.taps[j]? = some x) :
    (scanOf c m).cells[j]? = some (clampCell x) := by
  simp [scanOf, hj, hx, List.getD_eq_getElem?_getD]

/-! ### The tests on a scan result (R34 to R38) -/

/-- The five kinds' tests on a scan result, in the order they are made. -/
def scanTests (c : Cfg) (r : ScanResult) : List CondTest :=
  [{ kind := .cellHigh, move := Cond.onScan c.cellHighDelay (highTrips c r) (c.cellHighHyst != 0 && highRecovers c r) },
   { kind := .cellLow, move := Cond.onScan c.cellLowDelay (lowTrips c r) (c.cellLowHyst != 0 && lowRecovers c r) },
   { kind := .moduleHot, move := Cond.onScan c.hotDelay (hotTrips c r) (hotRecovers c r) },
   { kind := .moduleCold, move := Cond.onScan c.coldDelay (coldTrips c r) (coldRecovers c r) },
   { kind := .dieHot, move := Cond.onScan c.dieDelay (dieTrips c r) (dieRecovers c r) }]

theorem scanTests_own (c : Cfg) (r : ScanResult) : OwnTests (scanTests c r) := by
  have hkinds : (scanTests c r).map CondTest.kind = [.cellHigh, .cellLow, .moduleHot, .moduleCold, .dieHot] := rfl
  refine ownTests_of_kinds hkinds (by decide) (by decide) (by decide) fun x hx => ?_
  simp only [scanTests, List.mem_cons, List.not_mem_nil, or_false] at hx
  rcases hx with rfl | rfl | rfl | rfl | rfl <;> exact onScan_telling _ _ _

theorem highTrips_iff (c : Cfg) (r : ScanResult) : highTrips c r = true ↔ ∃ v ∈ r.cells, c.cellHigh < v := by
  have h := highest_le r c.cellHigh
  unfold highTrips
  rw [decide_eq_true_iff, ← Nat.not_le, h]
  simp

theorem highRecovers_iff (c : Cfg) (r : ScanResult) (hc : c.cellHighHyst ≤ c.cellHigh) :
    (c.cellHighHyst != 0 && highRecovers c r) = true ↔
      c.cellHighHyst ≠ 0 ∧ ∀ v ∈ r.cells, v + c.cellHighHyst ≤ c.cellHigh := by
  unfold highRecovers
  simp only [Bool.and_eq_true, bne_iff_ne, decide_eq_true_iff, highest_le, ← Nat.le_sub_iff_add_le hc]

theorem lowTrips_iff (c : Cfg) (r : ScanResult) (hc : 0 < c.cellLow) (hr : r.cells ≠ []) :
    lowTrips c r = true ↔ ∃ v ∈ r.cells, v < c.cellLow := by
  have h := le_lowest r c.cellLow hc
  unfold lowTrips
  rw [decide_eq_true_iff, ← Nat.not_le, h]
  simp [hr]

theorem lowRecovers_iff (c : Cfg) (r : ScanResult) (hc : 0 < c.cellLow) (hr : r.cells ≠ []) :
    (c.cellLowHyst != 0 && lowRecovers c r) = true ↔
      c.cellLowHyst ≠ 0 ∧ ∀ v ∈ r.cells, c.cellLow + c.cellLowHyst ≤ v := by
  unfold lowRecovers
  simp [le_lowest r (c.cellLow + c.cellLowHyst) (by omega), hr]

theorem hotTrips_iff (c : Cfg) (r : ScanResult) : hotTrips c r = true ↔ ∃ x ∈ r.codes, x < c.hotCode := by
  simp [hotTrips]
theorem hotRecovers_iff (c : Cfg) (r : ScanResult) : hotRecovers c r = true ↔ ∀ x ∈ r.codes, c.hotRecovery ≤ x := by
  simp [hotRecovers]
theorem coldTrips_iff (c : Cfg) (r : ScanResult) : coldTrips c r = true ↔ ∃ x ∈ r.codes, c.coldCode < x := by
  simp [coldTrips]
theorem coldRecovers_iff (c : Cfg) (r : ScanResult) : coldRecovers c r = true ↔ ∀ x ∈ r.codes, x ≤ c.coldRecovery := by
  simp [coldRecovers]
theorem dieTrips_iff (c : Cfg) (r : ScanResult) : dieTrips c r = true ↔ (c.dieThreshold : Int) < r.die := decide_eq_true_iff
theorem dieRecovers_iff (c : Cfg) (r : ScanResult) : dieRecovers c r = true ↔ r.die ≤ (c.dieRecovery : Int) :=
  decide_eq_true_iff

/-- A configuration in its ranges has a hysteresis below the CELL HIGH threshold, and at least one cell (R197). -/
theorem cellRanges (c : Cfg) (h : c.rangesOk = true) : c.cellHighHyst ≤ c.cellHigh ∧ 0 < c.cellCount := by
  unfold Cfg.rangesOk inRange hystOk at h
  simp only [Bool.and_eq_true, Bool.or_eq_true, beq_iff_eq, decide_eq_true_eq] at h
  omega

/-! ### The commands -/

/-- The measurement unit once a scan result is held (R60, R62). -/
def Meas.withScan (u : Meas) (r : ScanResult) : Meas := { u with scan := some r, scanTimer := .stopped, bias := false }

theorem exec_checkIntervalExpiry (s : State) (hw : s.working = true) :
    exec .checkIntervalExpiry s = .next (startScan s) := congrArg Host.Outcome.next (if_pos hw)

theorem exec_scanResult (m : ScanInputs) (s : State) (hw : s.working = true) :
    exec (.scanResult m) s =
      .next (settle s (measured (s.meas.withScan (scanOf s.cfg m)) (scanTests s.cfg (scanOf s.cfg m)) s)) :=
  congrArg Host.Outcome.next (if_pos hw)

/-- The five scan kinds after a scan result (R34 to R38). -/
theorem scanResult_conds (m : ScanInputs) (s : State) :
    let r := scanOf s.cfg m
    (settle s (measured (s.meas.withScan r) (scanTests s.cfg r) s)).conds = { s.conds with
      cellHigh := (Cond.onScan s.cfg.cellHighDelay (highTrips s.cfg r)
        (s.cfg.cellHighHyst != 0 && highRecovers s.cfg r) s.conds.cellHigh).1
      cellLow := (Cond.onScan s.cfg.cellLowDelay (lowTrips s.cfg r)
        (s.cfg.cellLowHyst != 0 && lowRecovers s.cfg r) s.conds.cellLow).1
      moduleHot := (Cond.onScan s.cfg.hotDelay (hotTrips s.cfg r) (hotRecovers s.cfg r) s.conds.moduleHot).1
      moduleCold := (Cond.onScan s.cfg.coldDelay (coldTrips s.cfg r) (coldRecovers s.cfg r) s.conds.moduleCold).1
      dieHot := (Cond.onScan s.cfg.dieDelay (dieTrips s.cfg r) (dieRecovers s.cfg r) s.conds.dieHot).1 } :=
  settle_measured_conds _ _ _ s

/-- Settles O6: the expiry starts a scan; a scan result is the five tests' moves and their report, each test by its threshold
where the configuration is in its ranges. -/
theorem scanCycle : Obligations.ScanCycle := by
  refine ⟨exec_checkIntervalExpiry, fun m s hw => ⟨_, exec_scanResult m s hw, ?_⟩,
    fun m s hw hformed => ⟨_, exec_scanResult m s hw, scanOf s.cfg m, ?_, ?_⟩⟩
  · obtain ⟨hroster, hstop, hphase, hbeats, hcfg, hepoch, hlast⟩ := settle_measured s
      (s.meas.withScan (scanOf s.cfg m)) (scanTests s.cfg (scanOf s.cfg m)) s
    exact ⟨settle_measured_meas _ _ _ s, scanResult_conds m s, hroster, hstop, hphase, hbeats, hcfg, hepoch, hlast,
      measured_reported s _ (scanTests_own _ _) hw⟩
  · rw [settle_measured_meas]
    rfl
  · obtain ⟨_, _, hload, _⟩ := hformed
    obtain ⟨hranges, _⟩ := hload hw
    obtain ⟨hhyst, hcount⟩ := cellRanges s.cfg hranges
    have hlow := cellLow_pos s.cfg hranges
    have hcells : (scanOf s.cfg m).cells ≠ [] := by
      simp [scanOf]
      omega
    rw [scanResult_conds m s]
    exact ⟨onScan_moves (highTrips_iff _ _) (highRecovers_iff _ _ hhyst) _,
      onScan_moves (lowTrips_iff _ _ hlow hcells) (lowRecovers_iff _ _ hlow hcells) _,
      onScan_moves (hotTrips_iff _ _) (hotRecovers_iff _ _) _, onScan_moves (coldTrips_iff _ _) (coldRecovers_iff _ _) _,
      onScan_moves (dieTrips_iff _ _) (dieRecovers_iff _ _) _⟩

/-- Settles O7: the scan result held is the clamped inputs. -/
theorem scanReadingsClamped : Obligations.ScanReadingsClamped := by
  intro m s hw
  refine ⟨_, exec_scanResult m s hw, scanOf s.cfg m, ?_, ?_⟩
  · rw [settle_measured_meas]
    rfl
  · obtain ⟨hlow, hhigh, hcold, hhot, hkept⟩ := clampDie_spec m.die
    exact ⟨hlow, hhigh, hcold, hhot, hkept, by simp [scanOf], by simp [scanOf],
      fun j x hj hx => ⟨clampCell x, scanOf_cell s.cfg m j x hj hx, clampCell_spec x⟩⟩

/-! ### Shunt samples (R39, R40, R64, R65) -/

/-- The two overcurrent kinds' tests on a sample, in the order they are made. -/
def sampleTests (c : Cfg) (x : Int) : List CondTest :=
  [{ kind := .chargeOvercurrent, move := Cond.onSample (4 * c.ocDelay) c.recoveryTimeUs (ocTrips c x) },
   { kind := .dischargeOvercurrent, move := Cond.onSample (4 * c.odDelay) c.recoveryTimeUs (odTrips c x) }]

theorem sampleTests_own (c : Cfg) (x : Int) : OwnTests (sampleTests c x) := by
  have hkinds : (sampleTests c x).map CondTest.kind = [.chargeOvercurrent, .dischargeOvercurrent] := rfl
  refine ownTests_of_kinds hkinds (by decide) (by decide) (by decide) fun y hy => ?_
  simp only [sampleTests, List.mem_cons, List.not_mem_nil, or_false] at hy
  rcases hy with rfl | rfl <;> exact onSample_telling _ _ _

theorem ocTrips_iff (c : Cfg) (x : Int) : ocTrips c x = true ↔ 100 * (c.ocThreshold : Int) < x := by
  simp [ocTrips, mul_comm]
theorem odTrips_iff (c : Cfg) (x : Int) : odTrips c x = true ↔ x < -(100 * (c.odThreshold : Int)) := by
  simp [odTrips, mul_comm]

/-- The measurement unit once a sample is held and has joined the window (R65, R66). -/
def Meas.withSample (u : Meas) (x : Int) : Meas :=
  { u with sample := some x, sum := u.sum + x, number := u.number + 1, sampleTimer := .running 250 }

theorem exec_currentSample (uV : Int) (s : State) (hw : s.working = true) :
    exec (.currentSample uV) s =
      .next (settle s (measured (s.meas.withSample (sampleOf uV)) (sampleTests s.cfg (sampleOf uV)) s)) :=
  congrArg Host.Outcome.next (if_pos hw)

/-- The two overcurrent kinds after a sample (R39, R40). -/
theorem currentSample_conds (x : Int) (s : State) :
    (settle s (measured (s.meas.withSample x) (sampleTests s.cfg x) s)).conds = { s.conds with
      chargeOvercurrent :=
        (Cond.onSample (4 * s.cfg.ocDelay) s.cfg.recoveryTimeUs (ocTrips s.cfg x) s.conds.chargeOvercurrent).1
      dischargeOvercurrent :=
        (Cond.onSample (4 * s.cfg.odDelay) s.cfg.recoveryTimeUs (odTrips s.cfg x) s.conds.dischargeOvercurrent).1 } :=
  settle_measured_conds _ _ _ s

/-- Settles O8: a sample is the rounded tenth of its voltage, held and tested by both thresholds, and the moves are reported. -/
theorem sampleJoinsAndEvaluates : Obligations.SampleJoinsAndEvaluates := by
  refine ⟨sampleOf_spec, fun uV s hw => ⟨_, exec_currentSample uV s hw, ?_⟩,
    fun uV s hw => ⟨_, exec_currentSample uV s hw, sampleOf uV, ?_, ?_⟩⟩
  · obtain ⟨hroster, hstop, hphase, hbeats, hcfg, hepoch, _⟩ := settle_measured s
      (s.meas.withSample (sampleOf uV)) (sampleTests s.cfg (sampleOf uV)) s
    exact ⟨settle_measured_meas _ _ _ s, currentSample_conds _ s, hroster, hstop, hphase, hbeats, hcfg, hepoch,
      measured_reported s _ (sampleTests_own _ _) hw⟩
  · rw [settle_measured_meas]
    rfl
  · rw [currentSample_conds]
    exact ⟨onSample_moves (ocTrips_iff _ _) _, onSample_moves (odTrips_iff _ _) _⟩

end Sys2Proof.Machine
end

section
/-!
SUPPORT. The frames a station hears (R79, R95, R157, R161 to R163): each frame row as the frame it brings, the blocks that take it by
name, and the frames that change nothing but a counter.
-/
namespace Sys2Proof.Machine

/-! ### Orders that all end alike -/

theorem runAll_of_fixed (acts : List (State → State)) (s : State) (h : ∀ f ∈ acts, f s = s) : runAll acts s = s :=
  runAll_keeps (· = s) acts (fun f hf _ ht => ht ▸ h f hf) s rfl

/-- Where every order ends in one state, a free order ends in it. -/
theorem inAnyOrder_of_alike (acts : List (State → State)) (s t : State)
    (h : ∀ order : List (State → State), order.Perm acts → runAll order s = t) : inAnyOrder acts s = t := by
  have hfirst := h acts (.refl _)
  unfold inAnyOrder
  rw [hfirst, if_pos]
  rw [List.all_map, List.all_eq_true]
  intro order horder
  simp [h order (mem_permutations _ _ horder)]

/-- Acts that leave the station as it is leave it so in any order. -/
theorem inAnyOrder_of_fixed (acts : List (State → State)) (s : State) (h : ∀ f ∈ acts, f s = s) : inAnyOrder acts s = s :=
  inAnyOrder_of_alike acts s s fun order hperm => runAll_of_fixed order s fun f hf => h f (hperm.mem_iff.1 hf)

/-- An act beside which the others do nothing, neither before nor after it. -/
theorem inAnyOrder_alone (g : State → State) (rest : List (State → State)) (s : State)
    (h : ∀ f ∈ rest, f s = s ∧ f (g s) = g s) : inAnyOrder (g :: rest) s = g s := by
  refine inAnyOrder_of_alike _ s _ fun order hperm => ?_
  obtain ⟨pre, post, rfl⟩ := List.append_of_mem (hperm.mem_iff.2 List.mem_cons_self)
  have hrest : (pre ++ post).Perm rest := (List.perm_cons g).1 (List.perm_middle.symm.trans hperm)
  have hothers (f : State → State) (hf : f ∈ pre ++ post) := h f (hrest.mem_iff.1 hf)
  rw [runAll_append, runAll_cons, runAll_of_fixed pre s fun f hf => (hothers f (List.mem_append_left _ hf)).1]
  exact runAll_of_fixed post _ fun f hf => (hothers f (List.mem_append_right _ hf)).2

/-! ### The frame a row brings -/

/-- The round number a frame's contents carry, where the frame goes on with a round (R106). -/
def Content.roundNumber : Content → Option Nat
  | .answer round _ _ => some round.toNat
  | .proceed round => some round.toNat
  | .closed round => some round.toNat
  | .complete round => some round.toNat
  | .abandon round => some round.toNat
  | _ => none

/-- The contents are a REQUEST's, which the service responder takes (R163). -/
def Content.isRequest : Content → Bool
  | .request _ => true
  | _ => false

/-- The command is the frame's row: it brings the frame, from `src`, valid where `src` is a rank. -/
structure BringsFrame (src : Byte) (c : Instr) (f : RxFrame) : Prop where
  source : f.src = src
  exec : ∀ s, exec c s = .next (receive f s)
  valid : rankByteOk src = true → f.valid = true

/-- A member's frame row with its frame, which is no REQUEST. -/
structure BringsMemberFrame (src : Byte) (c : Instr) (f : RxFrame) : Prop extends BringsFrame src c f where
  member : f.content.isRequest = false
  beat : ∀ b, c = .beat src b ↔ f.content = .beat b
  wellFormed : ∀ b, f.content = .beat b → b.wf = true
  round : c.roundNumber = f.content.roundNumber

theorem RxFrame.valid_of {f : RxFrame} (hsrc : rankByteOk f.src = true) (hdst : f.content.dstOk f.dst.toNat = true)
    (hbody : f.content.bodyOk = true) : f.valid = true := by
  unfold RxFrame.valid
  rw [Bool.and_eq_true, Bool.and_eq_true]
  exact ⟨⟨hsrc, hdst⟩, hbody⟩

theorem memberFrame_brings {src : Byte} {c : Instr} (h : c.isMemberFrame src) :
    ∃ f, BringsMemberFrame src c f := by
  have hall (x : Content) (hdst : x.dstOk 0 = true) (hbody : x.bodyOk = true) (hsrc : rankByteOk src = true) :
      (toAll src x).valid = true := RxFrame.valid_of hsrc hdst hbody
  rcases h with ⟨b, hb, rfl⟩ | ⟨n, rfl⟩ | ⟨round, paths, closer, count, crc, rfl⟩ | ⟨dst, round, answer, reason, h1, h2, rfl⟩ |
    ⟨round, rfl | rfl | rfl | rfl⟩ | ⟨dst, payload, hdst, heven, hlength, rfl⟩
  · exact ⟨_, ⟨⟨rfl, fun _ => rfl, hall (.beat b) rfl (beat_bodyOk b hb)⟩, rfl, by simp [toAll],
      fun _ h => Content.beat.inj h ▸ hb, rfl⟩⟩
  · exact ⟨_, ⟨⟨rfl, fun _ => rfl, hall (.notice n) rfl rfl⟩, rfl, by simp [toAll], nofun, rfl⟩⟩
  · exact ⟨_, ⟨⟨rfl, fun _ => rfl, hall (.propose round paths closer count crc) rfl rfl⟩, rfl, by simp [toAll], nofun, rfl⟩⟩
  · exact ⟨{ src := src, dst := dst, content := .answer round answer reason },
      ⟨⟨rfl, fun _ => rfl, fun hsrc => RxFrame.valid_of hsrc (decide_eq_true ⟨h1, h2⟩) rfl⟩, rfl, by simp, nofun, rfl⟩⟩
  · exact ⟨_, ⟨⟨rfl, fun _ => rfl, hall (.proceed round) rfl rfl⟩, rfl, by simp [toAll], nofun, rfl⟩⟩
  · exact ⟨_, ⟨⟨rfl, fun _ => rfl, hall (.closed round) rfl rfl⟩, rfl, by simp [toAll], nofun, rfl⟩⟩
  · exact ⟨_, ⟨⟨rfl, fun _ => rfl, hall (.complete round) rfl rfl⟩, rfl, by simp [toAll], nofun, rfl⟩⟩
  · exact ⟨_, ⟨⟨rfl, fun _ => rfl, hall (.abandon round) rfl rfl⟩, rfl, by simp [toAll], nofun, rfl⟩⟩
  · exact ⟨{ src := src, dst := dst, content := .reply payload },
      ⟨⟨rfl, fun _ => rfl, fun hsrc => RxFrame.valid_of hsrc hdst (decide_eq_true ⟨heven, hlength⟩)⟩, rfl, by simp, nofun, rfl⟩⟩

theorem request_exec {c : Instr} {code : Byte} {h : ReqHead} {args : List Byte} (hc : c.request = some (code, h, args))
    (s : State) : exec c s = .next (receive (requestFrame code h args) s) := by
  cases c <;> simp only [Instr.request, Option.some.injEq, Prod.mk.injEq, reduceCtorEq] at hc
  all_goals
    obtain ⟨rfl, rfl, rfl⟩ := hc
    rfl

/-- A request's row brings a REQUEST. -/
theorem request_brings {src : Byte} {c : Instr} (h : c.isRequest src) :
    ∃ f, BringsFrame src c f ∧ f.content.isRequest = true := by
  rcases h with ⟨code, head, args, hc, rfl, hdst, heven, hlength⟩ | ⟨dst, payload, hdst, heven, hlength, rfl⟩
  · refine ⟨_, ⟨rfl, request_exec hc, fun hsrc => RxFrame.valid_of hsrc hdst (decide_eq_true ?_)⟩, rfl⟩
    simp only [List.length_cons]
    omega
  · exact ⟨_, ⟨rfl, fun _ => rfl, fun hsrc => RxFrame.valid_of hsrc hdst (decide_eq_true ⟨heven, hlength⟩)⟩, rfl⟩

/-- A frame that brings nothing to a station yet to hear an idle medium (R157, R178). -/
theorem BringsFrame.discarded {src : Byte} {c : Instr} {f : RxFrame} (h : BringsFrame src c f) {s : State}
    (hd : s.link.discarding = true) : Machine.exec c s = .next s := by
  rw [h.exec, receive_discarding f s hd]

/-- A valid frame at a station at work that listens is counted, taken by its blocks, and closed by the checks (R161 to R163). -/
theorem BringsFrame.taken {src : Byte} {c : Instr} {f : RxFrame} (h : BringsFrame src c f) {s : State}
    (hsrc : rankByteOk src = true) (hw : s.working = true) (hlisten : s.link.discarding = false) :
    Machine.exec c s = .next (settle s.heard (inAnyOrder (takers f) s.heard)) := by
  have hloading : s.phase ≠ .LOADING := fun hp => by
    rw [State.working, hp] at hw
    exact Bool.noConfusion hw
  have hhalted : s.heard.phase ≠ .HALTED := fun hp => by
    rw [State.working, show s.phase = .HALTED from hp] at hw
    exact Bool.noConfusion hw
  rw [h.exec, receive_listening f s hloading hlisten, if_pos (h.valid hsrc)]
  unfold distribute
  split
  · exact absurd ‹_› hloading
  · exact absurd ‹_› hhalted
  · rfl

/-! ### The blocks a member's frame is handed to -/

/-- The blocks a member's frame is handed to, by name (R163). -/
def memberTakers : Content → List Taker
  | .beat _ => [.membership, .list, .budget, .reclose]
  | .notice _ => [.membership, .list, .window]
  | .reply _ => [.membership]
  | _ => [.membership, .reclose]

theorem takers_named (f : RxFrame) (h : f.content.isRequest = false) :
    takers f = (memberTakers f.content).map (Taker.act f) := by
  unfold takers
  cases hc : f.content <;> first | rfl | exact absurd (hc ▸ h) Bool.noConfusion

theorem memberTakers_nodup (x : Content) : (memberTakers x).Nodup := by
  cases x <;> simp [memberTakers]

/-- The membership unit takes every member's frame first or among others. -/
theorem memberTakers_head (x : Content) : ∃ others, memberTakers x = .membership :: others := by
  cases x <;> exact ⟨_, rfl⟩

/-! ### Frames the blocks pass over -/

/-- A block beside the membership unit passes over a frame from a rank that is in no roster entry (R79, R163). -/
theorem act_of_stranger (f : RxFrame) (i : Taker) (s : State) (hi : i ≠ .membership)
    (hnone : s.isRosterRank f.src.toNat = false) : i.act f s = s := by
  cases i with
  | membership => exact absurd rfl hi
  | list => simp [Taker.act, listTakes, hnone]
  | reclose => simp [Taker.act, recloseTakes, hnone]
  | budget =>
      simp only [Taker.act, budgetTakes, hnone, Bool.false_and, Bool.false_eq_true, if_false]
      split <;> rfl
  | window =>
      simp only [Taker.act, windowTakes, hnone, Bool.false_eq_true, false_and, if_false]
      split <;> rfl

theorem isRosterRank_of_none {s : State} {r : Nat} (h : s.entry r = none) : s.isRosterRank r = false := by
  simp [State.isRosterRank, h]

/-- The responder leaves the station as it is for a frame that is no request (R163). -/
theorem serviceTakes_of_member (f : RxFrame) (s : State) (h : f.content.isRequest = false) : serviceTakes f s = s := by
  unfold serviceTakes
  split
  · rename_i hc
    exact absurd (hc ▸ h) Bool.noConfusion
  · rfl

/-- The responder neither answers nor counts a request of the own rank (R180). -/
theorem serviceTakes_of_own (f : RxFrame) (s : State) (h : f.src.toNat = s.rank) : serviceTakes f s = s := by
  unfold serviceTakes
  split
  · rw [if_pos (.inr h)]
  · rfl

/-- A member's frame from a stranger, or at a HALTED station, changes nothing but the counter (R79, R163). -/
theorem memberFrame_of_stranger {src : Byte} {c : Instr} {f : RxFrame} (h : BringsMemberFrame src c f) {s : State}
    (hsrc : rankByteOk src = true) (hlisten : s.link.discarding = false)
    (hs : s.phase = .HALTED ∨ s.working = true ∧ src.toNat ≠ s.rank ∧ s.entry src.toNat = none) :
    exec c s = .next s.heard := by
  rcases hs with hhalted | ⟨hw, hown, hnone⟩
  · rw [h.exec, receive_listening f s (by rw [hhalted]; decide) hlisten, if_pos (h.valid hsrc)]
    unfold distribute
    have hp : (s.count Counters.good).phase = .HALTED := hhalted
    simp only [hp]
    exact congrArg _ (serviceTakes_of_member f _ h.member)
  · rw [h.taken hsrc hw hlisten, takers_named f h.member, inAnyOrder_of_fixed, settle_same _ _ rfl]
    intro g hg
    obtain ⟨i, hi, rfl⟩ := List.mem_map.1 hg
    by_cases him : i = .membership
    · subst him
      exact membershipTakes_of_stranger f s.heard (h.source ▸ hown) (h.source ▸ hnone)
    · exact act_of_stranger f i s.heard him (isRosterRank_of_none (h.source ▸ hnone))

/-! ### A BEAT out of its ranges -/

theorem phase_inRange_iff (n : Nat) : (Phase.ofCode n).isSome = true ↔ 1 ≤ n ∧ n ≤ 4 := by
  match n with
  | 0 | 1 | 2 | 3 | 4 => simp [Phase.ofCode]
  | n + 5 => simp [Phase.ofCode]

theorem switch_inRange_iff (n : Nat) : (SwState.ofCode n).isSome = true ↔ 1 ≤ n ∧ n ≤ 5 := by
  match n with
  | 0 | 1 | 2 | 3 | 4 | 5 => simp [SwState.ofCode]
  | n + 6 => simp [SwState.ofCode]

/-- Check 5 of R161 on a BEAT is that its codes and its records are in range. -/
theorem beat_bodyOk_eq (b : BeatFields) : (Content.beat b).bodyOk = b.wf := by
  rw [Bool.eq_iff_iff]
  simp only [Content.bodyOk, BeatFields.wf, Bool.and_eq_true, decide_eq_true_eq, phase_inRange_iff, switch_inRange_iff]

/-- A BEAT out of its ranges is counted as a bad frame alone (R161). -/
theorem beat_invalid (src : Byte) (b : BeatFields) (s : State) (hp : s.phase ≠ .LOADING)
    (hlisten : s.link.discarding = false) (h : rankByteOk src = false ∨ b.wf = false) :
    exec (.beat src b) s = .next (s.count Counters.bad) := by
  have hinvalid : (toAll src (.beat b)).valid = (rankByteOk src && true && b.wf) := by
    rw [← beat_bodyOk_eq]
    rfl
  refine congrArg Host.Outcome.next ((receive_listening _ s hp hlisten).trans (if_neg ?_))
  rw [hinvalid]
  rcases h with h | h <;> simp [h]

/-! ### A REPLY -/

theorem updateEntry_eq (r : Nat) (g : Entry → Entry) (l : List Entry) :
    updateEntry r g l = l.map fun e => if e.rank = r then g e else e := by
  unfold updateEntry
  simp only [beq_iff_eq]

/-- A formed roster has one entry a rank: the one the rank names (R73). -/
theorem Formed.entry_of_mem {s : State} (h : Formed s) (hw : s.working = true) {e : Entry} (he : e ∈ s.roster) :
    s.entry e.rank = some e := by
  obtain ⟨_, _, hformed, _⟩ := h
  obtain ⟨_, _, _, hranks, _⟩ := hformed hw
  have hnodup : (s.roster.map (·.rank)).Nodup := hranks ▸ rosterRanks_nodup _ _
  unfold State.entry
  cases hf : s.roster.find? fun x => x.rank == e.rank with
  | none => exact absurd (List.find?_eq_none.1 hf e he) (by simp)
  | some x =>
      have hx : x.rank = e.rank := by simpa using List.find?_some hf
      rw [List.inj_on_of_nodup_map hnodup (List.mem_of_find?_eq_some hf) he hx]

/-- The start test does not see a silence timer restart. -/
theorem startInputs_of_heard (s : State) (r t : Nat) (h : ∀ e ∈ s.roster, e.rank = r → e.status = .PRESENT) :
    (s.withRoster (updateEntry r (Entry.heard t) s.roster)).startInputs = s.startInputs := by
  have hview {β : Type} (view : Entry → β) (hv : ∀ e : Entry, e.status = .PRESENT → view (e.heard t) = view e) :
      (updateEntry r (Entry.heard t) s.roster).map view = s.roster.map view := by
    rw [updateEntry_eq, List.map_map]
    refine List.map_congr_left fun e he => ?_
    by_cases hr : e.rank = r
    · simp [hr, hv e (h e he hr)]
    · simp [hr]
  have hcandidates : ((updateEntry r (Entry.heard t) s.roster).filter Entry.candidate).map (·.rank) =
      (s.roster.filter Entry.candidate).map (·.rank) := by
    have hkey := congrArg (fun l : List (Bool × Nat) => (l.filter (·.1)).map (·.2))
      (hview (fun e => (e.candidate, e.rank)) fun e he => by simp [Entry.heard, Entry.candidate, he])
    simpa only [List.filter_map, List.map_map, Function.comp_def] using hkey
  have hclosed (p : Path) : (updateEntry r (Entry.heard t) s.roster).all (Entry.closed p) =
      s.roster.all (Entry.closed p) := by
    have hkey := congrArg (fun l : List Bool => l.all id) (hview (Entry.closed p) fun _ _ => rfl)
    simpa only [List.all_map, Function.id_comp] using hkey
  have hroster := hview (fun e => (e.rank, e.status, e.beat.map fun b => { b with seq := 0 })) fun e he => by
    simp [Entry.heard, he]
  unfold State.startInputs State.coordinator State.candidates State.packClosed
  simp only [State.withRoster_roster, hcandidates, hclosed, hroster]
  rfl

/-- A member's frame without a BEAT, from a PRESENT member, restarts its silence timer at the membership unit (R80). -/
theorem membershipTakes_present (f : RxFrame) (e : Entry) (s : State) (hown : f.src.toNat ≠ s.rank)
    (he : s.entry f.src.toNat = some e) (hpresent : e.status = .PRESENT) (hbeat : f.content.beat? = none) :
    membershipTakes f s = s.withRoster (updateEntry f.src.toNat (Entry.heard s.cfg.silenceTime) s.roster) := by
  have htake : Entry.takeFrame s.cfg.silenceTime s.load.digest f.content = Entry.heard s.cfg.silenceTime := by
    funext x
    unfold Entry.takeFrame
    rw [hbeat]
  unfold membershipTakes takeFromMember
  simp [hown, he, hpresent, hbeat, htake]

/-- A rank no entry has: its update leaves the roster. -/
theorem updateEntry_of_none {s : State} {r : Nat} (g : Entry → Entry) (h : s.entry r = none) :
    updateEntry r g s.roster = s.roster := by
  have hnot := List.find?_eq_none.1 h
  rw [updateEntry_eq]
  refine (List.map_congr_left fun e he => if_neg ?_).trans (List.map_id _)
  simpa using hnot e he

/-- A REPLY of a PRESENT member, or of no member, restarts its silence timer and does nothing else (R79, R80, R163). -/
theorem exec_reply (src dst : Byte) (payload : List Byte) (s : State) (hw : s.working = true)
    (hlisten : s.link.discarding = false) (hformed : Formed s) (hsrc : rankByteOk src = true) (hdst : rankByteOk dst = true)
    (heven : payload.length % 2 = 0) (hlength : payload.length ≤ 192) (hown : src.toNat ≠ s.rank)
    (hpresent : ∀ e, s.entry src.toNat = some e → e.status = .PRESENT) :
    exec (.reply src dst payload) s =
      .next (s.heard.withRoster (updateEntry src.toNat (Entry.heard s.cfg.silenceTime) s.roster)) := by
  have hframe : BringsFrame src (.reply src dst payload) { src := src, dst := dst, content := .reply payload } :=
    ⟨rfl, fun _ => rfl, fun hsrc => RxFrame.valid_of hsrc hdst (decide_eq_true ⟨heven, hlength⟩)⟩
  have hmember : membershipTakes { src := src, dst := dst, content := .reply payload } s.heard =
      s.heard.withRoster (updateEntry src.toNat (Entry.heard s.cfg.silenceTime) s.roster) := by
    cases he : s.entry src.toNat with
    | none =>
        rw [updateEntry_of_none _ he]
        exact membershipTakes_of_stranger _ s.heard hown he
    | some e => exact membershipTakes_present _ e s.heard hown he (hpresent e he) rfl
  rw [hframe.taken hsrc hw hlisten]
  unfold takers
  simp only [inAnyOrder_one, hmember]
  refine congrArg _ (settle_same _ _ (startInputs_of_heard s.heard src.toNat _ fun e he hr => ?_).symm)
  exact hpresent e (hr ▸ hformed.entry_of_mem hw he)

/-- Settles O43: a REPLY goes to the membership unit alone, a stranger's frame past every block, an ill-formed BEAT fails the checks,
and before the first idle nothing is taken. -/
theorem framesOnlyHeard : Obligations.FramesOnlyHeard := by
  refine ⟨fun src dst payload s hw hlisten hformed hsrc hdst heven hlength hown hpresent => ?_, fun src c s hd h => ?_,
    fun src c s hlisten hsrc h hs => ?_, fun src b s hp hlisten h => beat_invalid src b s hp hlisten h⟩
  · rw [exec_reply src dst payload s hw hlisten hformed hsrc hdst heven hlength hown hpresent, updateEntry_eq]
    rfl
  · rcases h with h | h
    · obtain ⟨f, hf⟩ := memberFrame_brings h
      exact hf.discarded hd
    · obtain ⟨f, hf, _⟩ := request_brings h
      exact hf.discarded hd
  · obtain ⟨f, hf⟩ := memberFrame_brings h
    exact memberFrame_of_stranger hf hsrc hlisten hs

end Sys2Proof.Machine
end

section
/-!
SUPPORT. What departures from a round leave of the link, what leaving FORMING and OPERATING do, and a frame that bears the own rank
(R79, R95, R116, R123, R128, R139, R180).
-/
namespace Sys2Proof.Machine

/-! ### The link beside rounds -/

/-- What of the link neither a round frame queued nor a departure from a round touches (R120, R174). -/
def Link.besideRounds (l : Link) : Link :=
  { l with rounds := [], sending := none, cut := false, midCharacter := false, quiet := 0
           counters := { l.counters with roundsReplaced := 0, roundsLapsed := 0, roundsAbandoned := 0 } }

/-- What of the link does not show its rounds is the same where the link beside rounds is. -/
theorem Link.same_of_beside {β : Type} {l m : Link} (view : Link → β) (h : l.besideRounds = m.besideRounds)
    (hview : ∀ k : Link, view k.besideRounds = view k := by intro _; rfl) : view l = view m :=
  (hview l).symm.trans ((congrArg view h).trans (hview m))

theorem queueRound_besideRounds (l : Link) (dst : Byte) (c : Content) :
    (l.queueRound dst c).besideRounds = l.besideRounds := by
  rw [Link.queueRound_frame]
  rfl

theorem leaveRound_besideRounds (s : State) : (leaveRound s).link.besideRounds = s.link.besideRounds := by
  unfold leaveRound
  split
  · rfl
  · rename_i r _
    have hkeep (u : State) :
        ((endRound r (rememberLeft r u)).count Counters.abandoned).link.besideRounds = u.link.besideRounds := by
      have h : (endRound r (rememberLeft r u)).link = u.link := by
        rw [endRound_link]
        unfold rememberLeft
        split <;> rfl
      show (Link.besideRounds { (endRound r (rememberLeft r u)).link with
        counters := (endRound r (rememberLeft r u)).link.counters.abandoned }) = _
      rw [h]
      rfl
    rw [hkeep]
    split
    · exact queueRound_besideRounds ..
    · rfl

theorem openPath_besideRounds (p : Path) (s : State) : (openPath p s).link.besideRounds = s.link.besideRounds := by
  rcases openPath_eq p s with h | h
  · rw [h, State.setSwitch_link]
  · rw [h]
    unfold afterOpen
    split
    · rw [State.setSwitch_link]
    · split
      · rw [leaveRound_besideRounds, State.setSwitch_link]
      · rw [State.setSwitch_link]

theorem holdBoth_besideRounds (s : State) : (holdBoth s).link.besideRounds = s.link.besideRounds := by
  unfold holdBoth
  rw [leaveRound_besideRounds, openPath_besideRounds, openPath_besideRounds]

theorem settle_besideRounds (b s : State) : (settle b s).link.besideRounds = s.link.besideRounds := by
  rw [(settle_endsAs b s).1]
  rfl

/-! ### A station out of OPERATING starts no round -/

theorem mayStart_operating (s : State) (h : s.mayStart = true) : s.phase = .OPERATING := by
  unfold State.mayStart at h
  simp only [Bool.and_eq_true, beq_iff_eq] at h
  exact h.1.1.1.1.1.2

/-- Out of OPERATING the closing checks leave round and link (R102). -/
theorem settle_of_not_operating (b s : State) (hp : s.phase ≠ .OPERATING) :
    (settle b s).reclose.round = s.reclose.round ∧ (settle b s).link = s.link := by
  unfold settle
  split
  · exact ⟨rfl, rfl⟩
  · have hlink : (quietRetest (packEdge b .discharge (packEdge b .charge s))).link = s.link := by
      unfold quietRetest packEdge
      repeat' split
      all_goals rfl
    have hround : (quietRetest (packEdge b .discharge (packEdge b .charge s))).reclose.round = s.reclose.round := by
      unfold quietRetest packEdge
      repeat' split
      all_goals rfl
    have hphase : (quietRetest (packEdge b .discharge (packEdge b .charge s))).phase = s.phase := by
      rw [(quietRetest_endsAs s _ (packEdge_endsAs s b _ .discharge (packEdge_endsAs s b s .charge (EndsAs.refl s)))).1]
    unfold startTest
    rw [if_neg fun h => hp (hphase.symm.trans (mayStart_operating _ h))]
    exact ⟨hround, hlink⟩

/-! ### A change of phase, by the phase left -/

theorem changePhase_of_forming (p : Phase) (s : State) (h : s.phase = .FORMING) :
    changePhase p s = if p = .OPERATING then (settleForming (s.withPhase p)).withFormation .stopped
      else settleForming (s.withPhase p) := by
  simp [changePhase, h]

theorem changePhase_of_operating (p : Phase) (s : State) (h : s.phase = .OPERATING) :
    changePhase p s = holdBoth (s.withPhase p) := by
  simp [changePhase, h]

theorem settleForming_link (s : State) : (settleForming s).link = s.link := by
  unfold settleForming
  simp only
  split <;> rfl

theorem changePhase_besideRounds (p : Phase) (s : State) : (changePhase p s).link.besideRounds = s.link.besideRounds := by
  by_cases hf : s.phase = .FORMING
  · rw [changePhase_of_forming p s hf]
    split
    · rw [State.withFormation_link, settleForming_link, State.withPhase_link]
    · rw [settleForming_link, State.withPhase_link]
  · by_cases ho : s.phase = .OPERATING
    · rw [changePhase_of_operating p s ho, holdBoth_besideRounds, State.withPhase_link]
    · simp [changePhase, hf, ho]

theorem settleForming_leaves (p : Phase) (s : State) : BudgetLeavesForming s (settleForming (s.withPhase p)) := by
  unfold BudgetLeavesForming settleForming
  simp only [State.withTrips_budget, State.withPhase_budget]
  by_cases hjoined : s.budget.joined = true
  · simp [hjoined]
  · simp only [hjoined]
    exact ⟨rfl, rfl, rfl⟩

/-- On leaving FORMING the budget has joined, and every current-class record is counted (R128). -/
theorem changePhase_leavesForming (p : Phase) (s : State) (h : s.phase = .FORMING) :
    BudgetLeavesForming s (changePhase p s) ∧ AllCounted (changePhase p s) := by
  have hbudget := settleForming_leaves p s
  refine ⟨?_, ?_⟩
  · rw [changePhase_of_forming p s h]
    split
    · exact hbudget
    · exact hbudget
  · intro x hx hclass
    rw [changePhase_trips, decide_eq_true h] at hx
    obtain ⟨y, _, rfl⟩ := List.mem_map.1 hx
    simp only [countCurrent] at hclass ⊢
    simp [hclass]

/-- Leaving OPERATING holds both paths open and leaves the round (R116, R139, R202). -/
theorem changePhase_leavesOperating (p : Phase) (s : State) (h : s.phase = .OPERATING) :
    (∀ q, ((changePhase p s).switch q).isOff) ∧ (changePhase p s).reclose.round = none ∧
      (changePhase p s).trips = s.trips := by
  rw [changePhase_of_operating p s h]
  exact ⟨holdBoth_isOff _, holdBoth_round _, holdBoth_trips _⟩

/-! ### The own rank heard (R95) -/

theorem rankConflict_of_flag (s : State) (h : s.conflict = true) : rankConflict s = s := by
  simp [rankConflict, h]

theorem rankConflict_of_confined (s : State) (h : s.conflict = false) (hp : s.phase = .CONFINED) :
    rankConflict s = s.withConflict true := by
  simp [rankConflict, h, hp]

/-- The flag is set, and a station in FORMING or OPERATING becomes CONFINED (R95). -/
theorem rankConflict_of_not_confined (s : State) (h : s.conflict = false) (hw : s.working = true) (hp : s.phase ≠ .CONFINED) :
    rankConflict s = changePhase .CONFINED (s.withConflict true) := by
  unfold State.working at hw
  unfold rankConflict
  simp only [h, State.withConflict_phase]
  cases hs : s.phase <;> first | rfl | exact absurd hs hp | (rw [hs] at hw; exact Bool.noConfusion hw)

/-- What a first frame of the own rank leaves, before the closing checks (R95, R116, R123, R128). -/
structure Conflicted (s u : State) : Prop where
  conflict : u.conflict = true
  phase : u.phase = .CONFINED
  within : Within ([.conflict, .phase, .formation] ++ listReach) s u
  beside : u.link.besideRounds = s.link.besideRounds
  course : Course s u
  operating : s.phase = .OPERATING → (∀ q, (u.switch q).isOff) ∧ u.reclose.round = none
  confined : s.phase = .CONFINED → u.charge = s.charge ∧ u.discharge = s.discharge
  forming : s.phase = .FORMING → BudgetLeavesForming s u ∧ AllCounted u
  others : s.phase ≠ .FORMING → u.budget = s.budget ∧ u.trips = s.trips

theorem rankConflict_conflicted (s : State) (hw : s.working = true) (h : s.conflict = false) :
    Conflicted s (rankConflict s) := by
  have hflag : Within ([.conflict, .phase, .formation] ++ listReach) s (s.withConflict true) :=
    ⟨rfl, fun _ => rfl, fun b hb => by cases b <;> first | rfl | exact absurd (by decide) hb⟩
  have hcourse : Course s (s.withConflict true) := course_of_same rfl rfl rfl rfl rfl
  by_cases hp : s.phase = .CONFINED
  · rw [rankConflict_of_confined s h hp]
    exact ⟨rfl, hp, hflag, rfl, hcourse, fun e => Phase.noConfusion (hp.symm.trans e), fun _ => ⟨rfl, rfl⟩,
      fun e => Phase.noConfusion (hp.symm.trans e), fun _ => ⟨rfl, rfl⟩⟩
  · have hwithin := changePhase_within .CONFINED (s.withConflict true)
    rw [rankConflict_of_not_confined s h hw hp]
    refine ⟨hwithin.rest .conflict (by decide), changePhase_phase _ _, hflag.trans (hwithin.mono (by decide)),
      changePhase_besideRounds _ _, hcourse.trans (changePhase_course _ _), fun ho => ?_, fun e => absurd e hp,
      fun hf => changePhase_leavesForming _ (s.withConflict true) hf, fun hf =>
        ⟨changePhase_budget _ _ hf, ?_⟩⟩
    · obtain ⟨hoff, hround, _⟩ := changePhase_leavesOperating .CONFINED (s.withConflict true) ho
      exact ⟨hoff, hround⟩
    · cases hs : s.phase with
      | OPERATING => exact (changePhase_leavesOperating .CONFINED (s.withConflict true) hs).2.2
      | FORMING => exact absurd hs hf
      | CONFINED => exact absurd hs hp
      | HALTED => exact absurd (hw.symm.trans (by rw [State.working, hs])) (by decide)
      | LOADING => exact absurd (hw.symm.trans (by rw [State.working, hs])) (by decide)

/-- Beside the membership unit a frame of the own rank does nothing, before and after it (R79, R163, R180). -/
theorem ownFrame_taken (f : RxFrame) (s : State) (hw : s.working = true) (hown : f.src.toNat = s.rank)
    (hnone : s.entry s.rank = none) :
    inAnyOrder (takers f) s = rankConflict s := by
  have hroster : (rankConflict s).roster = s.roster := by
    cases hflag : s.conflict with
    | true => rw [rankConflict_of_flag s hflag]
    | false => exact (rankConflict_conflicted s hw hflag).within.rest .roster (by decide)
  have hrank : (rankConflict s).rank = s.rank := (rankConflict_reach s).rank
  have hstranger : s.isRosterRank f.src.toNat = false := hown ▸ isRosterRank_of_none hnone
  have hstranger' : (rankConflict s).isRosterRank f.src.toNat = false := by
    refine isRosterRank_of_none ?_
    unfold State.entry
    rw [hroster, hown]
    exact hnone
  have hmember : membershipTakes f s = rankConflict s := if_pos hown
  have halone (rest : List (State → State)) (h : ∀ g ∈ rest, g s = s ∧ g (rankConflict s) = rankConflict s) :
      inAnyOrder (membershipTakes f :: rest) s = rankConflict s := by
    rw [inAnyOrder_alone _ _ _ (by rw [hmember]; exact h), hmember]
  cases hc : f.content.isRequest with
  | true =>
      have htakers : takers f = [membershipTakes f, serviceTakes f] := by
        unfold takers
        cases hx : f.content <;> first | rfl | (rw [hx] at hc; exact Bool.noConfusion hc)
      rw [htakers]
      refine halone _ fun g hg => ?_
      rw [List.mem_singleton.1 hg]
      exact ⟨serviceTakes_of_own f s hown, serviceTakes_of_own f _ (hown.trans hrank.symm)⟩
  | false =>
      obtain ⟨others, hothers⟩ := memberTakers_head f.content
      have hnodup := memberTakers_nodup f.content
      rw [takers_named f hc, hothers]
      rw [hothers] at hnodup
      refine halone _ fun g hg => ?_
      obtain ⟨i, hi, rfl⟩ := List.mem_map.1 hg
      have hnot : i ≠ .membership := fun e => (List.nodup_cons.1 hnodup).1 (e ▸ hi)
      exact ⟨act_of_stranger f i s hnot hstranger, act_of_stranger f i _ hnot hstranger'⟩

/-- Settles O33: no block but the membership unit takes the frame, which sets the flag and confines the station; CONFINED, it starts
no round. -/
theorem ownRankConfines : Obligations.OwnRankConfines := by
  intro src c s hw hlisten hsrc hown hnone hc
  obtain ⟨f, hf⟩ : ∃ f, BringsFrame src c f := by
    rcases hc with hc | hc
    · obtain ⟨f, hf⟩ := memberFrame_brings hc
      exact ⟨f, hf.toBringsFrame⟩
    · obtain ⟨f, hf, _⟩ := request_brings hc
      exact ⟨f, hf⟩
  have htaken : exec c s = .next (settle s.heard (rankConflict s.heard)) := by
    rw [hf.taken hsrc hw hlisten, ownFrame_taken f s.heard hw (hf.source ▸ hown) hnone]
  refine ⟨fun hflag => ?_, fun hflag => ⟨_, htaken, ?_⟩⟩
  · rw [htaken, rankConflict_of_flag s.heard hflag, settle_same _ _ rfl]
    rfl
  · have h := rankConflict_conflicted s.heard hw hflag
    generalize rankConflict s.heard = u at h
    have hstays := settle_of_not_operating s.heard u (by rw [h.phase]; decide)
    have hbeside : (settle s.heard u).link.besideRounds = s.heard.link.besideRounds :=
      (settle_besideRounds _ _).trans h.beside
    have hrank : u.rank = s.heard.rank := by
      unfold State.rank
      rw [show u.load = s.heard.load from h.within.rest .load (by decide)]
    refine ⟨(settle_conflict _ _).trans h.conflict, (settle_phase _ _).trans h.phase, fun ho => ?_, fun hp => ?_, fun hp => ?_,
      fun hp => ?_, Link.same_of_beside (m := s.heard.link) Link.reply hbeside,
      Link.same_of_beside (m := s.heard.link) (·.counters.requestsDropped) hbeside, ?_, ?_, ?_, ?_⟩
    · obtain ⟨hoff, hround⟩ := h.operating ho
      have hleaves : LeavesRound bothPaths s.heard (settle s.heard u) :=
        h.course.leavesRound s.heard bothPaths hrank fun _ _ _ => hround
      rw [settle_charge, settle_discharge]
      exact ⟨hoff .charge, hoff .discharge, hstays.1.trans hround, hleaves⟩
    · obtain ⟨hcharge, hdischarge⟩ := h.confined hp
      have ht := (h.others (by rw [show s.heard.phase = .CONFINED from hp]; decide)).2
      simp only [settle_charge, settle_discharge, settle_trips]
      exact ⟨hcharge, hdischarge, ht⟩
    · obtain ⟨hbudget, hcounted⟩ := h.forming hp
      unfold BudgetLeavesForming AllCounted at *
      simp only [settle_trips, settle_budget_joined, settle_budget_epoch, settle_budget_count]
      exact ⟨hbudget, hcounted⟩
    · obtain ⟨hbudget, htrips⟩ := h.others hp
      simp only [settle_trips, settle_budget_epoch, settle_budget_count, hbudget, htrips]
      exact ⟨rfl, rfl, rfl⟩
    · exact (settle_restartPending _ _).trans (h.within.rest .restartPending (by decide))
    · exact (settle_roster _ _).trans (h.within.rest .roster (by decide))
    · exact (settle_conds _ _).trans (h.within.rest .conds (by decide))
    · exact (settle_stop _ _).trans (h.within.rest .stop (by decide))

end Sys2Proof.Machine
end

section
/-!
SUPPORT. Members that go LOST, by silence or by the formation timeout (R3, R48, R81, R86, R90, R91, R94).
-/
namespace Sys2Proof.Machine

/-! ### MEMBER LOST conditions by their subject (R28, R48) -/

/-- The condition set holds a MEMBER LOST condition of the subject. -/
def Conds.holdsLost (c : Conds) (r : Nat) : Prop := ∃ l ∈ c.lost, l.subject = r

/-- A MEMBER LOST condition set is the one read (R28). -/
theorem get_set_lost_self (c : Conds) (r : Nat) (v : Cond) (h : c.holdsLost r) :
    (c.set (lostCond r) v).get (lostCond r) = v := by
  show (match (c.lost.map fun l => if some l.subject == some r then { l with cond := v } else l).find?
    (fun l => some l.subject == some r) with | some l => l.cond | none => .quiet) = v
  rw [List.find?_map]
  have hsame : (fun l : LostCond => some l.subject == some r) ∘
      (fun l => if some l.subject == some r then { l with cond := v } else l) = fun l => some l.subject == some r := by
    funext l
    simp only [Function.comp_apply]
    split <;> rfl
  rw [hsame]
  cases hf : c.lost.find? fun l => some l.subject == some r with
  | none =>
      obtain ⟨l, hl, hr⟩ := h
      exact absurd (List.find?_eq_none.1 hf l hl) (by simp [hr])
  | some l =>
      have hl : l.subject = r := by simpa using List.find?_some hf
      simp [hl]

/-- A MEMBER LOST condition set leaves every other condition (R28). -/
theorem get_set_lost_other (c : Conds) (r : Nat) (v : Cond) (id : CondId) (h : id ≠ lostCond r) :
    (c.set (lostCond r) v).get id = c.get id := by
  by_cases hk : id.kind = .memberLost
  · obtain ⟨kind, subject⟩ := id
    obtain rfl : kind = .memberLost := hk
    have hsubject : some r ≠ subject := fun e => h (e ▸ rfl)
    show (match (c.lost.map fun l => if some l.subject == some r then { l with cond := v } else l).find?
      (fun l => some l.subject == subject) with | some l => l.cond | none => .quiet) =
      match c.lost.find? (fun l => some l.subject == subject) with | some l => l.cond | none => .quiet
    rw [List.find?_map]
    have hsame : (fun l : LostCond => some l.subject == subject) ∘
        (fun l => if some l.subject == some r then { l with cond := v } else l) = fun l => some l.subject == subject := by
      funext l
      simp only [Function.comp_apply]
      split <;> rfl
    rw [hsame]
    cases hf : c.lost.find? fun l => some l.subject == subject with
    | none => rfl
    | some l =>
        have hl : some l.subject = subject := by simpa using List.find?_some hf
        have hne : l.subject ≠ r := fun e => hsubject (e ▸ hl)
        simp [hne]
  · obtain ⟨kind, subject⟩ := id
    cases kind <;> first | rfl | exact absurd rfl hk

theorem holdsLost_set (c : Conds) (r q : Nat) (v : Cond) (h : c.holdsLost q) : (c.set (lostCond r) v).holdsLost q := by
  obtain ⟨l, hl, hq⟩ := h
  refine ⟨_, List.mem_map.2 ⟨l, hl, rfl⟩, ?_⟩
  split <;> exact hq

/-- The conditions once those of some subjects have tripped. -/
def Conds.tripLost (c : Conds) (rs : List Nat) : Conds := (rs.map lostCond).foldl (fun c id => c.set id .tripped) c

theorem tripLost_cons (c : Conds) (r : Nat) (rs : List Nat) :
    c.tripLost (r :: rs) = (c.set (lostCond r) .tripped).tripLost rs := rfl

theorem tripLost_get_other (rs : List Nat) (c : Conds) (id : CondId) (h : ∀ r ∈ rs, id ≠ lostCond r) :
    (c.tripLost rs).get id = c.get id := by
  induction rs generalizing c with
  | nil => rfl
  | cons r rs ih =>
      rw [tripLost_cons, ih _ fun q hq => h q (List.mem_cons_of_mem r hq),
        get_set_lost_other _ _ _ _ (h r List.mem_cons_self)]

theorem tripLost_get (rs : List Nat) (c : Conds) (r : Nat) (hr : r ∈ rs) (h : c.holdsLost r) :
    (c.tripLost rs).get (lostCond r) = .tripped := by
  induction rs generalizing c with
  | nil => exact absurd hr List.not_mem_nil
  | cons q rs ih =>
      rw [tripLost_cons]
      by_cases hin : r ∈ rs
      · exact ih _ hin (holdsLost_set c q r _ h)
      · obtain rfl : r = q := (List.mem_cons.1 hr).resolve_right hin
        rw [tripLost_get_other _ _ _ fun x hx e => hin (by injection e with _ he; injection he with he; exact he ▸ hx),
          get_set_lost_self c r _ h]

/-! ### Subjects that go LOST (R48) -/

/-- Of the subjects, those whose MEMBER LOST condition is QUIET. -/
def State.quietLost (s : State) (rs : List Nat) : List Nat :=
  rs.filter fun r => (s.conds.get (lostCond r)).state == .QUIET

theorem mem_quietLost (s : State) (rs : List Nat) (r : Nat) :
    r ∈ s.quietLost rs ↔ r ∈ rs ∧ (s.conds.get (lostCond r)).state = .QUIET := by
  unfold State.quietLost
  rw [List.mem_filter, beq_iff_eq]

theorem membersLost_eq (rs : List Nat) (s : State) :
    membersLost rs s = reportConds [] ((s.quietLost rs).map lostCond) (s.withConds (s.conds.tripLost (s.quietLost rs))) := rfl

theorem membersLost_conds (rs : List Nat) (s : State) : (membersLost rs s).conds = s.conds.tripLost (s.quietLost rs) :=
  (reportConds_within _ _ _).rest .conds (by decide)

theorem mem_map_lostCond {rs : List Nat} {r : Nat} : lostCond r ∈ rs.map lostCond ↔ r ∈ rs := by
  simp [lostCond]

/-- A condition that did not trip is as it was. -/
theorem membersLost_get_other (rs : List Nat) (s : State) (id : CondId) (h : id ∉ (s.quietLost rs).map lostCond) :
    (membersLost rs s).conds.get id = s.conds.get id := by
  rw [membersLost_conds]
  exact tripLost_get_other _ _ _ fun r hr e => h (e ▸ mem_map_lostCond.2 hr)

/-- A QUIET condition of a subject that goes LOST is TRIPPED (R48). -/
theorem membersLost_get (rs : List Nat) (s : State) (r : Nat) (hr : r ∈ rs)
    (hquiet : (s.conds.get (lostCond r)).state = .QUIET) (h : s.conds.holdsLost r) :
    (membersLost rs s).conds.get (lostCond r) = .tripped := by
  rw [membersLost_conds]
  exact tripLost_get _ _ r ((mem_quietLost s rs r).2 ⟨hr, hquiet⟩) h

/-- The conditions of subjects that go LOST trip and no other changes, and the list has their report (R9, R10, R13, R22, R31,
R48). -/
theorem membersLost_reported {s u : State} (b : State) (rs : List Nat) (hw : s.working = true) (hkeys : UniqueKeys s)
    (hheld : HeldPathsOff s) (hbefore : Beside s u) (hconds : u.conds = s.conds) (hnodup : rs.Nodup)
    (hlost : ∀ r ∈ rs, s.conds.holdsLost r) : OwnChangesReported s (settle b (membersLost rs u)) := by
  have hget (id : CondId) : (membersLost rs u).conds.get id =
      if id ∈ (u.quietLost rs).map lostCond then .tripped else s.conds.get id := by
    split
    · rename_i h
      obtain ⟨r, hr, rfl⟩ := List.mem_map.1 h
      obtain ⟨hin, hquiet⟩ := (mem_quietLost u rs r).1 hr
      exact membersLost_get rs u r hin hquiet (hconds ▸ hlost r hin)
    · rename_i h
      rw [membersLost_get_other rs u id h, hconds]
  refine ownChangesReported b [] ((u.quietLost rs).map lostCond) hw hkeys hheld
    (hbefore.trans (withConds_beside u (u.conds.tripLost (u.quietLost rs)))) (.refl (membersLost rs u))
    ((hnodup.filter _).map fun x y e => by injection e with _ he; injection he) (fun id hid => ?_) (fun id => ?_) fun id => ?_
  · obtain ⟨r, _, rfl⟩ := List.mem_map.1 hid
    exact nofun
  · unfold Trips
    rw [hget]
    constructor
    · intro hid
      obtain ⟨r, hr, rfl⟩ := List.mem_map.1 hid
      rw [if_pos hid]
      exact ⟨.inl rfl, .inl (hconds ▸ ((mem_quietLost u rs r).1 hr).2), rfl⟩
    · rintro ⟨_, hold, hnew⟩
      by_contra hid
      rw [if_neg hid] at hnew
      rcases hold with h | h <;> exact CondState.noConfusion (h.symm.trans hnew)
  · refine ⟨nofun, fun ⟨_, hold, hnew⟩ => ?_⟩
    rw [hget] at hnew
    split at hnew
    · exact CondState.noConfusion hnew
    · rcases hold with h | h <;> exact CondState.noConfusion (h.symm.trans hnew)

/-! ### The formation timeout (R90) -/

/-- The roster once every EXPECTED entry has gone LOST (R90). -/
def lostRoster (l : List Entry) : List Entry := l.map fun e => if e.status == .EXPECTED then e.goLost else e

/-- The ranks of the EXPECTED entries. -/
def expectedRanks (l : List Entry) : List Nat := (l.filter fun e => e.status == .EXPECTED).map (·.rank)

theorem formationExpired_eq (s : State) : formationExpired s =
    membersLost (expectedRanks s.roster) ((s.withRoster (lostRoster s.roster)).withFormation .stopped) := rfl

theorem exec_formationTimeout (s : State) (hw : s.working = true) (hrun : s.formation.isRunning = true) :
    exec .formationTimeout s = .next (settle s (formationExpired s)) := by
  show Host.Outcome.next (if s.working ∧ s.formation.isRunning then settle s (formationExpired s) else s) = _
  rw [if_pos ⟨hw, hrun⟩]

theorem Formed.members {s : State} (h : Formed s) (hw : s.working = true) :
    (s.roster.map (·.rank)).Nodup ∧ s.conds.lost.map (·.subject) = s.roster.map (·.rank) := by
  obtain ⟨_, _, hformed, _⟩ := h
  obtain ⟨_, _, _, hranks, hsubjects⟩ := hformed hw
  exact ⟨hranks ▸ rosterRanks_nodup _ _, hsubjects.trans hranks.symm⟩

/-- Settles O15: the timeout is one change of the roster and the report of the conditions of the ranks that were EXPECTED. -/
theorem formationTimeoutMakesLost : Obligations.FormationTimeoutMakesLost := by
  intro s hw hrun
  have hwithin := membersLost_within (expectedRanks s.roster)
    ((s.withRoster (lostRoster s.roster)).withFormation .stopped)
  refine ⟨_, exec_formationTimeout s hw hrun, ?_⟩
  rw [formationExpired_eq]
  simp only [settle_formation, settle_roster, settle_conds, settle_phase, settle_meas, settle_stop, settle_beats]
  refine ⟨hwithin.rest .formation (by decide), ?_, fun e he hexpected hquiet hl => ?_,
    fun hformed hkeys hheld => ?_, hwithin.rest .phase (by decide), hwithin.rest .meas (by decide),
    hwithin.rest .stop (by decide), hwithin.rest .beats (by decide)⟩
  · rw [show (membersLost _ _).roster = lostRoster s.roster from hwithin.rest .roster (by decide)]
    unfold lostRoster
    simp only [beq_iff_eq]
    rfl
  · refine membersLost_get _ _ e.rank (List.mem_map.2 ⟨e, List.mem_filter.2 ⟨he, ?_⟩, rfl⟩) hquiet hl
    simp [hexpected]
  · obtain ⟨hnodup, hsubjects⟩ := hformed.members hw
    refine membersLost_reported s _ hw hkeys hheld
      ⟨rfl, rfl, rfl, rfl, rfl, rfl, course_of_same rfl rfl rfl rfl rfl⟩ rfl
      (hnodup.sublist (List.filter_sublist.map _)) fun r hr => ?_
    have hr : r ∈ s.conds.lost.map (·.subject) := hsubjects ▸ (List.filter_sublist.map _).subset hr
    exact List.mem_map.1 hr

/-! ### The phase checks (R91, R93, R94) -/

theorem formed_iff (e : Entry) : e.formed = true ↔ e.status = .PRESENT ∧ e.beat.map (·.digestMatch) = some true := by
  unfold Entry.formed
  cases e.beat <;> simp

theorem mismatched_iff (e : Entry) : e.mismatched = true ↔ e.status = .PRESENT ∧ e.beat.map (·.digestMatch) = some false := by
  unfold Entry.mismatched
  cases e.beat <;> simp

/-- Every roster entry is PRESENT with digest match YES (R91). -/
def State.allFormed (s : State) : Prop := ∀ e ∈ s.roster, e.status = .PRESENT ∧ e.beat.map (·.digestMatch) = some true

/-- A PRESENT roster entry holds digest match NO (R94). -/
def State.anyMismatched (s : State) : Prop :=
  ∃ e ∈ s.roster, e.status = .PRESENT ∧ e.beat.map (·.digestMatch) = some false

theorem allFormed_iff (s : State) : s.roster.all Entry.formed = true ↔ s.allFormed := by
  simp only [List.all_eq_true, formed_iff, State.allFormed]

theorem anyMismatched_iff (s : State) : s.roster.any Entry.mismatched = true ↔ s.anyMismatched := by
  simp only [List.any_eq_true, mismatched_iff, State.anyMismatched]

/-- What the phase checks do, by the phase they find (R91, R93, R94). -/
theorem phaseChecks_eq (s : State) :
    (s.phase = .FORMING → phaseChecks s = if s.roster.all Entry.formed then changePhase .OPERATING s else s) ∧
    (s.phase = .OPERATING → phaseChecks s = if s.roster.any Entry.mismatched then changePhase .CONFINED s else s) ∧
    (s.phase = .CONFINED → phaseChecks s =
      if !s.conflict && !s.roster.any Entry.mismatched then changePhase .OPERATING s else s) := by
  refine ⟨fun h => ?_, fun h => ?_, fun h => ?_⟩
  all_goals
    unfold phaseChecks
    simp only [h]

/-- The phase after the phase checks, by the phase before (R91, R93, R94). -/
theorem phaseChecks_phase (s : State) :
    (s.phase = .FORMING → ((phaseChecks s).phase = .OPERATING ↔ s.allFormed) ∧
      ((phaseChecks s).phase = .OPERATING ∨ (phaseChecks s).phase = .FORMING)) ∧
    (s.phase = .OPERATING → ((phaseChecks s).phase = .CONFINED ↔ s.anyMismatched) ∧
      ((phaseChecks s).phase = .OPERATING ∨ (phaseChecks s).phase = .CONFINED)) ∧
    (s.phase = .CONFINED → ((phaseChecks s).phase = .OPERATING ↔ s.conflict = false ∧ ¬ s.anyMismatched) ∧
      ((phaseChecks s).phase = .OPERATING ∨ (phaseChecks s).phase = .CONFINED)) := by
  obtain ⟨hforming, hoperating, hconfined⟩ := phaseChecks_eq s
  rw [← allFormed_iff, ← anyMismatched_iff]
  refine ⟨fun h => ?_, fun h => ?_, fun h => ?_⟩
  · rw [hforming h]
    split <;> simp [*, changePhase_phase]
  · rw [hoperating h]
    split <;> simp [*, changePhase_phase]
  · have hiff : (!s.conflict && !s.roster.any Entry.mismatched) = true ↔
        s.conflict = false ∧ ¬ s.roster.any Entry.mismatched = true := by
      rw [Bool.and_eq_true, Bool.not_eq_true', Bool.not_eq_true', Bool.not_eq_true]
    rw [hconfined h, ← hiff]
    split <;> simp [*, changePhase_phase]

/-- The phase checks leave the list but for the counted marks (R128). -/
theorem phaseChecks_records (s : State) :
    ∃ leaves, (phaseChecks s).trips.records = s.trips.records.map (countCurrent leaves) := by
  rcases phaseChecks_cases s with h | ⟨p, _, _, _, _, h⟩
  · refine ⟨false, ?_⟩
    have hid : countCurrent false = id := by
      funext r
      simp [countCurrent]
    rw [h, hid, List.map_id]
  · exact ⟨_, by rw [h, changePhase_trips]⟩

/-! ### A silent member (R81, R86) -/

/-- The station once an entry has gone LOST by silence, before the phase checks. -/
def silenced (r : Nat) (s : State) : State :=
  markStale r true (membersLost [r] (s.withRoster (updateEntry r Entry.goLost s.roster)))

theorem entryLost_eq (r : Nat) (s : State) : entryLost r s = phaseChecks (silenced r s) := rfl

theorem exec_silenceTimerExpiry (r : Nat) (e : Entry) (s : State) (hw : s.working = true) (he : s.entry r = some e)
    (hpresent : e.status = .PRESENT) (hrun : e.silence.isRunning = true) :
    exec (.silenceTimerExpiry r) s = .next (settle s (entryLost r s)) := by
  show Host.Outcome.next (match s.entry r with
    | some e => if s.working ∧ e.status = EntryStatus.PRESENT ∧ e.silence.isRunning then settle s (entryLost r s) else s
    | none => s) = _
  rw [he]
  exact congrArg _ (if_pos ⟨hw, hpresent, hrun⟩)

theorem silenced_within (r : Nat) (s : State) : Within (.roster :: condReach) s (silenced r s) :=
  ((withRoster_within s _).mono (by decide)).trans
    (((membersLost_within [r] _).mono (by decide)).trans ((withTrips_within _ _).mono (by decide)))

theorem silenced_roster (r : Nat) (s : State) : (silenced r s).roster = updateEntry r Entry.goLost s.roster := by
  have h : (membersLost [r] (s.withRoster (updateEntry r Entry.goLost s.roster))).roster =
      (s.withRoster (updateEntry r Entry.goLost s.roster)).roster :=
    (membersLost_within [r] (s.withRoster (updateEntry r Entry.goLost s.roster))).rest .roster (by decide)
  unfold silenced markStale
  rw [State.withTrips_roster, h, State.withRoster_roster]

theorem silenced_conds (r : Nat) (s : State) :
    (silenced r s).conds = (membersLost [r] (s.withRoster (updateEntry r Entry.goLost s.roster))).conds := by
  unfold silenced markStale
  rw [State.withTrips_conds]

/-- An entry updated under its own rank is the one found there. -/
theorem find_updateEntry {s : State} {r : Nat} {e : Entry} (g : Entry → Entry) (hg : ∀ x, (g x).rank = x.rank)
    (he : s.entry r = some e) : (updateEntry r g s.roster).find? (fun x => x.rank == r) = some (g e) := by
  have hsame : (fun x : Entry => x.rank == r) ∘ (fun x => if x.rank == r then g x else x) = fun x => x.rank == r := by
    funext x
    simp only [Function.comp_apply]
    split
    · rw [hg]
    · rfl
  have hr : e.rank = r := State.entry_some_rank he
  unfold updateEntry
  rw [List.find?_map, hsame, show s.roster.find? (fun x => x.rank == r) = some e from he]
  simp [hr]

/-- A PRESENT entry that holds digest match NO after the silence of `r` held it before, and is another's. -/
theorem silenced_anyMismatched (r : Nat) (s : State) : (silenced r s).anyMismatched ↔
    ∃ x ∈ s.roster, x.rank ≠ r ∧ x.status = .PRESENT ∧ x.beat.map (·.digestMatch) = some false := by
  unfold State.anyMismatched
  rw [silenced_roster, updateEntry_eq]
  constructor
  · rintro ⟨y, hy, hpresent, hno⟩
    obtain ⟨x, hx, rfl⟩ := List.mem_map.1 hy
    by_cases hr : x.rank = r
    · rw [if_pos hr] at hpresent
      exact EntryStatus.noConfusion hpresent
    · rw [if_neg hr] at hpresent hno
      exact ⟨x, hx, hr, hpresent, hno⟩
  · rintro ⟨x, hx, hr, hpresent, hno⟩
    exact ⟨x, List.mem_map.2 ⟨x, hx, if_neg hr⟩, hpresent, hno⟩

theorem silenced_not_formed {r : Nat} {e : Entry} {s : State} (he : s.entry r = some e) : ¬ (silenced r s).allFormed := by
  intro h
  have hfound := find_updateEntry Entry.goLost (fun _ => rfl) he
  obtain ⟨hpresent, _⟩ := h e.goLost (by rw [silenced_roster]; exact List.mem_of_find?_eq_some hfound)
  exact EntryStatus.noConfusion hpresent

/-- The trip of a silent member's MEMBER LOST condition, reported (R9, R22, R48, R116). -/
theorem membersLost_one_report (r : Nat) (s : State) (hquiet : (s.conds.get (lostCond r)).state = .QUIET) :
    OwnReport [lostCond r] (s.withConds (s.conds.tripLost [r])) (membersLost [r] s) := by
  have hids : s.quietLost [r] = [r] := by simp [State.quietLost, hquiet]
  obtain ⟨order, hperm, h⟩ := reportConds_report [] [lostCond r] (s.withConds (s.conds.tripLost [r]))
    (List.nodup_singleton _) fun id hid => by rw [List.mem_singleton.1 hid]; exact nofun
  rw [membersLost_eq, hids]
  exact List.perm_singleton.1 hperm ▸ h

theorem membersLost_course (rs : List Nat) (s : State) (hnodup : rs.Nodup) : Course s (membersLost rs s) := by
  obtain ⟨order, _, h⟩ := reportConds_report [] ((s.quietLost rs).map lostCond)
    (s.withConds (s.conds.tripLost (s.quietLost rs)))
    ((hnodup.filter _).map fun x y e => by injection e with _ he; injection he) fun id hid => by
      obtain ⟨r, _, rfl⟩ := List.mem_map.1 hid
      exact nofun
  exact (withConds_beside _ _).course.trans h.course

/-- A record as the silence of `r` leaves it: stale where it is of that origin, and counted where the station leaves FORMING
(R3, R128). -/
def silentRecord (r : Nat) (leaves : Bool) (x : Record) : Record :=
  { x with stale := x.stale || x.origin == r, counted := x.counted || (leaves && x.kind.currentClass) }

theorem entryLost_records (r : Nat) (s : State) : ∃ leaves, (entryLost r s).trips.records =
    (membersLost [r] (s.withRoster (updateEntry r Entry.goLost s.roster))).trips.records.map (silentRecord r leaves) := by
  obtain ⟨leaves, h⟩ := phaseChecks_records (silenced r s)
  refine ⟨leaves, ?_⟩
  have hmark : (fun x => countCurrent leaves (if x.origin == r then { x with stale := true } else x)) =
      silentRecord r leaves := by
    funext x
    unfold countCurrent silentRecord
    cases x.origin == r <;> simp
  rw [entryLost_eq, h, ← hmark]
  exact List.map_map ..

/-- A silent member's QUIET MEMBER LOST condition trips, with its record, its open commands and its departure (R48, R86, R116). -/
theorem entryLost_trips (b : State) (r : Nat) (s : State) (hheld : HeldPathsOff s)
    (hquiet : (s.conds.get (lostCond r)).state = .QUIET) :
    (∃ x, findRecord s.rank .memberLost (some r) (entryLost r s).trips.records = some x ∧ x.phase = .ACTIVE ∧
      x.tripId = s.trips.nextId ∧ x.paths = bothPaths) ∧
    (∀ p, ((entryLost r s).switch p).isOff) ∧ LeavesRound bothPaths s (settle b (entryLost r s)) := by
  have hreport := membersLost_one_report r (s.withRoster (updateEntry r Entry.goLost s.roster)) hquiet
  obtain ⟨leaves, hrecords⟩ := entryLost_records r s
  have hafter : Course (membersLost [r] (s.withRoster (updateEntry r Entry.goLost s.roster))) (entryLost r s) :=
    (withTrips_course _ _).trans (phaseChecks_course _)
  have hcourse : Course s (entryLost r s) :=
    ((course_of_same (s := s) (t := s.withRoster (updateEntry r Entry.goLost s.roster)) rfl rfl rfl rfl rfl).trans
      (membersLost_course [r] _ (List.nodup_singleton r))).trans hafter
  refine ⟨?_, fun p => ?_, hcourse.leavesRound b bothPaths (entryLost_reach r s).rank fun x hx hmet => ?_⟩
  · have hfound := hreport.found 0 _ rfl
    generalize hx : reportedRecord _ (lostCond r) _ = x at hfound
    refine ⟨silentRecord r leaves x, ?_, hx ▸ rfl, hx ▸ rfl, hx ▸ rfl⟩
    rw [hrecords]
    exact (find_map_of_key _ (silentRecord r leaves) (fun _ => rfl) _).trans (congrArg _ hfound)
  · have hoff := hreport.off hheld.list (lostCond r) (List.mem_singleton.2 rfl) p (by cases p <;> rfl)
    exact hafter.keeps_isOff p hoff
  · exact hafter.keeps_idle (hreport.idle (lostCond r) (List.mem_singleton.2 rfl) x hx hmet)

/-- Settles O14: the entry's change, the report of its condition, the stale marks and the phase checks, one after the other. -/
theorem silenceMakesLost : Obligations.SilenceMakesLost := by
  intro r e s hw hheld he hpresent hrun _
  have hwithin := entryLost_within r s
  have hsilenced := silenced_within r s
  have hrest : Within ([.phase, .formation] ++ listReach) (silenced r s) (entryLost r s) := phaseChecks_within _
  have hphase : (silenced r s).phase = s.phase := hsilenced.rest .phase (by decide)
  have hconflict : (silenced r s).conflict = s.conflict := hsilenced.rest .conflict (by decide)
  obtain ⟨hforming, hoperating, hconfined⟩ := phaseChecks_phase (silenced r s)
  rw [hphase, ← entryLost_eq] at hforming hoperating hconfined
  refine ⟨_, exec_silenceTimerExpiry r e s hw he hpresent hrun, ?_⟩
  simp only [settle_trips, settle_conds, settle_charge, settle_discharge, settle_phase, settle_conflict, settle_meas,
    settle_stop, settle_beats, settle_cfg]
  refine ⟨?_, fun x hx horigin => ?_, fun hquiet hl => ⟨?_, ?_⟩, fun hp => ?_, fun hp hformed => ?_, fun hp => ⟨?_, ?_⟩,
    hwithin.rest .conflict (by decide), hwithin.rest .meas (by decide), hwithin.rest .stop (by decide),
    hwithin.rest .beats (by decide), hwithin.rest .cfg (by decide)⟩
  · unfold State.entry
    rw [settle_roster, show (entryLost r s).roster = (silenced r s).roster from hrest.rest .roster (by decide),
      silenced_roster]
    exact find_updateEntry Entry.goLost (fun _ => rfl) he
  · obtain ⟨leaves, h⟩ := entryLost_records r s
    rw [h] at hx
    obtain ⟨y, _, rfl⟩ := List.mem_map.1 hx
    have hy : y.origin = r := horigin
    simp [silentRecord, hy]
  · rw [show (entryLost r s).conds = (silenced r s).conds from hrest.rest .conds (by decide), silenced_conds]
    exact membersLost_get [r] _ r (List.mem_singleton.2 rfl) hquiet hl
  · obtain ⟨hrecord, hoff, hleaves⟩ := entryLost_trips s r s hheld hquiet
    exact ⟨hrecord, hoff .charge, hoff .discharge, hleaves⟩
  · exact (hforming hp).2.resolve_left fun h => silenced_not_formed he ((hforming hp).1.1 h)
  · refine (hoperating hp).2.resolve_right fun h => ?_
    obtain ⟨x, hx, _, hmismatch⟩ := (silenced_anyMismatched r s).1 ((hoperating hp).1.1 h)
    exact hformed.2.2.2 hp x hx hmismatch
  · rw [(hconfined hp).1, hconflict, silenced_anyMismatched]
    push Not
    rfl
  · exact (hconfined hp).2

end Sys2Proof.Machine
end

section
/-!
SUPPORT. The beat-period event (R43 to R46, R66, R67, R77, R78, R172, R175, R203): what the frames of an evaluation do to the link,
the tests of the pack kinds, and the beat built before or after them.
-/
namespace Sys2Proof.Machine

/-! ### Frames joining the link -/

/-- What is being sent goes on from `l` to `m`, unless it was a round frame that a full slot lost, which is then cut off; the round
slot does not shrink (R172, R174). -/
structure Link.SendsOn (l m : Link) : Prop where
  grows : l.rounds.length ≤ m.rounds.length
  sent : (m.sending = l.sending ∧ m.cut = l.cut ∧ m.midCharacter = l.midCharacter ∧ m.quiet = l.quiet) ∨
    (l.sending = some .round ∧ 2 ≤ m.rounds.length ∧ m.sending = none ∧ m.cut = true ∧ m.midCharacter = true ∧ m.quiet = 0)

theorem Link.SendsOn.trans {l m k : Link} (h : l.SendsOn m) (g : m.SendsOn k) : l.SendsOn k := by
  refine ⟨h.grows.trans g.grows, ?_⟩
  rcases g.sent with ⟨s2, c2, m2, q2⟩ | ⟨hround, hfull, hcut⟩
  · rcases h.sent with ⟨s1, c1, m1, q1⟩ | ⟨hround, hfull, s1, c1, m1, q1⟩
    · exact .inl ⟨s2.trans s1, c2.trans c1, m2.trans m1, q2.trans q1⟩
    · exact .inr ⟨hround, hfull.trans g.grows, s2.trans s1, c2.trans c1, m2.trans m1, q2.trans q1⟩
  · rcases h.sent with ⟨s1, _⟩ | ⟨_, _, s1, _⟩
    · exact .inr ⟨s1.symm.trans hround, hfull, hcut⟩
    · exact absurd (s1.symm.trans hround) nofun

/-- The link as frames other than beats have joined its queues: the beat slot stays (R173, R174). -/
structure Link.Joined (l m : Link) : Prop extends Link.SendsOn l m where
  beat : m.beat = l.beat

/-- Frames have joined and nothing being sent was touched. -/
theorem Link.Joined.of_same {l m : Link} (hrounds : m.rounds = l.rounds) (hsending : m.sending = l.sending)
    (hcut : m.cut = l.cut) (hmid : m.midCharacter = l.midCharacter) (hquiet : m.quiet = l.quiet) (hbeat : m.beat = l.beat) :
    l.Joined m :=
  ⟨⟨Nat.le_of_eq (congrArg List.length hrounds.symm), .inl ⟨hsending, hcut, hmid, hquiet⟩⟩, hbeat⟩

theorem Link.Joined.refl (l : Link) : l.Joined l := .of_same rfl rfl rfl rfl rfl rfl

theorem Link.Joined.of_eq {l m : Link} (h : m = l) : l.Joined m := h ▸ .refl l

theorem Link.Joined.trans {l m k : Link} (h : l.Joined m) (g : m.Joined k) : l.Joined k :=
  ⟨h.toSendsOn.trans g.toSendsOn, g.beat.trans h.beat⟩

theorem Link.queueRound_joined (l : Link) (dst : Byte) (c : Content) : l.Joined (l.queueRound dst c) := by
  unfold Link.queueRound
  split
  · exact ⟨⟨by simp, .inl ⟨rfl, rfl, rfl, rfl⟩⟩, rfl⟩
  · rename_i hfull
    have hlength (n : Nat) (hn : n ≤ l.rounds.length) (rest : List TxFrame) (hrest : rest = l.rounds) :
        n ≤ (rest.drop 1 ++ [TxFrame.new dst c]).length := by
      rw [hrest, List.length_append, List.length_drop, List.length_singleton]
      omega
    unfold Link.cutOff
    split
    · rename_i hs
      exact ⟨⟨hlength _ (Nat.le_refl _) _ rfl, .inr ⟨hs, hlength 2 (by omega) _ rfl, rfl, rfl, rfl, rfl⟩⟩, rfl⟩
    · exact ⟨⟨hlength _ (Nat.le_refl _) _ rfl, .inl ⟨rfl, rfl, rfl, rfl⟩⟩, rfl⟩

theorem Link.queueNotice_joined (l : Link) (c : Content) : l.Joined (l.queueNotice c) := by
  unfold Link.queueNotice
  split <;> exact .of_same rfl rfl rfl rfl rfl rfl

/-- What a report of own conditions does of what a beat tells and of the link: frames join, and last closer and list-full flag stay. -/
structure Departs (s t : State) : Prop where
  link : s.link.Joined t.link
  lastCloser : t.reclose.lastCloser = s.reclose.lastCloser
  full : t.trips.full = s.trips.full

theorem Departs.refl (s : State) : Departs s s := ⟨.refl _, rfl, rfl⟩

theorem Departs.trans {s t u : State} (h : Departs s t) (g : Departs t u) : Departs s u :=
  ⟨h.link.trans g.link, g.lastCloser.trans h.lastCloser, g.full.trans h.full⟩

theorem endRound_lastCloser (r : Round) (s : State) : (endRound r s).reclose.lastCloser = s.reclose.lastCloser :=
  (forPaths_keeps (·.reclose.lastCloser) r.paths startHoldOff (fun p _ => by cases p <;> rfl) _).trans
    (congrArg Reclose.lastCloser (openClosedSet_same r s).1)

theorem leaveRound_departs (s : State) : Departs s (leaveRound s) := by
  refine ⟨?_, ?_, by rw [leaveRound_trips]⟩
  · unfold leaveRound
    split
    · exact .refl _
    · rename_i r _
      have hkeep (u : State) : u.link.Joined ((endRound r (rememberLeft r u)).count Counters.abandoned).link := by
        have hlink : (endRound r (rememberLeft r u)).link = u.link := by
          rw [endRound_link]
          unfold rememberLeft
          split <;> rfl
        exact (Link.Joined.of_eq hlink).trans (.of_same rfl rfl rfl rfl rfl rfl)
      refine Link.Joined.trans ?_ (hkeep _)
      split
      · exact s.link.queueRound_joined 0 _
      · exact .refl _
  · unfold leaveRound
    split
    · rfl
    · refine (endRound_lastCloser _ _).trans ?_
      unfold rememberLeft
      split <;> split <;> rfl

theorem openPath_departs (p : Path) (s : State) : Departs s (openPath p s) := by
  have hset : Departs s (s.setSwitch p (s.switch p).openCommand) := by
    cases p <;> exact ⟨.refl _, rfl, rfl⟩
  rcases openPath_eq p s with e | e
  · exact e ▸ hset
  · rw [e]
    unfold afterOpen
    split
    · exact hset
    · split
      · exact hset.trans (leaveRound_departs _)
      · exact hset

theorem takeOffers_departs (ch : Change) (s : State) : Departs s (takeOffers ch s) := by
  unfold takeOffers
  split <;> exact ⟨.refl _, rfl, rfl⟩

theorem listReport_departs (ch : Change) (s : State) : Departs s (listReport ch s) := by
  have hopen : Departs s (forPaths (newlyBlocked ch.before (takeOffers ch s).trips.records) openPath (takeOffers ch s)) := by
    unfold forPaths
    simp only
    split <;> split
    · exact ((takeOffers_departs ch s).trans (openPath_departs _ _)).trans (openPath_departs _ _)
    · exact (takeOffers_departs ch s).trans (openPath_departs _ _)
    · exact (takeOffers_departs ch s).trans (openPath_departs _ _)
    · exact takeOffers_departs ch s
  unfold listReport
  simp only
  split
  · exact hopen
  · split
    · exact hopen.trans (leaveRound_departs _)
    · exact hopen

theorem activateOwn_departs (id : CondId) (s : State) : Departs s (activateOwn id s) :=
  ⟨s.link.queueNotice_joined _, rfl, rfl⟩

theorem activateAll_departs (ids : List CondId) (s : State) : Departs s (activateAll ids s) := by
  induction ids generalizing s with
  | nil => exact .refl s
  | cons id ids ih => exact (activateOwn_departs id s).trans (ih _)

theorem reportConds_departs (cleared tripped : List CondId) (s : State) : Departs s (reportConds cleared tripped s) := by
  obtain ⟨order, m, _, heq⟩ := reportConds_eq cleared tripped s
  rw [heq]
  refine Departs.trans ?_ (listReport_departs _ _)
  exact Departs.trans (t := ownCleared cleared m s) ⟨.refl _, rfl, rfl⟩ (activateAll_departs order _)

/-- The closing checks queue a PROPOSE at most (R102, R105). -/
theorem settle_joined (b s : State) : s.link.Joined (settle b s).link := by
  have hlink : (quietRetest (packEdge b .discharge (packEdge b .charge s))).link = s.link := by
    unfold quietRetest packEdge
    repeat' split
    all_goals rfl
  unfold settle
  split
  · exact .refl _
  · unfold startTest
    split
    · exact (Link.Joined.of_eq hlink).trans (Link.queueRound_joined _ 0 _)
    · exact .of_eq hlink

/-! ### A beat placed in the slot (R175) -/

theorem placeBeat_slot (l : Link) (c : Content) : (l.placeBeat c).beat = some (TxFrame.new 0 c) := rfl

theorem cutOff_of_sending (l : Link) (k : TxClass) (h : l.sending = some k) :
    l.cutOff k = { l with sending := none, cut := true, midCharacter := true, quiet := 0 } := if_pos h

theorem cutOff_of_other (l : Link) (k : TxClass) (h : l.sending ≠ some k) : l.cutOff k = l := if_neg h

theorem placeBeat_of_cut (l : Link) (c : Content) (hbeat : l.beat ≠ none) (hsend : l.sending = some .beat) :
    l.placeBeat c = { l with beat := some (TxFrame.new 0 c), sending := none, cut := true, midCharacter := true, quiet := 0 } := by
  have hsome : l.beat.isSome = true := Option.isSome_iff_ne_none.2 hbeat
  unfold Link.placeBeat
  simp only [hsome, if_true, cutOff_of_sending l .beat hsend]

theorem placeBeat_of_whole (l : Link) (c : Content) (h : l.beat = none ∨ l.sending ≠ some .beat) :
    l.placeBeat c = { l with beat := some (TxFrame.new 0 c) } := by
  unfold Link.placeBeat
  rcases h with h | h
  · simp [h]
  · simp [cutOff_of_other l .beat h]

theorem placeBeat_rounds (l : Link) (c : Content) : (l.placeBeat c).rounds = l.rounds ∧
    (l.placeBeat c).notices = l.notices ∧ (l.placeBeat c).counters = l.counters := by
  by_cases h : l.beat = none ∨ l.sending ≠ some .beat
  · rw [placeBeat_of_whole l c h]
    exact ⟨rfl, rfl, rfl⟩
  · rw [not_or, not_not] at h
    rw [placeBeat_of_cut l c h.1 h.2]
    exact ⟨rfl, rfl, rfl⟩

/-- A beat placed while other frames join before and after: one being sent in its slot is cut off, and else what is being sent goes
on, unless a full round slot loses it (R172, R174, R175). -/
theorem placeBeat_sent {l a m : Link} (c : Content) (h : l.Joined a) (g : (a.placeBeat c).Joined m) :
    (l.beat ≠ none → l.sending = some .beat →
      m.sending = none ∧ m.cut = true ∧ m.midCharacter = true ∧ m.quiet = 0) ∧
    (l.beat = none ∨ l.sending ≠ some .beat →
      m.sending = l.sending ∧ m.cut = l.cut ∧ m.midCharacter = l.midCharacter ∧ m.quiet = l.quiet ∨
      l.sending = some .round ∧ 2 ≤ m.rounds.length ∧ m.sending = none ∧ m.cut = true ∧ m.midCharacter = true ∧
        m.quiet = 0) := by
  refine ⟨fun hbeat hsend => ?_, fun hwhole => ?_⟩
  · have hsame : a.sending = some .beat := by
      rcases h.sent with ⟨e, _⟩ | ⟨e, _⟩
      · exact e.trans hsend
      · exact absurd (hsend.symm.trans e) nofun
    rw [placeBeat_of_cut a c (h.beat ▸ hbeat) hsame] at g
    rcases g.sent with e | ⟨e, _⟩
    · exact e
    · exact absurd e nofun
  · have hkept : a.beat = none ∨ a.sending ≠ some .beat := by
      rcases h.sent with ⟨e, _⟩ | ⟨_, _, e, _⟩
      · rw [h.beat, e]
        exact hwhole
      · exact .inr (by rw [e]; exact nofun)
    rw [placeBeat_of_whole a c hkept] at g
    exact (h.toSendsOn.trans (m := a) ⟨g.grows, g.sent⟩).sent

end Sys2Proof.Machine
end

section
/-!
SUPPORT. The pack kinds at a beat-period event (R43 to R46): the tests, what they report, and the lower median.
-/
namespace Sys2Proof.Machine

/-! ### The tests of the pack kinds (R44, R45) -/

theorem onBeat_telling (confirm : Nat) (pass recovers : Bool) : Telling (Cond.onBeat confirm pass recovers) := by
  refine .of_delayed confirm pass (fun c h => ?_) fun c h => ?_
  · unfold Cond.onBeat
    rcases h with h | h <;> rw [h]
  · unfold Cond.onBeat
    rcases h with h | h
    · by_cases hlast : c.count + 1 = confirm <;> cases recovers <;> simp [h, hlast, Cond.quiet]
    · simp [h, Cond.delayed]

theorem notEvaluated_telling : Telling fun c => (c.notEvaluated, .none) := by
  refine ⟨fun c => ⟨nofun, fun h => ?_⟩, fun c => ⟨nofun, fun h => ?_⟩⟩
  · obtain ⟨hfrom | hfrom, hto⟩ := h
    · simp [Cond.notEvaluated, hfrom] at hto
    · simp [Cond.notEvaluated, hfrom, Cond.quiet] at hto
  · obtain ⟨hfrom | hfrom, hto⟩ := h <;> simp [Cond.notEvaluated, hfrom] at hto

theorem onBeat_moves {confirm : Nat} {pass recovers : Bool} {trips ends : Prop} (ht : pass = true ↔ trips)
    (hr : recovers = true ↔ ends) (c : Cond) : BeatMoves confirm trips ends c (Cond.onBeat confirm pass recovers c).1 := by
  obtain rfl := propext hr
  refine ⟨delayed_moves ht fun h => ?_, fun h => ⟨fun hstays => ?_, fun hends hlast => ?_, fun hends hmore => ?_⟩⟩
  · unfold Cond.onBeat
    rcases h with h | h <;> rw [h]
  · simp [Cond.onBeat, h, hstays]
  · simp [Cond.onBeat, h, hends, hlast, Cond.quiet]
  · simp [Cond.onBeat, h, hends, hmore]

theorem notEvaluated_moves (c : Cond) : NotEvaluatedMoves c c.notEvaluated :=
  ⟨fun h => by simp [Cond.notEvaluated, h], fun h => by simp [Cond.notEvaluated, h, Cond.quiet],
    fun h => by simp [Cond.notEvaluated, h]⟩

/-- What a beat-period event makes of IMBALANCE (R44, R46). -/
def imbalanceMove (s : State) : Cond → Cond × CondEvent :=
  match s.imbalanceDeviation with
  | none => fun c => (c.notEvaluated, .none)
  | some d => Cond.onBeat s.cfg.imbalanceConfirm (imbalanceTrips s.cfg d) (imbalanceRecovers s.cfg d)

/-- What a beat-period event makes of SENSE MISMATCH (R45, R46). -/
def mismatchMove (s : State) : Cond → Cond × CondEvent :=
  match s.mismatchDifference with
  | none => fun c => (c.notEvaluated, .none)
  | some d => Cond.onBeat s.cfg.mismatchConfirm (mismatchTrips s.cfg d) (!mismatchTrips s.cfg d)

/-- The evaluation of IMBALANCE kept for CLEAR TRIPPED after a beat-period event (R52; log entry 25). -/
def imbalanceKept (s : State) : Option (Nat × Nat) :=
  match s.imbalanceDeviation with
  | none => s.conds.imbalanceEval
  | some d => if s.conds.imbalance.state = .TRIPPED then some d else none

/-- The evaluation of SENSE MISMATCH kept for CLEAR TRIPPED after a beat-period event (R52; log entry 25). -/
def mismatchKept (s : State) : Option Nat :=
  match s.mismatchDifference with
  | none => s.conds.mismatchEval
  | some d => if s.conds.senseMismatch.state = .TRIPPED then some d else none

/-- The two pack kinds' tests, in the order they are made. -/
def packTests (s : State) : List CondTest :=
  [{ kind := .imbalance, move := imbalanceMove s }, { kind := .senseMismatch, move := mismatchMove s }]

/-- Conditions with other evaluations kept. -/
def Conds.keeping (c : Conds) (i : Option (Nat × Nat)) (m : Option Nat) : Conds :=
  { c with imbalanceEval := i, mismatchEval := m }

/-- The evaluations kept are no part of a condition. -/
theorem Conds.get_keeping (c : Conds) (i : Option (Nat × Nat)) (m : Option Nat) (id : CondId) :
    (c.keeping i m).get id = c.get id := rfl

theorem imbalanceMove_telling (s : State) : Telling (imbalanceMove s) := by
  unfold imbalanceMove
  split
  · exact notEvaluated_telling
  · exact onBeat_telling _ _ _

theorem mismatchMove_telling (s : State) : Telling (mismatchMove s) := by
  unfold mismatchMove
  split
  · exact notEvaluated_telling
  · exact onBeat_telling _ _ _

theorem packTests_kinds (s : State) : (packTests s).map CondTest.kind = [.imbalance, .senseMismatch] := rfl

theorem packTests_own (s : State) : OwnTests (packTests s) := by
  refine ownTests_of_kinds (packTests_kinds s) (by decide) (by decide) (by decide) fun x hx => ?_
  simp only [packTests, List.mem_cons, List.not_mem_nil, or_false] at hx
  rcases hx with rfl | rfl
  · exact imbalanceMove_telling s
  · exact mismatchMove_telling s

/-- The outcome of the pack kinds' evaluation: the tests', with the evaluations kept. -/
def packEvaluated (s : State) : Evaluated :=
  { s.evaluating.joinAll (packTests s) with
    conds := (s.evaluating.joinAll (packTests s)).conds.keeping (imbalanceKept s) (mismatchKept s) }

theorem joinImbalance_eq (s : State) : joinImbalance s s.evaluating =
    { s.evaluating.join (ownCond .imbalance) (imbalanceMove s) with
      conds := (s.evaluating.join (ownCond .imbalance) (imbalanceMove s)).conds.keeping (imbalanceKept s)
        s.conds.mismatchEval } := by
  unfold joinImbalance imbalanceMove imbalanceKept
  cases s.imbalanceDeviation with
  | none => rfl
  | some d =>
      simp only [Evaluated.join_conds]
      rfl

/-- Joining a result leaves the evaluations kept, and goes by the condition alone. -/
theorem join_keeping (f : Cond → Cond × CondEvent) (e : Evaluated) (i : Option (Nat × Nat)) (m : Option Nat) :
    ({ e with conds := e.conds.keeping i m } : Evaluated).join (ownCond .senseMismatch) f =
      { e.join (ownCond .senseMismatch) f with conds := (e.join (ownCond .senseMismatch) f).conds.keeping i m } := by
  unfold Evaluated.join
  rw [Conds.get_keeping]
  rcases f (e.conds.get (ownCond .senseMismatch)) with ⟨c, _ | _ | _⟩ <;> rfl

theorem joinMismatch_eq (s : State) (e : Evaluated) (i : Option (Nat × Nat))
    (he : e.conds.senseMismatch = s.conds.senseMismatch) :
    joinMismatch s { e with conds := e.conds.keeping i s.conds.mismatchEval } =
      { e.join (ownCond .senseMismatch) (mismatchMove s) with
        conds := (e.join (ownCond .senseMismatch) (mismatchMove s)).conds.keeping i (mismatchKept s) } := by
  unfold joinMismatch mismatchMove mismatchKept
  cases s.mismatchDifference with
  | none => exact join_keeping _ e i _
  | some d =>
      simp only [join_keeping]
      rw [← he]
      rfl

theorem packEvaluated_eq (s : State) : joinMismatch s (joinImbalance s s.evaluating) = packEvaluated s := by
  rw [joinImbalance_eq]
  refine joinMismatch_eq s _ _ ?_
  rw [Evaluated.join_conds]
  rfl

theorem packEvaluated_conds (s : State) : (packEvaluated s).conds = { s.conds with
    imbalance := (imbalanceMove s s.conds.imbalance).1, senseMismatch := (mismatchMove s s.conds.senseMismatch).1
    imbalanceEval := imbalanceKept s, mismatchEval := mismatchKept s } := by
  unfold packEvaluated
  simp only [joinAll_conds]
  rfl

/-- The evaluation of the pack kinds is the report of its outcome. -/
theorem evaluatePack_eq (s : State) : evaluatePack s =
    reportConds (packEvaluated s).cleared (packEvaluated s).tripped (s.withConds (packEvaluated s).conds) := by
  unfold evaluatePack
  rw [packEvaluated_eq]
  rfl

theorem packEvaluated_tripped (s : State) : (packEvaluated s).tripped = tellers .trip (packTests s) s.conds :=
  joinAll_tripped (packTests_own s) s

theorem packEvaluated_tripped_nodup (s : State) : (packEvaluated s).tripped.Nodup := by
  rw [packEvaluated_tripped]
  exact tellers_nodup _ _ (packTests_own s) _

/-- Neither HOLD nor a kind of the current class trips by the evaluation of the pack kinds (R29). -/
theorem packEvaluated_tripped_kind (s : State) (id : CondId) (h : id ∈ (packEvaluated s).tripped) :
    id.kind ≠ .hold ∧ id.kind.currentClass = false := by
  rw [packEvaluated_tripped, mem_tellers] at h
  obtain ⟨x, hx, _, rfl⟩ := h
  have hkind : x.kind ∈ [Kind.imbalance, Kind.senseMismatch] := packTests_kinds s ▸ List.mem_map_of_mem hx
  simp only [List.mem_cons, List.not_mem_nil, or_false] at hkind
  rcases hkind with e | e
  all_goals
    show x.kind ≠ .hold ∧ x.kind.currentClass = false
    rw [e]
    decide

theorem packEvaluated_told {c s w : State} (hold : c.conds = s.conds) (hw : w.conds = (packEvaluated c).conds) (id : CondId) :
    (id ∈ (packEvaluated c).tripped ↔ Trips s w id) ∧ (id ∈ (packEvaluated c).cleared ↔ Recovers s w id) := by
  have hbare : (w.withConds (c.evaluating.joinAll (packTests c)).conds).conds =
      (c.evaluating.joinAll (packTests c)).conds := rfl
  have htrips := mem_tripped_iff (packTests_own c) hbare id
  have hclears := mem_cleared_iff (packTests_own c) hbare id
  rw [trips_iff] at htrips ⊢
  rw [recovers_iff] at hclears ⊢
  rw [hw, ← hold]
  exact ⟨htrips, hclears⟩

/-! ### The members' values (R43 to R45) -/

theorem reportingMembers_eq (s : State) : s.reportingMembers = ReportingBeats s := by
  unfold State.reportingMembers ReportingBeats
  refine List.filterMap_congr fun e _ => ?_
  unfold Entry.reporting
  cases e.status <;> cases hb : e.beat <;> simp
  rename_i b
  cases b.phase <;> simp [Phase.working]

theorem insertInt_eq (x : Int) (l : List Int) : insertInt x l = l.orderedInsert (· ≤ ·) x := by
  induction l with
  | nil => rfl
  | cons y ys ih =>
      rw [List.orderedInsert_cons, ← ih]
      rfl

theorem sortInt_eq (l : List Int) : sortInt l = l.insertionSort (· ≤ ·) := by
  induction l with
  | nil => rfl
  | cons x xs ih =>
      rw [List.insertionSort_cons, ← ih, ← insertInt_eq]
      rfl

/-- In a list in order, the value at a position has at most that many below it, and more at or below it. -/
theorem sorted_counts (l : List Int) (hsorted : l.Pairwise (· ≤ ·)) (i : Nat) (hi : i < l.length) :
    (l.filter (· < l[i])).length ≤ i ∧ i < (l.filter (· ≤ l[i])).length := by
  have hdrop : ∀ x ∈ l.drop i, l[i] ≤ x := by
    intro x hx
    obtain ⟨j, hj, rfl⟩ := List.mem_iff_getElem.1 hx
    rw [List.getElem_drop]
    rcases Nat.eq_zero_or_pos j with rfl | hpos
    · exact le_refl _
    · exact List.pairwise_iff_getElem.1 hsorted _ _ _ _ (by omega)
  have htake : ∀ x ∈ l.take (i + 1), x ≤ l[i] := by
    intro x hx
    obtain ⟨j, hj, rfl⟩ := List.mem_iff_getElem.1 hx
    rw [List.getElem_take]
    rw [List.length_take] at hj
    rcases Nat.lt_or_ge j i with hlt | hge
    · exact List.pairwise_iff_getElem.1 hsorted _ _ _ _ hlt
    · have : j = i := by omega
      subst this
      exact le_refl _
  constructor
  · have hnone : (l.drop i).filter (· < l[i]) = [] :=
      List.filter_eq_nil_iff.2 fun x hx => by simpa using hdrop x hx
    calc (l.filter (· < l[i])).length
        = ((l.take i ++ l.drop i).filter (· < l[i])).length := by rw [List.take_append_drop]
      _ = ((l.take i).filter (· < l[i])).length := by rw [List.filter_append, hnone, List.append_nil]
      _ ≤ i := (List.length_filter_le _ _).trans (List.length_take_le _ _)
  · have hall : (l.take (i + 1)).filter (· ≤ l[i]) = l.take (i + 1) :=
      List.filter_eq_self.2 fun x hx => by simpa using htake x hx
    have hlen : (l.take (i + 1)).length = i + 1 := List.length_take_of_le hi
    have hsub := ((List.take_sublist (i + 1) l).filter (· ≤ l[i])).length_le
    rw [hall, hlen] at hsub
    exact hsub

/-- The value the sort gives is a lower median (R45). -/
theorem lowerMedian_spec (l : List Int) (h : l ≠ []) : LowerMedian l (lowerMedian l) := by
  have hperm : (sortInt l).Perm l := sortInt_eq l ▸ List.perm_insertionSort _ l
  have hsorted : (sortInt l).Pairwise (· ≤ ·) := sortInt_eq l ▸ List.pairwise_insertionSort _ l
  have hpos : 0 < l.length := List.length_pos_iff.2 h
  have hi : (l.length + 1) / 2 - 1 < (sortInt l).length := by
    rw [hperm.length_eq]
    omega
  have hval : lowerMedian l = (sortInt l)[(l.length + 1) / 2 - 1] := (List.getElem_eq_getD 0).symm
  obtain ⟨hbelow, habove⟩ := sorted_counts _ hsorted _ hi
  rw [(hperm.filter _).length_eq] at hbelow habove
  unfold LowerMedian
  rw [hval]
  exact ⟨hperm.mem_iff.1 (List.getElem_mem hi), by omega, by omega⟩

/-- A list has one lower median at most. -/
theorem LowerMedian.unique {l : List Int} {m k : Int} (hm : LowerMedian l m) (hk : LowerMedian l k) : m = k := by
  have hle {a b : Int} (ha : LowerMedian l a) (hb : LowerMedian l b) : a ≤ b := by
    by_contra hlt
    have hsub : (l.filter (· ≤ b)).Sublist (l.filter (· < a)) :=
      List.monotone_filter_right l fun x hx => by
        simp only [decide_eq_true_eq] at hx ⊢
        omega
    have := hsub.length_le
    have := ha.2.1
    have := hb.2.2
    omega
  exact le_antisymm (hle hm hk) (hle hk hm)

end Sys2Proof.Machine
end

section
/-!
SUPPORT. The beat-period event and a HALTED station's beat (R43 to R46, R66, R67, R77, R78, R203).
-/
namespace Sys2Proof.Machine

/-! ### When and on what the pack kinds are evaluated (R44, R45) -/

/-- The voltages IMBALANCE is evaluated on, beside the own one (R44). -/
def memberVoltages (s : State) : List Nat := ((ReportingBeats s).map (·.voltage)).filter (0 < ·)

/-- The averages SENSE MISMATCH is evaluated on, beside the own one (R45). -/
def memberAverages (s : State) : List Int := (ReportingBeats s).map (·.current)

theorem imbalanceDeviation_none (s : State) (h : s.meas.scan = none ∨ (memberVoltages s).length < 2) :
    s.imbalanceDeviation = none := by
  unfold State.imbalanceDeviation
  rw [reportingMembers_eq]
  rcases h with h | h
  · rw [h]
  · split
    · rfl
    · exact if_pos h

theorem imbalanceDeviation_some (s : State) (r : ScanResult) (hscan : s.meas.scan = some r)
    (h : 2 ≤ (memberVoltages s).length) :
    s.imbalanceDeviation = some
      (2 * ((((memberVoltages s).length + 1 : Nat) : Int) * (r.cells.sum / 2 : Nat) -
        ((r.cells.sum / 2 + (memberVoltages s).sum : Nat) : Int)).natAbs, (memberVoltages s).length + 1) := by
  unfold State.imbalanceDeviation
  rw [hscan, reportingMembers_eq]
  refine (if_neg (Nat.not_lt.2 h)).trans ?_
  have habs (a b : Nat) : (a - b) + (b - a) = ((a : Int) - (b : Int)).natAbs := by omega
  simp only [habs, Nat.cast_mul]
  rfl

theorem mismatchDifference_none (s : State) (h : (memberAverages s).length < 2) : s.mismatchDifference = none := by
  unfold State.mismatchDifference
  rw [reportingMembers_eq]
  exact if_pos h

theorem mismatchDifference_some (s : State) (m : Int) (h : 2 ≤ (memberAverages s).length)
    (hm : LowerMedian (memberAverages s) m) :
    s.mismatchDifference = some (s.meas.average.getD 0 - m).natAbs := by
  have hne : memberAverages s ≠ [] := fun hnil => by simp [hnil] at h
  obtain rfl := hm.unique (lowerMedian_spec _ hne)
  unfold State.mismatchDifference
  rw [reportingMembers_eq]
  exact if_neg (Nat.not_lt.2 h)

theorem imbalanceTrips_iff (c : Cfg) (d k : Nat) :
    imbalanceTrips c (d, k) = true ↔ c.imbalanceThreshold * 10 * k < d := decide_eq_true_iff

theorem imbalanceRecovers_iff (c : Cfg) (d k : Nat) :
    imbalanceRecovers c (d, k) = true ↔ d ≤ (c.imbalanceThreshold * 10 - c.imbalanceHyst) * k := by
  simp [imbalanceRecovers, deviationAbove]

theorem mismatchTrips_iff (c : Cfg) (d : Nat) : mismatchTrips c d = true ↔ c.mismatchThreshold * 10 < d := decide_eq_true_iff

theorem mismatchRecovers_iff (c : Cfg) (d : Nat) : (!mismatchTrips c d) = true ↔ d ≤ c.mismatchThreshold * 10 := by
  simp [mismatchTrips]

/-! ### The two orders of a beat-period event (log entry 1) -/

/-- Two acts in a free order are one after the other. -/
theorem inAnyOrder_two (f g : State → State) (s : State) :
    ∃ n, inAnyOrder [f, g] s = (g (f s)).withFreeCount n ∨ inAnyOrder [f, g] s = (f (g s)).withFreeCount n := by
  obtain ⟨order, n, hperm, heq⟩ := inAnyOrder_spec [f, g] s
  have horder := List.perm_pair.1 hperm
  have hsome : ∃ n, inAnyOrder [f, g] s = (runAll order s).withFreeCount n := by
    rcases heq with e | e
    · exact ⟨_, e⟩
    · exact ⟨n, e⟩
  obtain ⟨n, e⟩ := hsome
  rcases horder with rfl | rfl
  · exact ⟨n, .inl e⟩
  · exact ⟨n, .inr e⟩

/-- The beat is built after the pack kinds' evaluation, or before it. -/
theorem beatPeriod_order (s : State) : ∃ n,
    beatPeriod s = setBeatTimer s.cfg.tBeat ((buildBeat (evaluatePack (closeAverage s))).withFreeCount n) ∨
    beatPeriod s = setBeatTimer s.cfg.tBeat ((evaluatePack (buildBeat (closeAverage s))).withFreeCount n) := by
  obtain ⟨n, h⟩ := inAnyOrder_two evaluatePack buildBeat (closeAverage s)
  unfold beatPeriod
  rcases h with h | h
  · exact ⟨n, .inl (by rw [h])⟩
  · exact ⟨n, .inr (by rw [h])⟩

theorem exec_beatPeriodEvent (s : State) (hw : s.working = true) :
    exec .beatPeriodEvent s = .next (settle s (beatPeriod s)) := congrArg Host.Outcome.next (if_pos hw)

theorem buildBeat_beside (s : State) : Beside s (buildBeat s) := by
  obtain ⟨hrounds, hnotices, hcounters⟩ := placeBeat_rounds s.link (.beat (ownBeat s))
  refine ⟨rfl, hnotices, rfl, rfl, rfl, rfl, rfl, fun p => .inl (by cases p <;> rfl), .inl ⟨rfl, rfl, fun _ => rfl, hrounds, ?_⟩⟩
  exact congrArg Counters.roundsAbandoned hcounters

theorem beatEnd_beside (s : State) (T n : Nat) : Beside s (setBeatTimer T (s.withFreeCount n)) :=
  ⟨rfl, rfl, rfl, rfl, rfl, rfl, course_of_same rfl rfl rfl rfl rfl⟩

/-- The evaluation is the same before and after the beat is built. -/
theorem evaluatePack_buildBeat (s : State) : evaluatePack (buildBeat s) =
    reportConds (packEvaluated s).cleared (packEvaluated s).tripped
      ((buildBeat s).withConds (packEvaluated s).conds) := evaluatePack_eq (buildBeat s)

/-! ### What the evaluation leaves and what the beat tells -/

theorem evaluatePack_within (s : State) : Within condReach s (evaluatePack s) := reportEvaluated_within _ s

theorem evaluatePack_conds (s : State) : (evaluatePack s).conds = (packEvaluated s).conds := by
  rw [evaluatePack_eq]
  exact (reportConds_within _ _ _).rest .conds (by decide)

theorem evaluatePack_departs (s : State) : Departs s (evaluatePack s) := by
  rw [evaluatePack_eq]
  have hset : Departs s (s.withConds (packEvaluated s).conds) := ⟨.refl _, rfl, rfl⟩
  exact hset.trans (reportConds_departs _ _ _)

theorem evaluatePack_same (s : State) : (evaluatePack s).budget.epoch = s.budget.epoch ∧
    (evaluatePack s).reclose.lastRound = s.reclose.lastRound := by
  rw [evaluatePack_eq]
  exact reportConds_same _ _ _

/-- The pack kinds are not of the current class: their trips are not counted (R29, R126). -/
theorem evaluatePack_count (s : State) (hw : s.working = true) (hkeys : UniqueKeys s) :
    (evaluatePack s).budget.count = s.budget.count := by
  have hnone : (packEvaluated s).tripped.filter (·.kind.currentClass) = [] :=
    List.filter_eq_nil_iff.2 fun id hid => by simp [(packEvaluated_tripped_kind s id hid).2]
  have hcount := reportConds_count (packEvaluated s).cleared (packEvaluated s).tripped
    (s.withConds (packEvaluated s).conds) hkeys hw (packEvaluated_tripped_nodup s)
    fun id hid => (packEvaluated_tripped_kind s id hid).1
  rw [evaluatePack_eq, hcount, hnone]
  have hplus (limit count : Nat) : countPlus limit count 0 = count := by
    unfold countPlus
    simp only [Nat.add_zero]
    generalize (if limit = 0 then 255 else limit) = bound
    split <;> omega
  rw [List.length_nil, hplus]
  exact ite_self _

/-- What a beat tells that the evaluation of the pack kinds does not move. -/
structure TellsAs (s v : State) : Prop where
  phase : v.phase = s.phase
  full : v.trips.full = s.trips.full
  beats : v.beats = s.beats
  load : v.load = s.load
  meas : v.meas = s.meas
  epoch : v.budget.epoch = s.budget.epoch
  count : v.budget.count = s.budget.count
  lastRound : v.reclose.lastRound = s.reclose.lastRound
  lastCloser : v.reclose.lastCloser = s.reclose.lastCloser

theorem evaluatePack_tells (s : State) (hw : s.working = true) (hkeys : UniqueKeys s) : TellsAs s (evaluatePack s) :=
  have h := evaluatePack_within s
  have d := evaluatePack_departs s
  ⟨h.rest .phase (by decide), d.full, h.rest .beats (by decide), h.rest .load (by decide), h.rest .meas (by decide),
    (evaluatePack_same s).1, evaluatePack_count s hw hkeys, (evaluatePack_same s).2, d.lastCloser⟩

/-- What a beat-period event comes to before the closing checks, in either order. -/
structure BeatPeriodRun (s w : State) : Prop where
  meas : w.meas = (closeAverage s).meas
  beats : w.beats = { seq := s.beats.seq + 1, timer := .running s.cfg.tBeat }
  conds : w.conds = (packEvaluated (closeAverage s)).conds
  beat : ∃ v, w.link.beat = some (TxFrame.new 0 (.beat (ownBeat v))) ∧
    (v = closeAverage s ∨ v = evaluatePack (closeAverage s) ∧ w.charge = v.charge ∧ w.discharge = v.discharge ∧
      w.conds = v.conds ∧ w.trips = v.trips ∧ w.rank = v.rank)
  sent : ∃ a b, s.link.Joined a ∧ (a.placeBeat (.beat b)).Joined w.link
  reported : ∃ u, Beside s u ∧
    Beside (reportConds (packEvaluated (closeAverage s)).cleared (packEvaluated (closeAverage s)).tripped u) w

theorem closeAverage_beside (s : State) : Beside s (closeAverage s) := withMeas_beside s _

/-- Building a beat and restarting the beat timer leave what a beat tells of switches, conditions and records. -/
theorem beatEnd_same (v : State) (T n : Nat) :
    (setBeatTimer T ((buildBeat v).withFreeCount n)).charge = v.charge ∧
    (setBeatTimer T ((buildBeat v).withFreeCount n)).discharge = v.discharge ∧
    (setBeatTimer T ((buildBeat v).withFreeCount n)).conds = v.conds ∧
    (setBeatTimer T ((buildBeat v).withFreeCount n)).trips = v.trips ∧
    (setBeatTimer T ((buildBeat v).withFreeCount n)).rank = v.rank := ⟨rfl, rfl, rfl, rfl, rfl⟩

/-- The beat is built after the evaluation. -/
theorem beatAfter_run (s : State) (n : Nat) : BeatPeriodRun s
    (setBeatTimer s.cfg.tBeat ((buildBeat (evaluatePack (closeAverage s))).withFreeCount n)) := by
  have hsame := evaluatePack_within (closeAverage s)
  have hreport := evaluatePack_eq (closeAverage s)
  have hconds := evaluatePack_conds (closeAverage s)
  have hjoined := (evaluatePack_departs (closeAverage s)).link
  obtain ⟨v, hv⟩ : ∃ v, v = evaluatePack (closeAverage s) := ⟨_, rfl⟩
  rw [← hv] at hsame hreport hconds hjoined ⊢
  have hbeats : v.beats = s.beats := hsame.rest .beats (by decide)
  have hset : Beside s ((closeAverage s).withConds (packEvaluated (closeAverage s)).conds) :=
    (closeAverage_beside s).trans (withConds_beside (closeAverage s) _)
  have hbuilt : Beside v (setBeatTimer s.cfg.tBeat ((buildBeat v).withFreeCount n)) :=
    (buildBeat_beside v).trans (beatEnd_beside (buildBeat v) _ n)
  have hslot : (setBeatTimer s.cfg.tBeat ((buildBeat v).withFreeCount n)).link.beat =
      some (TxFrame.new 0 (.beat (ownBeat v))) := placeBeat_slot v.link _
  refine ⟨hsame.rest .meas (by decide), ?_, hconds, ⟨v, hslot, .inr ⟨hv, beatEnd_same v _ n⟩⟩,
    ⟨v.link, ownBeat v, hjoined, .refl _⟩, _, hset, hreport ▸ hbuilt⟩
  show Beats.mk (v.beats.seq + 1) _ = _
  rw [hbeats]

/-- The beat is built before the evaluation. -/
theorem beatBefore_run (s : State) (n : Nat) : BeatPeriodRun s
    (setBeatTimer s.cfg.tBeat ((evaluatePack (buildBeat (closeAverage s))).withFreeCount n)) := by
  have hsame := evaluatePack_within (buildBeat (closeAverage s))
  have hreport := evaluatePack_buildBeat (closeAverage s)
  have hconds : (evaluatePack (buildBeat (closeAverage s))).conds = (packEvaluated (closeAverage s)).conds :=
    evaluatePack_conds (buildBeat (closeAverage s))
  have hjoined := (evaluatePack_departs (buildBeat (closeAverage s))).link
  generalize evaluatePack (buildBeat (closeAverage s)) = v at hsame hreport hconds hjoined ⊢
  have hbeats : v.beats = (buildBeat (closeAverage s)).beats := hsame.rest .beats (by decide)
  have hset : Beside s ((buildBeat (closeAverage s)).withConds (packEvaluated (closeAverage s)).conds) :=
    ((closeAverage_beside s).trans (buildBeat_beside (closeAverage s))).trans (withConds_beside (buildBeat (closeAverage s)) _)
  have hbuilt : Beside v (setBeatTimer s.cfg.tBeat (v.withFreeCount n)) := beatEnd_beside v _ n
  refine ⟨hsame.rest .meas (by decide), ?_, hconds, ⟨closeAverage s, hjoined.beat, .inl rfl⟩,
    ⟨s.link, ownBeat (closeAverage s), .refl _, hjoined⟩, _, hset, hreport ▸ hbuilt⟩
  show Beats.mk v.beats.seq _ = _
  rw [hbeats]
  rfl

theorem beatPeriod_run (s : State) : BeatPeriodRun s (beatPeriod s) := by
  obtain ⟨n, h | h⟩ := beatPeriod_order s
  · rw [h]
    exact beatAfter_run s n
  · rw [h]
    exact beatBefore_run s n

/-- What the beat-period event leaves of the parts it may not reach, and of the conditions' other fields. -/
theorem beatPeriod_leaves (s : State) : (beatPeriod s).roster = s.roster ∧ (beatPeriod s).phase = s.phase ∧
    (beatPeriod s).stop = s.stop :=
  have h := beatPeriod_within s
  ⟨h.rest .roster (by decide), h.rest .phase (by decide), h.rest .stop (by decide)⟩

/-- The records a beat tells of go by the list and the own rank. -/
theorem ownEntries_congr {s t : State} (htrips : t.trips = s.trips) (hrank : t.rank = s.rank) : ownEntries t = ownEntries s := by
  unfold ownEntries
  rw [htrips, hrank]

/-- The beat-period event's own changes are reported (R9 to R11, R13, R22, R31). -/
theorem beatPeriod_reported (s b : State) (hw : s.working = true) (hkeys : UniqueKeys s) (hheld : HeldPathsOff s) :
    OwnChangesReported s (settle b (beatPeriod s)) := by
  have run := beatPeriod_run s
  obtain ⟨u, hbefore, hafter⟩ := run.reported
  have hkinds := packEvaluated_tripped_kind (closeAverage s)
  have htold := packEvaluated_told (c := closeAverage s) (s := s) rfl run.conds
  exact ownChangesReported b _ _ hw hkeys hheld hbefore hafter (packEvaluated_tripped_nodup _)
    (fun id hid => (hkinds id hid).1) (fun id => (htold id).1) (fun id => (htold id).2)

/-- What the beat placed tells of the station (R77, R164). -/
theorem ownBeat_tells {s v : State} (h : TellsAs (closeAverage s) v) :
    (ownBeat v).phase = byteOf s.phase.code ∧ (ownBeat v).listFull = byteOf (boolCode s.trips.full) ∧
    (ownBeat v).seq = s.beats.seq ∧ (ownBeat v).digest = s.load.digest ∧
    (ownBeat v).current = BitVec.ofInt 16 (if s.meas.number = 0 then 0 else s.meas.sum.tdiv s.meas.number) ∧
    (ownBeat v).voltage = BitVec.ofNat 16 (match s.meas.scan with | some r => r.moduleVoltage / 2 | none => 0) ∧
    (ownBeat v).epoch = s.budget.epoch ∧ (ownBeat v).count = byteOf s.budget.count ∧
    (ownBeat v).lastRound = byteOf s.reclose.lastRound ∧ (ownBeat v).lastCloser = byteOf s.reclose.lastCloser := by
  simp only [ownBeat, h.phase, h.full, h.beats, h.load, h.meas, h.epoch, h.count, h.lastRound, h.lastCloser]
  exact ⟨rfl, rfl, rfl, rfl, rfl, rfl, rfl, rfl, rfl, rfl⟩

/-- The pack kinds as the closing window leaves them to be judged (R43 to R46). -/
theorem packEvaluated_judged (s : State) :
    let c := closeAverage s
    let average := if s.meas.number = 0 then 0 else s.meas.sum.tdiv s.meas.number
    let voltages := memberVoltages s
    let averages := memberAverages s
    let after := (packEvaluated c).conds
    (s.meas.scan = none ∨ voltages.length < 2 →
      NotEvaluatedMoves s.conds.imbalance after.imbalance ∧ after.imbalanceEval = s.conds.imbalanceEval) ∧
    (∀ r, s.meas.scan = some r → 2 ≤ voltages.length →
      let k := voltages.length + 1
      let own := r.cells.sum / 2
      let deviation := 2 * ((k : Int) * own - (own + voltages.sum : Nat)).natAbs
      BeatMoves s.cfg.imbalanceConfirm (s.cfg.imbalanceThreshold * 10 * k < deviation)
        (deviation ≤ (s.cfg.imbalanceThreshold * 10 - s.cfg.imbalanceHyst) * k)
        s.conds.imbalance after.imbalance ∧
      after.imbalanceEval = (if s.conds.imbalance.state = .TRIPPED then some (deviation, k) else none)) ∧
    (averages.length < 2 →
      NotEvaluatedMoves s.conds.senseMismatch after.senseMismatch ∧ after.mismatchEval = s.conds.mismatchEval) ∧
    (∀ m, 2 ≤ averages.length → LowerMedian averages m →
      BeatMoves s.cfg.mismatchConfirm (s.cfg.mismatchThreshold * 10 < (average - m).natAbs)
        ((average - m).natAbs ≤ s.cfg.mismatchThreshold * 10) s.conds.senseMismatch after.senseMismatch ∧
      after.mismatchEval = (if s.conds.senseMismatch.state = .TRIPPED then some (average - m).natAbs else none)) := by
  simp only [packEvaluated_conds, imbalanceMove, imbalanceKept, mismatchMove, mismatchKept]
  refine ⟨fun h => ?_, fun r hr h => ?_, fun h => ?_, fun m h hm => ?_⟩
  · rw [imbalanceDeviation_none (closeAverage s) h]
    exact ⟨notEvaluated_moves _, rfl⟩
  · rw [imbalanceDeviation_some (closeAverage s) r hr h]
    exact ⟨onBeat_moves (imbalanceTrips_iff _ _ _) (imbalanceRecovers_iff _ _ _) _, rfl⟩
  · rw [mismatchDifference_none (closeAverage s) h]
    exact ⟨notEvaluated_moves _, rfl⟩
  · rw [mismatchDifference_some (closeAverage s) m h hm]
    exact ⟨onBeat_moves (mismatchTrips_iff _ _) (mismatchRecovers_iff _ _) _, rfl⟩

/-- Settles O13: in either order the beat is the own one before or after the evaluation, whose outcome is the two pack tests' and is
reported; a HALTED station's beat is the one it sends. -/
theorem beatBuilt : Obligations.BeatBuilt := by
  refine ⟨fun s hw hkeys => ⟨_, exec_beatPeriodEvent s hw, ?_⟩, fun s hw => ⟨_, exec_beatPeriodEvent s hw, ?_⟩, fun s hh => ?_⟩
  · have run := beatPeriod_run s
    obtain ⟨hroster, hphase, hstop⟩ := beatPeriod_leaves s
    obtain ⟨v, hbeat, hv⟩ := run.beat
    obtain ⟨a, b, hbefore, hafter⟩ := run.sent
    have htells : TellsAs (closeAverage s) v := by
      rcases hv with rfl | ⟨rfl, _⟩
      · exact ⟨rfl, rfl, rfl, rfl, rfl, rfl, rfl, rfl, rfl⟩
      · exact evaluatePack_tells (closeAverage s) hw hkeys
    obtain ⟨bphase, bfull, bseq, bdigest, bcurrent, bvoltage, bepoch, bcount, bround, bcloser⟩ := ownBeat_tells htells
    have hjoined := settle_joined s (beatPeriod s)
    obtain ⟨hcut, hwhole⟩ := placeBeat_sent _ hbefore (hafter.trans hjoined)
    refine ⟨?_, ?_, ⟨ownBeat v, hjoined.beat.trans hbeat, bphase, bfull, bseq, bdigest, bcurrent, bvoltage, bepoch, bcount,
      bround, bcloser, ?_⟩, hcut, hwhole, ?_, ?_, ?_, ?_⟩
    · rw [settle_meas, run.meas]
      rfl
    · rw [settle_beats, run.beats]
    · rcases hv with rfl | ⟨_, hcharge, hdischarge, hconds, htrips, hrank⟩
      · exact ⟨.inl rfl, .inl rfl, .inl rfl, .inl rfl⟩
      · have hsettled : (settle s (beatPeriod s)).rank = (beatPeriod s).rank :=
          congrArg (fun l : Load => l.strap.toNat + 1) (settle_load s (beatPeriod s))
        have hentries : ownEntries (settle s (beatPeriod s)) = ownEntries v :=
          ownEntries_congr ((settle_trips _ _).trans htrips) (hsettled.trans hrank)
        rw [settle_charge, settle_discharge, settle_conds, hentries, hcharge, hdischarge, hconds]
        exact ⟨.inr rfl, .inr rfl, .inr rfl, .inr rfl⟩
    · rw [settle_roster, hroster]
    · rw [settle_phase, hphase]
    · rw [settle_stop, hstop]
    · rw [settle_conds, run.conds, packEvaluated_conds]
      rfl
  · have hjudged := packEvaluated_judged s
    simp only [settle_conds, (beatPeriod_run s).conds]
    exact ⟨hjudged.1, hjudged.2.1, hjudged.2.2.1, hjudged.2.2.2, fun hkeys hheld => beatPeriod_reported s s hw hkeys hheld⟩
  · refine (congrArg Host.Outcome.next (if_pos hh)).trans (congrArg Host.Outcome.next ?_)
    by_cases hreplaced : s.link.beat = none ∨ s.link.sending ≠ some .beat
    · have hno : (s.link.beat.isSome && s.link.sending == some .beat) = false := by
        rcases hreplaced with h | h <;> simp [h]
      show State.withBeats (State.withLink s (s.link.placeBeat (.beat (haltedBeat s)))) _ = _
      rw [placeBeat_of_whole _ _ hreplaced]
      simp only [hno]
      rfl
    · rw [not_or, not_not] at hreplaced
      have hyes : (s.link.beat.isSome && s.link.sending == some .beat) = true := by
        rw [Option.isSome_iff_ne_none.2 hreplaced.1, hreplaced.2]
        rfl
      show State.withBeats (State.withLink s (s.link.placeBeat (.beat (haltedBeat s)))) _ = _
      rw [placeBeat_of_cut _ _ hreplaced.1 hreplaced.2]
      simp only [hyes]
      rfl

end Sys2Proof.Machine
end

section
/-!
SUPPORT. A member's frame as its blocks take it (R15 to R17, R79, R106, R129, R152, R163): the membership unit, and what the blocks
before and after it leave.
-/
namespace Sys2Proof.Machine

/-! ### The free order, by the names of the blocks -/

theorem inAnyOrder_named (f : RxFrame) (ids : List Taker) (s : State) :
    ∃ order n, List.Perm order ids ∧
      inAnyOrder (ids.map (Taker.act f)) s = (runAll (order.map (Taker.act f)) s).withFreeCount n := by
  obtain ⟨order, n, hperm, hrun⟩ := inAnyOrder_spec (ids.map (Taker.act f)) s
  have hmap : Relation.Comp (fun a b => a = List.map (Taker.act f) b) List.Perm order ids := by
    rw [List.eq_map_comp_perm]
    exact hperm
  obtain ⟨order, rfl, hids⟩ := hmap
  rcases hrun with h | h
  · exact ⟨order, _, hids, h⟩
  · exact ⟨order, n, hids, h⟩

/-- What each block of a run does, one after the other, the run does. -/
theorem runAll_relates (f : RxFrame) (P : State → State → Prop) (hrefl : ∀ a, P a a)
    (htrans : ∀ a b c, P a b → P b c → P a c) (ids : List Taker) (h : ∀ i ∈ ids, ∀ a, P a (i.act f a)) (s : State) :
    P s (runAll (ids.map (Taker.act f)) s) := by
  induction ids generalizing s with
  | nil => exact hrefl s
  | cons i ids ih =>
      exact htrans _ _ _ (h i List.mem_cons_self s) (ih (fun j hj => h j (.tail _ hj)) _)

/-- The membership unit among the other blocks. -/
theorem inAnyOrder_split (f : RxFrame) (P : State → State → Prop) (hrefl : ∀ a, P a a)
    (htrans : ∀ a b c, P a b → P b c → P a c) (hfree : ∀ a n, P a (a.withFreeCount n)) (ids : List Taker)
    (hnodup : ids.Nodup) (hmember : Taker.membership ∈ ids)
    (h : ∀ i ∈ ids, i ≠ .membership → ∀ a, P a (i.act f a)) (s : State) :
    ∃ a, P s a ∧ P (membershipTakes f a) (inAnyOrder (ids.map (Taker.act f)) s) := by
  obtain ⟨order, n, hperm, hrun⟩ := inAnyOrder_named f ids s
  obtain ⟨pre, post, rfl⟩ := List.append_of_mem (hperm.mem_iff.2 hmember)
  have hrest : (Taker.membership :: (pre ++ post)).Nodup := List.perm_middle.nodup_iff.1 (hperm.nodup_iff.2 hnodup)
  have hothers (i : Taker) (hi : i ∈ pre ++ post) : ∀ a, P a (i.act f a) := by
    refine h i (hperm.mem_iff.1 ?_) fun e => (List.nodup_cons.1 hrest).1 (e ▸ hi)
    exact List.perm_middle.mem_iff.2 (.tail _ hi)
  refine ⟨runAll (pre.map (Taker.act f)) s,
    runAll_relates f P hrefl htrans pre (fun i hi => hothers i (List.mem_append_left _ hi)) s, ?_⟩
  rw [hrun, List.map_append, List.map_cons, runAll_append, runAll_cons]
  exact htrans _ _ _ (runAll_relates f P hrefl htrans post (fun i hi => hothers i (List.mem_append_right _ hi)) _) (hfree _ n)

/-! ### Records taken from a frame (R15 to R17) -/

/-- The record `x` is `y` after a frame of `src`: as it was or, of that origin, updated in place. -/
structure TakenFrom (src : Nat) (y x : Record) : Prop where
  key : x.key = y.key
  foreign : x.origin ≠ src → x = y
  stale : x.stale = false ∨ x.stale = y.stale
  counted : x.counted = (y.counted && y.tripId == x.tripId)

theorem TakenFrom.refl (src : Nat) (y : Record) : TakenFrom src y y := ⟨rfl, fun _ => rfl, .inr rfl, by simp⟩

/-- The list `m` is `l` after a frame of `src`: each record is one of `l`, or one of that origin that has joined. -/
def ListTaken (src : Nat) (l m : List Record) : Prop :=
  ∀ x ∈ m, (∃ y ∈ l, TakenFrom src y x) ∨ x.origin = src ∧ x.stale = false ∧ ∀ y ∈ l, x.key ≠ y.key

theorem key_ne_of_absent {src : Nat} {k : Kind} {sj : Option Nat} {l : List Record} (h : findRecord src k sj l = none)
    (x : Record) (hx : x.key = (src, k, sj)) : ∀ y ∈ l, x.key ≠ y.key := by
  intro y hy e
  exact List.find?_eq_none.1 h y hy ((Record.hasKey_iff ..).2 (e.symm.trans hx))

theorem listTaken_replace (n own src : Nat) (es : List OwnEntry) (l : List Record) (hown : src ≠ own) :
    ListTaken src l (replaceRecords n own src es l).1 := by
  intro x hx
  rw [replaceRecords_eq n own src es l hown, List.mem_append, List.mem_map, List.mem_map] at hx
  rcases hx with ⟨y, hy, rfl⟩ | ⟨z, hz, rfl⟩
  · refine .inl ⟨y, (List.mem_filter.1 hy).1, ?_⟩
    unfold refreshRecord
    cases hf : es.find? fun z => z.keys src y with
    | none => exact .refl src y
    | some z =>
        obtain ⟨horigin, _⟩ := (OwnEntry.keys_iff_fields src z y).1 (find_keys_spec hf).2
        exact ⟨rfl, fun ho => absurd horigin ho, .inl rfl, rfl⟩
  · exact .inr ⟨rfl, rfl, key_ne_of_absent (findRecord_fresh hz) _ rfl⟩

theorem listTaken_notice (n own src : Nat) (x : OwnEntry) (l : List Record) :
    ListTaken src l (noticeRecords n own src x l).1 := by
  intro z hz
  by_cases hheld : findRecord src x.kind x.subject l = none
  · rw [noticeRecords_absent n own src x l hheld] at hz
    split at hz
    · rcases List.mem_append.1 hz with hin | hin
      · exact .inl ⟨z, hin, .refl src z⟩
      · rw [List.mem_singleton.1 hin]
        exact .inr ⟨rfl, rfl, key_ne_of_absent hheld _ rfl⟩
    · exact .inl ⟨z, hz, .refl src z⟩
  · rw [noticeRecords_held n own src x l hheld] at hz
    obtain ⟨y, hy, rfl⟩ := List.mem_map.1 hz
    refine .inl ⟨y, hy, ?_⟩
    by_cases hkey : x.keys src y = true
    · obtain ⟨horigin, _⟩ := (OwnEntry.keys_iff_fields src x y).1 hkey
      rw [if_pos hkey]
      exact ⟨rfl, fun ho => absurd horigin ho, .inr rfl, rfl⟩
    · rw [if_neg hkey]
      exact .refl src y

/-- The list takes what a member's frame brings, or leaves the station as it is. -/
theorem listTakes_cases (f : RxFrame) (a : State) (hown : f.src.toNat ≠ a.rank) :
    listTakes f a = a ∨ ∃ out, listTakes f a = changeRecords out a ∧ ListTaken f.src.toNat a.trips.records out.1 := by
  unfold listTakes
  simp only
  split
  · exact .inl rfl
  · split
    · exact .inr ⟨_, rfl, listTaken_replace _ _ _ _ _ hown⟩
    · split
      · exact .inl rfl
      · exact .inr ⟨_, rfl, listTaken_notice _ _ _ _ _⟩
    · exact .inl rfl

/-! ### What the blocks beside the membership unit leave -/

/-- The contents go on with a round or propose one (R106). -/
def Content.movesRound : Content → Bool
  | .propose _ _ _ _ _ => true
  | .answer _ _ _ => true
  | .proceed _ => true
  | .closed _ => true
  | .complete _ => true
  | .abandon _ => true
  | _ => false

/-- A station in IDLE, its switches off, its phase not OPERATING. -/
structure State.Resting (s : State) : Prop where
  phase : s.phase ≠ .OPERATING
  round : s.reclose.round = none
  off : ∀ p, (s.switch p).isOff

/-- What the blocks beside the membership unit do with a member's frame: what they may change, and what stays of it. -/
structure Side (f : RxFrame) (a c : State) : Prop where
  frame : c = { a with reclose := c.reclose, charge := c.charge, discharge := c.discharge, trips := c.trips, link := c.link,
                       budget := c.budget, stop := c.stop, freeCount := c.freeCount }
  stop : (∀ n, f.content ≠ .notice n) → c.stop = a.stop
  joined : a.budget.joined = true → c.budget.joined = true
  resting : a.Resting → c.Resting
  foreign : ∀ x ∈ c.trips.records, x.origin ≠ f.src.toNat →
    ∃ y ∈ a.trips.records, x.key = y.key ∧ x.stale = y.stale ∧ x.phase = y.phase
  member : ∀ x ∈ c.trips.records, x.origin = f.src.toNat → x.stale = false ∨
    ∃ y ∈ a.trips.records, y.origin = f.src.toNat ∧ x.stale = y.stale
  course : f.content.movesRound = false → Course a c
  beside : f.content.movesRound = false → c.link.besideRounds = a.link.besideRounds
  keys : UniqueKeys a → UniqueKeys c
  counted : UniqueKeys a → a.phase ≠ .FORMING → AllCounted a → AllCounted c

theorem Side.trans {f : RxFrame} {a b c : State} (h : Side f a b) (g : Side f b c) : Side f a c := by
  refine ⟨?_, fun hn => (g.stop hn).trans (h.stop hn), fun hj => g.joined (h.joined hj), fun hr => g.resting (h.resting hr),
    fun x hx ho => ?_, fun x hx ho => ?_, fun hm => (h.course hm).trans (g.course hm),
    fun hm => (g.beside hm).trans (h.beside hm), fun hk => g.keys (h.keys hk), fun hk hp hall => ?_⟩
  · rw [g.frame, h.frame]
  · obtain ⟨y, hy, hkey, hstale, hphase⟩ := g.foreign x hx ho
    have hyo : y.origin ≠ f.src.toNat := (Record.key_eq.1 hkey).1 ▸ ho
    obtain ⟨z, hz, hkey', hstale', hphase'⟩ := h.foreign y hy hyo
    exact ⟨z, hz, hkey.trans hkey', hstale.trans hstale', hphase.trans hphase'⟩
  · rcases g.member x hx ho with hfresh | ⟨y, hy, hyo, hstale⟩
    · exact .inl hfresh
    · rcases h.member y hy hyo with hfresh | ⟨z, hz, hzo, hstale'⟩
      · exact .inl (hstale.trans hfresh)
      · exact .inr ⟨z, hz, hzo, hstale.trans hstale'⟩
  · have hphase : b.phase = a.phase := by rw [h.frame]
    exact g.counted (h.keys hk) (by rw [hphase]; exact hp) (h.counted hk hp hall)

theorem State.Resting.course {a c : State} (h : a.Resting) (hphase : c.phase = a.phase) (hc : Course a c) : c.Resting :=
  ⟨hphase ▸ h.phase, hc.keeps_idle h.round, fun p => hc.keeps_isOff p (h.off p)⟩

/-- A block that leaves the list but for records that go. -/
theorem Side.of_sublist {f : RxFrame} {a c : State}
    (frame : c = { a with reclose := c.reclose, charge := c.charge, discharge := c.discharge, trips := c.trips, link := c.link,
                          budget := c.budget, stop := c.stop, freeCount := c.freeCount })
    (stop : (∀ n, f.content ≠ .notice n) → c.stop = a.stop) (joined : a.budget.joined = true → c.budget.joined = true)
    (resting : a.Resting → c.Resting) (records : c.trips.records.Sublist a.trips.records)
    (course : f.content.movesRound = false → Course a c)
    (beside : f.content.movesRound = false → c.link.besideRounds = a.link.besideRounds) : Side f a c :=
  ⟨frame, stop, joined, resting, fun x hx _ => ⟨x, records.subset hx, rfl, rfl, rfl⟩,
    fun x hx ho => .inr ⟨x, records.subset hx, ho, rfl⟩, course, beside,
    fun hk => hk.sublist (records.map Record.key), fun _ _ hall x hx => hall x (records.subset hx)⟩

theorem Side.refl (f : RxFrame) (a : State) : Side f a a :=
  .of_sublist rfl (fun _ => rfl) id id (.refl _) (fun _ => .refl a) fun _ => rfl

theorem Side.freeCount (f : RxFrame) (a : State) (n : Nat) : Side f a (a.withFreeCount n) :=
  .of_sublist rfl (fun _ => rfl) id (fun h => ⟨h.phase, h.round, h.off⟩) (.refl _) (fun _ => course_of_same rfl rfl rfl rfl rfl)
    fun _ => rfl

theorem listReport_besideRounds (ch : Change) (s : State) :
    (listReport ch s).link.besideRounds = s.link.besideRounds := by
  have hoffers : (takeOffers ch s).link = s.link := by
    unfold takeOffers
    split <;> rfl
  have hopen := forPaths_keeps (·.link.besideRounds) (newlyBlocked ch.before (takeOffers ch s).trips.records) openPath
    openPath_besideRounds (takeOffers ch s)
  have hopen := hopen.trans (congrArg Link.besideRounds hoffers)
  unfold listReport
  simp only
  split
  · exact hopen
  · split
    · exact (leaveRound_besideRounds _).trans hopen
    · exact hopen

theorem changeRecords_besideRounds (out : List Record × Bool) (s : State) :
    (changeRecords out s).link.besideRounds = s.link.besideRounds := by
  have hreport : (reported out.1 s).link.besideRounds = s.link.besideRounds := listReport_besideRounds _ _
  rw [changeRecords_eq]
  split
  · unfold refuseAddition
    simp only
    split
    · exact hreport
    · exact (holdBoth_besideRounds _).trans hreport
  · exact hreport

/-- The list's change leaves whether the budget has joined (R127, R128). -/
theorem changeRecords_joined (out : List Record × Bool) (a : State) (hw : a.working = true) :
    (changeRecords out a).budget.joined = a.budget.joined := by
  rw [changeRecords_budget out a hw]
  split <;> rfl

/-- Out of FORMING the list counts each current-class trip id that is new to it (R23, R127). -/
theorem changeRecords_counted (src : Nat) (out : List Record × Bool) (a : State) (hw : a.working = true) (hk : UniqueKeys a)
    (hp : a.phase ≠ .FORMING) (h : ListTaken src a.trips.records out.1) (hall : AllCounted a) :
    AllCounted (changeRecords out a) := by
  intro x hx hclass
  have hcounts : (a.phase != .FORMING) = true := by simpa using hp
  rw [changeRecords_trips out a hw] at hx
  obtain ⟨y, hy, rfl⟩ := List.mem_map.1 hx
  have hclass : y.kind.currentClass = true := hclass
  show (y.counted || (_ && _ && y.newIn a.rank (foreignChange a.trips.records))) = true
  rw [hcounts, hclass]
  rcases h y hy with ⟨z, hz, htaken⟩ | ⟨_, _, hfresh⟩
  · obtain ⟨ho, hkind, hsubject⟩ := Record.key_eq.1 htaken.key
    have hheld : findRecord y.origin y.kind y.subject a.trips.records = some z := by
      rw [ho, hkind, hsubject]
      exact findRecord_of_mem hk hz
    rw [newIn_foreign_held _ _ _ _ hheld, htaken.counted, hall z hz (hkind ▸ hclass)]
    by_cases hid : z.tripId = y.tripId <;> simp [hid]
  · have hnone : findRecord y.origin y.kind y.subject a.trips.records = none :=
      List.find?_eq_none.2 fun z hz hkey => hfresh z hz ((Record.hasKey_iff ..).1 hkey).symm
    rw [newIn_foreign _ _ _ hnone]
    simp

theorem changeRecords_side (f : RxFrame) (out : List Record × Bool) (a : State) (hw : a.working = true)
    (hkeys : UniqueKeys a → UniqueKeys (changeRecords out a)) (h : ListTaken f.src.toNat a.trips.records out.1) : Side f a (changeRecords out a) := by
  have hreach := changeRecords_reach out a
  have hcourse := changeRecords_course out a
  have hphase : (changeRecords out a).phase = a.phase := by rw [hreach]
  have hrecords : (changeRecords out a).trips.records =
      out.1.map (offerRecord (a.phase != .FORMING) a.rank a.trips.records) := by rw [changeRecords_trips out a hw]
  refine ⟨?_, fun _ => ?_, fun hj => (changeRecords_joined out a hw).trans hj, fun hr => hr.course hphase hcourse,
    fun x hx ho => ?_, fun x hx ho => ?_, fun _ => hcourse, fun _ => changeRecords_besideRounds out a, hkeys,
    fun hk hp hall => changeRecords_counted _ out a hw hk hp h hall⟩
  · rw [hreach]
  · rw [hreach]
  all_goals
    rw [hrecords] at hx
    obtain ⟨y, hy, rfl⟩ := List.mem_map.1 hx
  · rcases h y hy with ⟨z, hz, htaken⟩ | ⟨hyo, _⟩
    · obtain rfl := htaken.foreign ho
      exact ⟨y, hz, rfl, rfl, rfl⟩
    · exact absurd hyo ho
  · rcases h y hy with ⟨z, hz, htaken⟩ | ⟨_, hfresh, _⟩
    · have hzo : z.origin = f.src.toNat := (Record.key_eq.1 htaken.key).1 ▸ ho
      exact htaken.stale.imp id fun hstale => ⟨z, hz, hzo, hstale⟩
    · exact .inl hfresh

theorem listTakes_side (f : RxFrame) (a : State) (hw : a.working = true) (hown : f.src.toNat ≠ a.rank) :
    Side f a (listTakes f a) := by
  rcases listTakes_cases f a hown with h | ⟨out, h, htaken⟩
  · rw [h]
    exact .refl f a
  · have hkeys := (listTakes_scope f a).uniqueKeys
    rw [h] at hkeys ⊢
    exact changeRecords_side f out a hw hkeys htaken

theorem takeBeat_joined (limit : Nat) (e : Byte) (n : Nat) (b : Budget) (h : b.joined = true) :
    (b.takeBeat limit e n).joined = true := by
  unfold Budget.takeBeat
  repeat' split
  all_goals first | rfl | exact h

theorem budgetTakes_eq (f : RxFrame) (a : State) :
    budgetTakes f a = a ∨ ∃ b, f.content = .beat b ∧ (b.phase.toNat = 2 ∨ b.phase.toNat = 3) ∧
      budgetTakes f a = a.withBudget (a.budget.takeBeat a.cfg.latchLimit b.epoch b.count.toNat) := by
  unfold budgetTakes
  split
  · rename_i b hb
    split
    · rename_i h
      simp only [Bool.and_eq_true, Bool.or_eq_true, beq_iff_eq] at h
      exact .inr ⟨b, hb, h.2, rfl⟩
    · exact .inl rfl
  · exact .inl rfl

theorem budgetTakes_side (f : RxFrame) (a : State) : Side f a (budgetTakes f a) := by
  rcases budgetTakes_eq f a with h | ⟨b, _, _, h⟩
  · rw [h]
    exact .refl f a
  · rw [h]
    exact .of_sublist rfl (fun _ => rfl) (takeBeat_joined _ _ _ _) (fun h => ⟨h.phase, h.round, h.off⟩) (.refl _)
      (fun _ => course_of_same rfl rfl rfl rfl rfl) fun _ => rfl

theorem windowTakes_eq (f : RxFrame) (a : State) :
    windowTakes f a = a ∨ ∃ n, f.content = .notice n ∧ windowTakes f a = a.withStop a.stop.closeWindow := by
  unfold windowTakes
  split
  · rename_i n hn
    split
    · exact .inr ⟨n, hn, rfl⟩
    · exact .inl rfl
  · exact .inl rfl

theorem windowTakes_side (f : RxFrame) (a : State) : Side f a (windowTakes f a) := by
  rcases windowTakes_eq f a with h | ⟨n, hn, h⟩
  · rw [h]
    exact .refl f a
  · rw [h]
    exact .of_sublist rfl (fun hnot => absurd hn (hnot n)) id (fun h => ⟨h.phase, h.round, h.off⟩) (.refl _)
      (fun _ => course_of_same rfl rfl rfl rfl rfl) fun _ => rfl

/-! ### A round frame at a station that has no use for it (R106, R108, R118) -/

/-- At most an ANSWER has joined the round slot. -/
def AnswersAtMost (a c : State) : Prop :=
  c = a ∨ ∃ dst round answer reason, c = queueRound dst (.answer round answer reason) a

/-- A station in IDLE and out of OPERATING takes a round frame without taking up a round: a PROPOSE is declined, and a PROCEED of
the left round is met with ABANDON (R107, R108, R118). -/
theorem recloseTakes_of_idle (f : RxFrame) (a : State) (hround : a.reclose.round = none) (hphase : a.phase ≠ .OPERATING)
    (hmoves : f.content.movesRound = true) :
    AnswersAtMost a (recloseTakes f a) ∨
      ∃ n, f.content = .proceed n ∧ a.reclose.leftRound = some (n.toNat, f.src.toNat) ∧
        recloseTakes f a = (sendRound (.abandon n) a).withReclose { a.reclose with leftRound := none } := by
  have hnone : a.round = none := hround
  unfold recloseTakes
  split
  · exact .inl (.inl rfl)
  · cases hc : f.content with
    | propose round paths closer count crc =>
        refine .inl ?_
        have hreason : ∀ ps, proposeReason a f.src.toNat ps count crc = 7 := fun ps => if_pos hphase
        simp only [takePropose, hnone, answerPropose, hreason]
        split
        · exact .inl rfl
        · exact .inr ⟨_, _, _, _, rfl⟩
    | answer round answer reason =>
        simp only [takeAnswer, hnone, ite_self]
        exact .inl (.inl rfl)
    | proceed round =>
        simp only [takeProceed, hnone]
        split
        · rename_i hleft
          exact .inr ⟨round, rfl, hleft, rfl⟩
        · exact .inl (.inl rfl)
    | closed round =>
        simp only [takeClosed, hnone]
        exact .inl (.inl rfl)
    | complete round =>
        simp only [takeComplete, hnone]
        exact .inl (.inl rfl)
    | abandon round =>
        simp only [takeAbandon, hnone]
        exact .inl (.inl rfl)
    | beat b => exact absurd (hc ▸ hmoves) Bool.noConfusion
    | notice n => exact absurd (hc ▸ hmoves) Bool.noConfusion
    | request p => exact absurd (hc ▸ hmoves) Bool.noConfusion
    | reply p => exact absurd (hc ▸ hmoves) Bool.noConfusion

/-- A station in a round takes a frame that bears another number with at most an ANSWER (R106, R109). -/
theorem recloseTakes_of_other (f : RxFrame) (a : State) (r : Round) (hround : a.reclose.round = some r)
    (hmoves : f.content.movesRound = true) (hother : f.content.roundNumber ≠ some r.number) :
    AnswersAtMost a (recloseTakes f a) := by
  have hsome : a.round = some r := hround
  have hno {n : Byte} (h : f.content.roundNumber = some n.toNat) : r.number ≠ n.toNat :=
    fun e => hother (h.trans (congrArg some e.symm))
  unfold recloseTakes
  split
  · exact .inl rfl
  · cases hc : f.content with
    | propose round paths closer count crc =>
        simp only [takePropose, hsome]
        repeat' split
        · exact .inl rfl
        · exact .inl rfl
        · exact .inr ⟨_, _, _, _, rfl⟩
        · exact .inr ⟨_, _, _, _, rfl⟩
    | answer round answer reason =>
        simp only [takeAnswer, hsome, if_pos (Or.inl (hno (by rw [hc]; rfl))), ite_self]
        exact .inl rfl
    | proceed round =>
        simp only [takeProceed, hsome, if_pos (Or.inl (hno (by rw [hc]; rfl)))]
        exact .inl rfl
    | closed round =>
        simp only [takeClosed, hsome, if_pos (Or.inl (hno (by rw [hc]; rfl)))]
        exact .inl rfl
    | complete round =>
        simp only [takeComplete, hsome, if_pos (Or.inl (hno (by rw [hc]; rfl)))]
        exact .inl rfl
    | abandon round =>
        simp only [takeAbandon, hsome, if_pos (hno (by rw [hc]; rfl))]
        exact .inl rfl
    | beat b => exact absurd (hc ▸ hmoves) Bool.noConfusion
    | notice n => exact absurd (hc ▸ hmoves) Bool.noConfusion
    | request p => exact absurd (hc ▸ hmoves) Bool.noConfusion
    | reply p => exact absurd (hc ▸ hmoves) Bool.noConfusion

theorem recloseTakes_of_unmoved (f : RxFrame) (a : State) (hmoves : f.content.movesRound = false) :
    recloseTakes f a = a ∨ ∃ b, f.content = .beat b ∧ recloseTakes f a =
      a.withReclose { a.reclose with lastRound := b.lastRound.toNat, lastCloser := b.lastCloser.toNat } := by
  unfold recloseTakes
  split
  · exact .inl rfl
  · cases hc : f.content with
    | beat b =>
        simp only
        split
        · exact .inr ⟨b, rfl, rfl⟩
        · exact .inl rfl
    | notice n => exact .inl rfl
    | request p => exact .inl rfl
    | reply p => exact .inl rfl
    | propose _ _ _ _ _ => exact absurd (hc ▸ hmoves) Bool.noConfusion
    | answer _ _ _ => exact absurd (hc ▸ hmoves) Bool.noConfusion
    | proceed _ => exact absurd (hc ▸ hmoves) Bool.noConfusion
    | closed _ => exact absurd (hc ▸ hmoves) Bool.noConfusion
    | complete _ => exact absurd (hc ▸ hmoves) Bool.noConfusion
    | abandon _ => exact absurd (hc ▸ hmoves) Bool.noConfusion

theorem recloseTakes_resting (f : RxFrame) (a : State) (h : a.Resting) : (recloseTakes f a).Resting := by
  cases hmoves : f.content.movesRound with
  | true =>
      rcases recloseTakes_of_idle f a h.round h.phase hmoves with (e | ⟨_, _, _, _, e⟩) | ⟨n, _, _, e⟩
      · rw [e]
        exact h
      · rw [e]
        exact ⟨h.phase, h.round, h.off⟩
      · rw [e]
        exact ⟨h.phase, h.round, h.off⟩
  | false =>
      rcases recloseTakes_of_unmoved f a hmoves with e | ⟨b, _, e⟩
      · rw [e]
        exact h
      · rw [e]
        exact ⟨h.phase, h.round, h.off⟩

theorem recloseTakes_side (f : RxFrame) (a : State) : Side f a (recloseTakes f a) := by
  have hreach := recloseTakes_reach f a
  refine .of_sublist ?_ (fun _ => ?_) (fun hj => ?_) (recloseTakes_resting f a) (recloseTakes_sublist f a)
    (fun hmoves => ?_) fun hmoves => ?_
  · rw [hreach]
  · rw [hreach]
  · rw [hreach]
    exact hj
  · rcases recloseTakes_of_unmoved f a hmoves with e | ⟨b, _, e⟩
    · rw [e]
      exact .refl a
    · rw [e]
      exact ⟨rfl, fun p => .inl (by cases p <;> rfl), .inl ⟨rfl, rfl, fun p => by cases p <;> rfl, rfl, rfl⟩⟩
  · rcases recloseTakes_of_unmoved f a hmoves with e | ⟨b, _, e⟩
    · rw [e]
    · rw [e]
      rfl

/-- Each block beside the membership unit, at a station at work that hears another rank (R163). -/
theorem act_side (f : RxFrame) (i : Taker) (hi : i ≠ .membership) (a : State) (hw : a.working = true)
    (hown : f.src.toNat ≠ a.rank) : Side f a (i.act f a) := by
  cases i with
  | membership => exact absurd rfl hi
  | list => exact listTakes_side f a hw hown
  | budget => exact budgetTakes_side f a
  | reclose => exact recloseTakes_side f a
  | window => exact windowTakes_side f a

end Sys2Proof.Machine
end

section
/-!
SUPPORT. A member heard (R3, R48, R80 to R86): what the membership unit leaves of roster, conditions, records and link, and a member's
frame as a whole.
-/
namespace Sys2Proof.Machine

/-! ### A LOST member heard again (R3, R11, R48) -/

/-- The record `x` is `y` once the list has taken the clearing of a condition: in its place, and not counted otherwise than by an
offer. -/
structure ClearedFrom (own : Nat) (id : CondId) (y x : Record) : Prop where
  key : x.key = y.key
  stale : x.stale = y.stale
  phase : x.key = id.key own → x.phase = .CLEARED

/-- An offer to the budget marks a record counted at most (R23). -/
theorem offerTaken_eq (s : State) (ch : Change) (r : Record) : ∃ counted, s.offerTaken ch r = { r with counted := counted } := by
  unfold State.offerTaken
  split
  · exact ⟨true, rfl⟩
  · exact ⟨r.counted, rfl⟩

theorem clearCond_records (id : CondId) (s : State) (x : Record) (hx : x ∈ (clearCond id s).trips.records) :
    ∃ y ∈ s.trips.records, ClearedFrom s.rank id y x := by
  have htrips : (clearCond id s).trips = _ :=
    (listReport_trips { before := s.trips.records, activated := [] } (clearOwn id (s.withConds (s.conds.set id .quiet)))).trans
      (takeOffers_trips _ _)
  rw [htrips] at hx
  obtain ⟨z, hz, rfl⟩ := List.mem_map.1 hx
  obtain ⟨y, hy, hyz⟩ := List.mem_map.1 hz
  have hcleared : ClearedFrom s.rank id y z := by
    rw [← hyz]
    by_cases hkey : y.hasKey (s.withConds (s.conds.set id .quiet)).rank id.kind id.subject = true
    · rw [if_pos hkey]
      exact ⟨rfl, rfl, fun _ => rfl⟩
    · rw [if_neg hkey]
      exact ⟨rfl, rfl, fun h => absurd ((Record.hasKey_iff ..).2 h) hkey⟩
  obtain ⟨counted, hoffer⟩ := offerTaken_eq (clearOwn id (s.withConds (s.conds.set id .quiet)))
    { before := s.trips.records, activated := [] } z
  rw [hoffer]
  exact ⟨y, hy, hcleared.key, hcleared.stale, hcleared.phase⟩

theorem clearCond_conds (id : CondId) (s : State) : (clearCond id s).conds = s.conds.set id .quiet :=
  (reportConds_within [id] [] (s.withConds (s.conds.set id .quiet))).rest .conds (by decide)

theorem clearCond_besideRounds (id : CondId) (s : State) : (clearCond id s).link.besideRounds = s.link.besideRounds :=
  listReport_besideRounds { before := s.trips.records, activated := [] } (clearOwn id (s.withConds (s.conds.set id .quiet)))

/-! ### The membership unit before its phase checks -/

/-- The roster once a frame of a roster rank is heard (R80, R82). -/
def heardRoster (f : RxFrame) (s : State) : List Entry :=
  updateEntry f.src.toNat (Entry.takeFrame s.cfg.silenceTime s.load.digest f.content) s.roster

/-- What the membership unit does with a frame of a roster rank (R79, R86). -/
theorem membershipTakes_eq (f : RxFrame) (e : Entry) (s : State) (hown : f.src.toNat ≠ s.rank)
    (he : s.entry f.src.toNat = some e) :
    membershipTakes f s = if f.content.beat?.isSome ∨ e.status ≠ .PRESENT
      then phaseChecks (memberHeard f e s) else memberHeard f e s := by
  unfold membershipTakes
  rw [if_neg hown, he]
  rfl

theorem memberHeard_of_lost (f : RxFrame) (e : Entry) (s : State) (h : e.status = .LOST) :
    memberHeard f e s = markStale f.src.toNat false (memberFound f.src.toNat (s.withRoster (heardRoster f s))) := if_pos h

theorem memberHeard_of_not_lost (f : RxFrame) (e : Entry) (s : State) (h : e.status ≠ .LOST) :
    memberHeard f e s = s.withRoster (heardRoster f s) := if_neg h

theorem memberFound_within (r : Nat) (s : State) : Within condReach s (memberFound r s) := by
  unfold memberFound
  split
  · exact clearCond_within _ s
  · exact .refl _ s

theorem memberHeard_within (f : RxFrame) (e : Entry) (s : State) : Within (.roster :: condReach) s (memberHeard f e s) := by
  have hroster : Within (.roster :: condReach) s (s.withRoster (heardRoster f s)) := (withRoster_within s _).mono (by decide)
  by_cases h : e.status = .LOST
  · rw [memberHeard_of_lost f e s h]
    exact hroster.trans (((memberFound_within _ _).mono (by decide)).trans ((withTrips_within _ _).mono (by decide)))
  · rw [memberHeard_of_not_lost f e s h]
    exact hroster

theorem memberHeard_roster (f : RxFrame) (e : Entry) (s : State) : (memberHeard f e s).roster = heardRoster f s := by
  by_cases h : e.status = .LOST
  · have hfound : (memberFound f.src.toNat (s.withRoster (heardRoster f s))).roster = heardRoster f s :=
      (memberFound_within f.src.toNat (s.withRoster (heardRoster f s))).rest .roster (by decide)
    rw [memberHeard_of_lost f e s h]
    exact hfound
  · rw [memberHeard_of_not_lost f e s h, State.withRoster_roster]

theorem memberHeard_besideRounds (f : RxFrame) (e : Entry) (s : State) :
    (memberHeard f e s).link.besideRounds = s.link.besideRounds := by
  by_cases h : e.status = .LOST
  · have hfound : (memberFound f.src.toNat (s.withRoster (heardRoster f s))).link.besideRounds = s.link.besideRounds := by
      unfold memberFound
      split
      · exact clearCond_besideRounds _ _
      · rfl
    rw [memberHeard_of_lost f e s h]
    exact hfound
  · rw [memberHeard_of_not_lost f e s h, State.withRoster_link]

/-- A MEMBER LOST condition that is TRIPPED turns QUIET as its member is heard, and no other condition changes (R48). -/
theorem memberHeard_conds (f : RxFrame) (e : Entry) (s : State) (h : e.status = .LOST) :
    (memberHeard f e s).conds = if (s.conds.get (lostCond f.src.toNat)).state = .TRIPPED
      then s.conds.set (lostCond f.src.toNat) .quiet else s.conds := by
  rw [memberHeard_of_lost f e s h]
  show (memberFound f.src.toNat (s.withRoster (heardRoster f s))).conds = _
  unfold memberFound
  rw [State.withRoster_conds]
  split
  · exact clearCond_conds _ _
  · rfl

/-- The record `x` is `y` once its origin, or a subject of it, is heard again: not stale, and that of a TRIPPED MEMBER LOST condition
CLEARED (R3, R48). -/
structure FoundFrom (src : Nat) (s : State) (y x : Record) : Prop where
  key : x.key = y.key
  own : x.origin = src → x.stale = false
  foreign : x.origin ≠ src → x.stale = y.stale
  phase : (s.conds.get (lostCond src)).state = .TRIPPED → x.key = (s.rank, .memberLost, some src) → x.phase = .CLEARED

theorem memberHeard_records (f : RxFrame) (e : Entry) (s : State) (h : e.status = .LOST) (x : Record)
    (hx : x ∈ (memberHeard f e s).trips.records) : ∃ y ∈ s.trips.records, FoundFrom f.src.toNat s y x := by
  rw [memberHeard_of_lost f e s h] at hx
  obtain ⟨z, hz, rfl⟩ := List.mem_map.1 hx
  have hfound : ∃ y ∈ s.trips.records, z.key = y.key ∧ z.stale = y.stale ∧
      ((s.conds.get (lostCond f.src.toNat)).state = .TRIPPED → z.key = (s.rank, .memberLost, some f.src.toNat) →
        z.phase = .CLEARED) := by
    unfold memberFound at hz
    rw [State.withRoster_conds] at hz
    split at hz
    · obtain ⟨y, hy, hclear⟩ := clearCond_records _ _ z hz
      exact ⟨y, hy, hclear.key, hclear.stale, fun _ hkey => hclear.phase hkey⟩
    · rename_i hnot
      exact ⟨z, hz, rfl, rfl, fun ht => absurd ht hnot⟩
  obtain ⟨y, hy, hkey, hstale, hphase⟩ := hfound
  refine ⟨y, hy, ?_⟩
  by_cases ho : z.origin = f.src.toNat
  · rw [if_pos (beq_iff_eq.2 ho)]
    exact ⟨hkey, fun _ => rfl, fun hno => absurd ho hno, hphase⟩
  · rw [if_neg (by simpa using ho)]
    exact ⟨hkey, fun hyes => absurd hyes ho, fun _ => hstale, hphase⟩

/-! ### The membership unit as a whole -/

theorem phaseChecks_besideRounds (s : State) : (phaseChecks s).link.besideRounds = s.link.besideRounds := by
  rcases phaseChecks_cases s with h | ⟨p, _, _, _, _, h⟩
  · rw [h]
  · rw [h, changePhase_besideRounds]

theorem membershipTakes_within (f : RxFrame) (e : Entry) (s : State) (hown : f.src.toNat ≠ s.rank)
    (he : s.entry f.src.toNat = some e) : Within ([.phase, .roster, .formation] ++ condReach) s (membershipTakes f s) := by
  have hheard : Within ([.phase, .roster, .formation] ++ condReach) s (memberHeard f e s) :=
    (memberHeard_within f e s).mono (by decide)
  rw [membershipTakes_eq f e s hown he]
  split
  · exact hheard.trans ((phaseChecks_within _).mono (by decide))
  · exact hheard

/-- After the phase checks, if any, roster and conditions are as before them, and the records but for the counted marks. -/
theorem membershipTakes_heard (f : RxFrame) (e : Entry) (s : State) (hown : f.src.toNat ≠ s.rank)
    (he : s.entry f.src.toNat = some e) :
    (membershipTakes f s).roster = heardRoster f s ∧ (membershipTakes f s).conds = (memberHeard f e s).conds ∧
      (membershipTakes f s).link.besideRounds = s.link.besideRounds ∧
      ∃ leaves, (membershipTakes f s).trips.records = (memberHeard f e s).trips.records.map (countCurrent leaves) := by
  have hroster := memberHeard_roster f e s
  have hlink := memberHeard_besideRounds f e s
  rw [membershipTakes_eq f e s hown he]
  generalize memberHeard f e s = u at hroster hlink
  split
  · have hwithin := phaseChecks_within u
    have hsame : (phaseChecks u).roster = u.roster := hwithin.rest .roster (by decide)
    exact ⟨hsame.trans hroster, hwithin.rest .conds (by decide),
      (phaseChecks_besideRounds u).trans hlink, phaseChecks_records u⟩
  · refine ⟨hroster, rfl, hlink, false, ?_⟩
    have hid : countCurrent false = id := by
      funext r
      simp [countCurrent]
    rw [hid, List.map_id]

theorem membershipTakes_records (f : RxFrame) (e : Entry) (s : State) (hown : f.src.toNat ≠ s.rank)
    (he : s.entry f.src.toNat = some e) (h : e.status = .LOST) (x : Record)
    (hx : x ∈ (membershipTakes f s).trips.records) : ∃ y ∈ s.trips.records, FoundFrom f.src.toNat s y x := by
  obtain ⟨_, _, _, leaves, hrecords⟩ := membershipTakes_heard f e s hown he
  rw [hrecords] at hx
  obtain ⟨z, hz, rfl⟩ := List.mem_map.1 hx
  obtain ⟨y, hy, hfound⟩ := memberHeard_records f e s h z hz
  exact ⟨y, hy, hfound.key, hfound.own, hfound.foreign, hfound.phase⟩

/-! ### A member's frame as a whole -/

/-- A member's frame at the station `s`: the other blocks leave `a` to the membership unit, and `t` after it. -/
structure Heard (f : RxFrame) (e : Entry) (s a t : State) : Prop where
  before : Side f s a
  after : Side f (membershipTakes f a) t
  entry : a.entry f.src.toNat = some e
  own : f.src.toNat ≠ a.rank
  working : a.working = true

theorem Side.same {f : RxFrame} {a c : State} (h : Side f a c) : c.phase = a.phase ∧ c.conflict = a.conflict ∧
    c.formation = a.formation ∧ c.roster = a.roster ∧ c.conds = a.conds ∧ c.meas = a.meas ∧ c.beats = a.beats ∧
    c.cfg = a.cfg ∧ c.load = a.load := by
  rw [h.frame]
  exact ⟨rfl, rfl, rfl, rfl, rfl, rfl, rfl, rfl, rfl⟩

theorem Side.rank {f : RxFrame} {a c : State} (h : Side f a c) : c.rank = a.rank := by
  rw [h.frame]
  rfl

theorem Side.working {f : RxFrame} {a c : State} (h : Side f a c) : c.working = a.working := by
  rw [h.frame]
  rfl

/-- The membership unit keeps a station at work, under its rank (R202). -/
theorem membershipTakes_works (f : RxFrame) (e : Entry) (a : State) (hw : a.working = true) (hown : f.src.toNat ≠ a.rank)
    (he : a.entry f.src.toNat = some e) :
    (membershipTakes f a).working = true ∧ f.src.toNat ≠ (membershipTakes f a).rank := by
  refine ⟨?_, ?_⟩
  · rcases membershipTakes_phase f e a hown he with hp | ⟨_, hp⟩
    · exact State.working_of_phase hp hw
    · exact hp
  · rw [(membershipTakes_soft f e a hown he).rank]
    exact hown

/-- A relation that holds at a station at work that hears another rank. -/
def AtWork (f : RxFrame) (P : State → State → Prop) (a c : State) : Prop :=
  a.working = true → f.src.toNat ≠ a.rank → P a c

theorem atWork_trans {f : RxFrame} {P : State → State → Prop} (hside : ∀ a c, P a c → Side f a c)
    (htrans : ∀ a b c, P a b → P b c → P a c) (a b c : State) (h : AtWork f P a b) (g : AtWork f P b c) : AtWork f P a c := by
  intro hw hown
  have hab := h hw hown
  have hs := hside a b hab
  exact htrans a b c hab (g (hs.working.trans hw) (by rw [hs.rank]; exact hown))

/-- What the other blocks do before the membership unit and after it makes a frame heard. -/
theorem heard_of_sides {f : RxFrame} {e : Entry} {s a t : State} (hw : s.working = true) (hown : f.src.toNat ≠ s.rank)
    (he : s.entry f.src.toNat = some e) (hbefore : AtWork f (Side f) s a)
    (hafter : AtWork f (Side f) (membershipTakes f a) t) : Heard f e s a t := by
  have hside := hbefore hw hown
  obtain ⟨_, _, _, hroster, _⟩ := hside.same
  have hentry : a.entry f.src.toNat = some e := by
    unfold State.entry
    rw [hroster]
    exact he
  have hrank : f.src.toNat ≠ a.rank := by
    rw [hside.rank]
    exact hown
  have hwork : a.working = true := hside.working.trans hw
  obtain ⟨hmwork, hmown⟩ := membershipTakes_works f e a hwork hrank hentry
  exact ⟨hside, hafter hmwork hmown, hentry, hrank, hwork⟩

theorem memberFrame_heard (f : RxFrame) (e : Entry) (s : State) (hf : f.content.isRequest = false) (hw : s.working = true)
    (hown : f.src.toNat ≠ s.rank) (he : s.entry f.src.toNat = some e) :
    ∃ a, Heard f e s a (inAnyOrder (takers f) s) := by
  obtain ⟨others, hothers⟩ := memberTakers_head f.content
  obtain ⟨a, hbefore, hafter⟩ := inAnyOrder_split f (AtWork f (Side f)) (fun a _ _ => .refl f a)
    (atWork_trans (fun _ _ h => h) fun _ _ _ h g => h.trans g)
    (fun a n _ _ => .freeCount f a n) (memberTakers f.content) (memberTakers_nodup _) (by rw [hothers]; exact .head _)
    (fun i _ hi a hwork ho => act_side f i hi a hwork ho) s
  rw [takers_named f hf]
  exact ⟨a, heard_of_sides hw hown he hbefore hafter⟩

section
variable {f : RxFrame} {e : Entry} {s a t : State}

theorem Heard.roster (h : Heard f e s a t) : t.roster = heardRoster f s := by
  obtain ⟨_, _, _, hroster, _, _, _, hcfg, hload⟩ := h.before.same
  have hafter := (membershipTakes_heard f e a h.own h.entry).1
  obtain ⟨_, _, _, hlast, _⟩ := h.after.same
  rw [hlast, hafter]
  unfold heardRoster
  rw [hroster, hcfg, hload]

theorem takeBeat_same (digest : Half) (b : BeatFields) (x : Entry) : (x.takeBeat digest b).rank = x.rank ∧
    (x.takeBeat digest b).status = x.status ∧ (x.takeBeat digest b).silence = x.silence := by
  unfold Entry.takeBeat
  cases x.beat <;> exact ⟨rfl, rfl, rfl⟩

theorem takeFrame_rank (silence : Nat) (digest : Half) (c : Content) (x : Entry) :
    (x.takeFrame silence digest c).rank = x.rank := by
  unfold Entry.takeFrame
  split
  · exact (takeBeat_same _ _ _).1
  · rfl

theorem takeFrame_status (silence : Nat) (digest : Half) (c : Content) (x : Entry) :
    (x.takeFrame silence digest c).status = .PRESENT ∧ (x.takeFrame silence digest c).silence = .running silence := by
  unfold Entry.takeFrame
  split
  · exact (takeBeat_same _ _ _).2
  · exact ⟨rfl, rfl⟩

theorem Heard.entry_before (h : Heard f e s a t) : s.entry f.src.toNat = some e := by
  obtain ⟨_, _, _, hroster, _⟩ := h.before.same
  have he := h.entry
  unfold State.entry at he ⊢
  rwa [hroster] at he

theorem Heard.entry_eq (h : Heard f e s a t) : t.entry f.src.toNat =
    some (e.takeFrame s.cfg.silenceTime s.load.digest f.content) := by
  unfold State.entry
  rw [h.roster]
  exact find_updateEntry _ (takeFrame_rank _ _ _) h.entry_before

theorem Heard.entry_other (h : Heard f e s a t) (r : Nat) (hr : r ≠ f.src.toNat) : t.entry r = s.entry r := by
  unfold State.entry
  rw [h.roster, heardRoster, updateEntry_eq, List.find?_map]
  have hsame : (fun x : Entry => x.rank == r) ∘ (fun x => if x.rank = f.src.toNat
      then x.takeFrame s.cfg.silenceTime s.load.digest f.content else x) = fun x => x.rank == r := by
    funext x
    simp only [Function.comp_apply]
    split <;> simp [takeFrame_rank]
  rw [hsame]
  cases hf : s.roster.find? fun x => x.rank == r with
  | none => rfl
  | some x =>
      have hx : x.rank = r := by simpa using List.find?_some hf
      simp [hx, hr]

/-- What the frame leaves of the parts that neither the membership unit nor a block beside it reaches. -/
theorem Heard.rest (h : Heard f e s a t) : t.conflict = s.conflict ∧ t.meas = s.meas ∧ t.beats = s.beats ∧ t.cfg = s.cfg ∧
    t.load = s.load := by
  obtain ⟨_, hconflict, _, _, _, hmeas, hbeats, hcfg, hload⟩ := h.before.same
  obtain ⟨_, hconflict', _, _, _, hmeas', hbeats', hcfg', hload'⟩ := h.after.same
  have hw := membershipTakes_within f e a h.own h.entry
  have mconflict : (membershipTakes f a).conflict = a.conflict := hw.rest .conflict (by decide)
  have mmeas : (membershipTakes f a).meas = a.meas := hw.rest .meas (by decide)
  have mbeats : (membershipTakes f a).beats = a.beats := hw.rest .beats (by decide)
  have mcfg : (membershipTakes f a).cfg = a.cfg := hw.rest .cfg (by decide)
  have mload : (membershipTakes f a).load = a.load := hw.rest .load (by decide)
  rw [hconflict', mconflict, hmeas', mmeas, hbeats', mbeats, hcfg', mcfg, hload', mload]
  exact ⟨hconflict, hmeas, hbeats, hcfg, hload⟩

theorem Heard.stop (h : Heard f e s a t) (hn : ∀ n, f.content ≠ .notice n) : t.stop = s.stop := by
  have hm : (membershipTakes f a).stop = a.stop := (membershipTakes_within f e a h.own h.entry).rest .stop (by decide)
  rw [h.after.stop hn, hm, h.before.stop hn]

theorem Heard.beside (h : Heard f e s a t) (hm : f.content.movesRound = false) :
    t.link.besideRounds = s.link.besideRounds := by
  obtain ⟨_, _, hlink, _⟩ := membershipTakes_heard f e a h.own h.entry
  exact ((h.after.beside hm).trans hlink).trans (h.before.beside hm)

theorem Heard.course (h : Heard f e s a t) (hm : f.content.movesRound = false) : Course s t :=
  ((h.before.course hm).trans (membershipTakes_course f e a h.own h.entry)).trans (h.after.course hm)

theorem Heard.conds (h : Heard f e s a t) (hl : e.status = .LOST) :
    t.conds = if (s.conds.get (lostCond f.src.toNat)).state = .TRIPPED
      then s.conds.set (lostCond f.src.toNat) .quiet else s.conds := by
  obtain ⟨_, _, _, _, hconds, _⟩ := h.before.same
  obtain ⟨_, _, _, _, hconds', _⟩ := h.after.same
  rw [hconds', (membershipTakes_heard f e a h.own h.entry).2.1, memberHeard_conds f e a hl, hconds]

/-- No record of a member heard again is stale, and those of other origins keep their stale marks (R3). -/
theorem Heard.stale (h : Heard f e s a t) (hl : e.status = .LOST) (x : Record) (hx : x ∈ t.trips.records) :
    (x.origin = f.src.toNat → x.stale = false) ∧
    (x.origin ≠ f.src.toNat → ∃ y ∈ s.trips.records, x.key = y.key ∧ x.stale = y.stale) := by
  refine ⟨fun ho => ?_, fun ho => ?_⟩
  · rcases h.after.member x hx ho with hfresh | ⟨y, hy, hyo, hstale⟩
    · exact hfresh
    · obtain ⟨_, _, hfound⟩ := membershipTakes_records f e a h.own h.entry hl y hy
      exact hstale.trans (hfound.own hyo)
  · obtain ⟨y, hy, hkey, hstale, _⟩ := h.after.foreign x hx ho
    have hyo : y.origin ≠ f.src.toNat := (Record.key_eq.1 hkey).1 ▸ ho
    obtain ⟨z, hz, hfound⟩ := membershipTakes_records f e a h.own h.entry hl y hy
    have hzo : z.origin ≠ f.src.toNat := (Record.key_eq.1 hfound.key).1 ▸ hyo
    obtain ⟨u, hu, hkey', hstale', _⟩ := h.before.foreign z hz hzo
    exact ⟨u, hu, (hkey.trans hfound.key).trans hkey', (hstale.trans (hfound.foreign hyo)).trans hstale'⟩

/-- The record of a TRIPPED MEMBER LOST condition is CLEARED as its member is heard again (R11, R48). -/
theorem Heard.cleared (h : Heard f e s a t) (hl : e.status = .LOST)
    (htripped : (s.conds.get (lostCond f.src.toNat)).state = .TRIPPED) (x : Record) (hx : x ∈ t.trips.records)
    (hkey : x.key = (s.rank, .memberLost, some f.src.toNat)) : x.phase = .CLEARED := by
  obtain ⟨_, _, _, _, hconds, _⟩ := h.before.same
  have hrank := h.before.rank
  have ho : x.origin ≠ f.src.toNat := by
    have horigin : x.origin = s.rank := congrArg Prod.fst hkey
    rw [horigin, ← hrank]
    exact h.own.symm
  obtain ⟨y, hy, hsame, _, hphase⟩ := h.after.foreign x hx ho
  obtain ⟨_, _, hfound⟩ := membershipTakes_records f e a h.own h.entry hl y hy
  exact hphase.trans (hfound.phase (by rw [hconds]; exact htripped) (by rw [← hsame, hkey, hrank]))

end

end Sys2Proof.Machine
end

section
/-!
SUPPORT. What a BEAT makes of its entry, and what any frame makes of a LOST member (R3, R11, R48, R80 to R86, R162).
-/
namespace Sys2Proof.Machine

/-! ### The beat values (R82, R164) -/

theorem phase_ofCode_byte (p : Byte) (h : 1 ≤ p.toNat ∧ p.toNat ≤ 4) : (Phase.ofCode p.toNat).getD .FORMING =
    if p = 1 then .FORMING else if p = 2 then .OPERATING else if p = 3 then .CONFINED else .HALTED := by
  have hp : p = 1 ∨ p = 2 ∨ p = 3 ∨ p = 4 := by bv_omega
  rcases hp with rfl | rfl | rfl | rfl <;> rfl

theorem switch_ofCode_byte (p : Byte) (h : 1 ≤ p.toNat ∧ p.toNat ≤ 5) : (SwState.ofCode p.toNat).getD .OPEN =
    if p = 1 then .OPEN else if p = 2 then .CLOSING else if p = 3 then .CLOSED else if p = 4 then .OPENING
      else .FAULTED := by
  have hp : p = 1 ∨ p = 2 ∨ p = 3 ∨ p = 4 ∨ p = 5 := by bv_omega
  rcases hp with rfl | rfl | rfl | rfl | rfl <;> rfl

theorem seqMissed_eq (new old : Half) : seqMissed new old =
    if new.toNat < old.toNat ∧ 255 < (new - old).toNat then 0 else (new - old).toNat - 1 := by
  unfold seqMissed seqRestart
  simp only [decide_eq_true_eq]
  rfl

theorem restarted_iff (new old : Half) (p q : Phase) : (seqRestart new old || phaseRestart p q) = true ↔
    (new.toNat < old.toNat ∧ 255 < (new - old).toNat) ∨ ((p = .FORMING ∨ p = .HALTED) ∧ p ≠ q) := by
  unfold seqRestart phaseRestart
  simp only [Bool.or_eq_true, Bool.and_eq_true, decide_eq_true_eq, beq_iff_eq, bne_iff_ne]
  rfl

/-- The entry of a member whose BEAT is taken, field by field (R80, R82 to R84). -/
theorem takeFrame_beat (silence : Nat) (digest : Half) (b : BeatFields) (e : Entry) :
    e.takeFrame silence digest (.beat b) = { e with
      status := .PRESENT, silence := .running silence
      beat := some (BeatValues.ofFields digest b)
      missed := match e.beat with
        | none => e.missed
        | some old => min (e.missed + seqMissed b.seq old.seq) 65535
      restarts := match e.beat with
        | none => e.restarts
        | some old => if seqRestart b.seq old.seq || phaseRestart (BeatValues.ofFields digest b).phase old.phase
            then min (e.restarts + 1) 65535 else e.restarts } := by
  obtain ⟨rank, status, beat, missed, restarts, timer⟩ := e
  cases beat <;> rfl

/-- A MEMBER LOST condition that is TRIPPED is one the set holds (R28). -/
theorem holdsLost_of_tripped {c : Conds} {r : Nat} (h : (c.get (lostCond r)).state = .TRIPPED) : c.holdsLost r := by
  unfold Conds.get lostCond at h
  simp only at h
  split at h
  · rename_i l hl
    exact ⟨l, List.mem_of_find?_eq_some hl, by simpa using List.find?_some hl⟩
  · exact absurd h nofun

/-- Settles O31: the entry is the one the frame leaves, as no other block writes the roster; a LOST member's condition, records and
stale marks are as the membership unit leaves them. -/
theorem beatUpdatesEntry : Obligations.BeatUpdatesEntry := by
  refine ⟨fun src b s e hw hlisten hsrc hwf hown he => ?_, fun src c s e hw hlisten hsrc hown he hlost hc => ?_⟩
  · obtain ⟨f, hf⟩ := memberFrame_brings (src := src) (.inl ⟨b, hwf, rfl⟩)
    have hbeat : f.content = .beat b := (hf.beat b).1 rfl
    obtain ⟨a, h⟩ := memberFrame_heard f e s.heard hf.member hw (hf.source ▸ hown) (hf.source ▸ he)
    refine ⟨_, hf.taken hsrc hw hlisten, ?_⟩
    generalize inAnyOrder (takers f) s.heard = t at h
    obtain ⟨_, hmeas, hbeats, hcfg, hload⟩ := h.rest
    have hbeside := (settle_besideRounds s.heard t).trans (h.beside (by rw [hbeat]; rfl))
    have hentry := h.entry_eq
    rw [hf.source, hbeat, takeFrame_beat] at hentry
    have hother := h.entry_other
    rw [hf.source] at hother
    simp only [BeatFields.wf, Bool.and_eq_true, decide_eq_true_eq] at hwf
    obtain ⟨⟨⟨hp, hcharge⟩, hdischarge⟩, _⟩ := hwf
    unfold State.entry at hentry hother ⊢
    simp only [settle_roster, settle_meas, settle_beats, settle_stop, settle_cfg, settle_load]
    refine ⟨?_, hother, Link.same_of_beside (·.counters.framesGood) hbeside, hmeas, hbeats,
      h.stop fun n hn => ?_, hcfg, hload⟩
    · rw [hentry]
      simp only [seqMissed_eq, restarted_iff, BeatValues.ofFields, phase_ofCode_byte b.phase hp, switch_ofCode_byte b.chargeState hcharge,
        switch_ofCode_byte b.dischargeState hdischarge]
      rfl
    · rw [hbeat] at hn
      exact Content.noConfusion hn
  · obtain ⟨f, hf⟩ := memberFrame_brings hc
    obtain ⟨a, h⟩ := memberFrame_heard f e s.heard hf.member hw (hf.source ▸ hown) (hf.source ▸ he)
    refine ⟨_, hf.taken hsrc hw hlisten, ?_⟩
    generalize inAnyOrder (takers f) s.heard = t at h
    obtain rfl := hf.source
    have hentry := h.entry_eq
    have hconds : t.conds = if (s.conds.get (lostCond f.src.toNat)).state = .TRIPPED
      then s.conds.set (lostCond f.src.toNat) .quiet else s.conds := h.conds hlost
    have hstale := h.stale hlost
    have hcleared := h.cleared hlost
    obtain ⟨hstatus, hsilence⟩ := takeFrame_status s.cfg.silenceTime s.load.digest f.content e
    unfold State.entry at hentry ⊢
    simp only [settle_roster, settle_trips, settle_conds]
    refine ⟨?_, ?_, fun x hx => (hstale x hx).1, fun x hx => (hstale x hx).2, fun ht => ⟨?_, fun x hx => hcleared ht x hx⟩,
      fun ht => ?_, ?_⟩
    · rw [hentry]
      exact congrArg some hstatus
    · rw [hentry]
      exact congrArg some hsilence
    · rw [hconds, if_pos ht]
      exact get_set_lost_self _ _ _ (holdsLost_of_tripped ht)
    · rw [hconds, if_neg ht]
    · rw [hconds]
      split <;> rfl

end Sys2Proof.Machine
end

section
/-!
SUPPORT. The phase a member's frame leaves (R86, R91, R93, R94, R116, R123, R139, R202), and what leaving FORMING and OPERATING by it
does to list, budget and round (R128).
-/
namespace Sys2Proof.Machine

section
variable {f : RxFrame} {e : Entry} {s a t : State}

/-! ### The phase checks of a frame (R91, R93, R94) -/

/-- The frame has its phase checks: it is a BEAT, or it makes its member PRESENT (R86). -/
def RxFrame.checks (f : RxFrame) (e : Entry) : Prop := f.content.beat?.isSome = true ∨ e.status ≠ .PRESENT

theorem Heard.checked (h : Heard f e s a t) (hc : f.checks e) : membershipTakes f a = phaseChecks (memberHeard f e a) := by
  rw [membershipTakes_eq f e a h.own h.entry]
  exact if_pos hc

/-- What the phase checks find of the station before the frame, and of the roster after it. -/
theorem Heard.found (h : Heard f e s a t) : (memberHeard f e a).phase = s.phase ∧ (memberHeard f e a).conflict = s.conflict ∧
    (memberHeard f e a).roster = t.roster ∧ (memberHeard f e a).cfg = s.cfg := by
  obtain ⟨hphase, hconflict, _, hroster, _, _, _, hcfg, hload⟩ := h.before.same
  have hw := memberHeard_within f e a
  have mphase : (memberHeard f e a).phase = a.phase := hw.rest .phase (by decide)
  have mconflict : (memberHeard f e a).conflict = a.conflict := hw.rest .conflict (by decide)
  have mcfg : (memberHeard f e a).cfg = a.cfg := hw.rest .cfg (by decide)
  refine ⟨mphase.trans hphase, mconflict.trans hconflict, ?_, mcfg.trans hcfg⟩
  rw [memberHeard_roster, h.roster]
  unfold heardRoster
  rw [hroster, hcfg, hload]

theorem Heard.phase (h : Heard f e s a t) (hc : f.checks e) :
    (s.phase = .FORMING → (t.phase = .OPERATING ↔ t.allFormed) ∧ (t.phase = .OPERATING ∨ t.phase = .FORMING)) ∧
    (s.phase = .OPERATING → (t.phase = .CONFINED ↔ t.anyMismatched) ∧ (t.phase = .OPERATING ∨ t.phase = .CONFINED)) ∧
    (s.phase = .CONFINED → (t.phase = .OPERATING ↔ s.conflict = false ∧ ¬ t.anyMismatched) ∧
      (t.phase = .OPERATING ∨ t.phase = .CONFINED)) := by
  obtain ⟨hphase, hconflict, hroster, _⟩ := h.found
  obtain ⟨hforming, hoperating, hconfined⟩ := phaseChecks_phase (memberHeard f e a)
  have hlast : t.phase = (phaseChecks (memberHeard f e a)).phase := by
    rw [← h.checked hc]
    exact h.after.same.1
  unfold State.allFormed State.anyMismatched at *
  rw [hphase, hroster, ← hlast] at hforming hoperating
  rw [hphase, hroster, hconflict, ← hlast] at hconfined
  exact ⟨hforming, hoperating, hconfined⟩

/-- The member whose frame it is is PRESENT after it, with the digest match of a BEAT. -/
theorem Heard.present (h : Heard f e s a t) : ∃ x ∈ t.roster, x.status = .PRESENT ∧
    ∀ b, f.content = .beat b → x.beat.map (·.digestMatch) = some (b.digest == s.load.digest) := by
  refine ⟨_, List.mem_of_find?_eq_some h.entry_eq, (takeFrame_status _ _ _ _).1, fun b hb => ?_⟩
  rw [hb, takeFrame_beat]
  rfl

/-- No PRESENT entry holds digest match NO after a BEAT with the own digest where none did before. -/
theorem Heard.matched (h : Heard f e s a t) (b : BeatFields) (hb : f.content = .beat b) (hdigest : b.digest = s.load.digest)
    (hs : ¬ s.anyMismatched) : ¬ t.anyMismatched := by
  rintro ⟨x, hx, hpresent, hno⟩
  rw [h.roster, heardRoster, updateEntry_eq] at hx
  obtain ⟨y, hy, rfl⟩ := List.mem_map.1 hx
  by_cases hr : y.rank = f.src.toNat
  · rw [if_pos hr, hb, takeFrame_beat] at hno
    have hmatch : (b.digest == s.load.digest) = false := Option.some.inj hno
    rw [hdigest] at hmatch
    simp at hmatch
  · rw [if_neg hr] at hpresent hno
    exact hs ⟨y, hy, hpresent, hno⟩

/-! ### The phase left -/

/-- The frame leads out of the phase: by a change of phase in the membership unit. -/
theorem Heard.changed (h : Heard f e s a t) (hc : f.checks e) (hne : t.phase ≠ s.phase) :
    membershipTakes f a = changePhase t.phase (memberHeard f e a) := by
  have hlast : t.phase = (membershipTakes f a).phase := h.after.same.1
  rcases phaseChecks_cases (memberHeard f e a) with hstay | ⟨p, _, _, _, _, hchange⟩
  · refine absurd ?_ hne
    rw [hlast, h.checked hc, hstay]
    exact h.found.1
  · have hp : t.phase = p := by rw [hlast, h.checked hc, hchange, changePhase_phase]
    rw [hp, h.checked hc, hchange]

/-- From OPERATING to CONFINED: both switches off and no round (R116, R139, R202). -/
theorem Heard.confined (h : Heard f e s a t) (hc : f.checks e) (hs : s.phase = .OPERATING) (ht : t.phase = .CONFINED) :
    (membershipTakes f a).Resting ∧ t.Resting := by
  have hphase : (memberHeard f e a).phase = .OPERATING := h.found.1.trans hs
  have hchange := h.changed hc (by rw [hs, ht]; decide)
  obtain ⟨hoff, hround, _⟩ := changePhase_leavesOperating t.phase (memberHeard f e a) hphase
  have hresting : (membershipTakes f a).Resting := by
    refine ⟨?_, by rw [hchange]; exact hround, by rw [hchange]; exact hoff⟩
    rw [← h.after.same.1, ht]
    decide
  exact ⟨hresting, h.after.resting hresting⟩

/-- From FORMING to OPERATING: the formation timer stops and the budget has joined (R91, R128). -/
theorem Heard.formed (h : Heard f e s a t) (hc : f.checks e) (hs : s.phase = .FORMING) (ht : t.phase = .OPERATING) :
    t.formation = .stopped ∧ t.budget.joined = true ∧ BudgetLeavesForming (memberHeard f e a) (membershipTakes f a) ∧
      (UniqueKeys s → AllCounted t) := by
  have hphase : (memberHeard f e a).phase = .FORMING := h.found.1.trans hs
  have hchange := h.changed hc (by rw [hs, ht]; decide)
  obtain ⟨hbudget, hcounted⟩ := changePhase_leavesForming t.phase (memberHeard f e a) hphase
  rw [← hchange] at hbudget hcounted
  refine ⟨?_, h.after.joined hbudget.1, hbudget, fun hk => h.after.counted ?_ ?_ hcounted⟩
  · obtain ⟨_, _, hformation, _⟩ := h.after.same
    rw [hformation, hchange, changePhase_of_forming _ _ hphase, if_pos ht]
    rfl
  · exact (membershipTakes_scope f a).uniqueKeys (h.before.keys hk)
  · rw [← h.after.same.1, ht]
    decide

end

end Sys2Proof.Machine
end

section
/-!
SUPPORT. The budget as a member's frame leads the station out of FORMING, where the frame brings nothing new (R23, R127, R128).
-/
namespace Sys2Proof.Machine

/-! ### A list that keeps its trip ids -/

/-- What the records are to the budget: their keys and trip ids. -/
def recordIds (l : List Record) : List ((Nat × Kind × Option Nat) × Nat) := l.map fun x => (x.key, x.tripId)

/-- The current-class records not counted yet (R128). -/
def uncounted (l : List Record) : Nat := (l.filter fun x => x.kind.currentClass && !x.counted).length

/-- The number not counted goes by keys and marks. -/
theorem uncounted_congr {l m : List Record}
    (h : m.map (fun x => (x.key, x.counted)) = l.map fun x => (x.key, x.counted)) : uncounted m = uncounted l := by
  have hview (k : List Record) : uncounted k =
      ((k.map fun x => (x.key, x.counted)).filter fun p => p.1.2.1.currentClass && !p.2).length := by
    rw [List.filter_map, List.length_map]
    rfl
  rw [hview, hview, h]

section
variable {src : Nat} {l m : List Record} (hk : (l.map Record.key).Nodup) (h : ListTaken src l m)
  (hids : recordIds m = recordIds l)
include hk h hids

/-- Where a frame leaves keys and trip ids, each record stands for one held, with its mark. -/
theorem taken_of_ids (x : Record) (hx : x ∈ m) : ∃ y ∈ l, x.key = y.key ∧ x.tripId = y.tripId ∧ x.counted = y.counted := by
  have hin : (x.key, x.tripId) ∈ recordIds l := hids ▸ List.mem_map.2 ⟨x, hx, rfl⟩
  obtain ⟨y, hy, hpair⟩ := List.mem_map.1 hin
  obtain ⟨hkey, hid⟩ := Prod.mk.inj hpair
  rcases h x hx with ⟨z, hz, htaken⟩ | ⟨_, _, hfresh⟩
  · obtain rfl := List.inj_on_of_nodup_map hk hy hz (hkey.trans htaken.key)
    refine ⟨y, hy, hkey.symm, hid.symm, ?_⟩
    rw [htaken.counted, beq_iff_eq.2 hid, Bool.and_true]
  · exact absurd hkey.symm (hfresh y hy)

/-- So the marks are those held. -/
theorem marks_of_ids : m.map (fun x => (x.key, x.counted)) = l.map fun x => (x.key, x.counted) := by
  have hkeys : m.map Record.key = l.map Record.key := by
    have := congrArg (List.map Prod.fst) hids
    simpa only [recordIds, List.map_map, Function.comp_def] using this
  refine List.ext_getElem (by simpa using congrArg List.length hkeys) fun i h1 h2 => ?_
  rw [List.length_map] at h1 h2
  rw [List.getElem_map, List.getElem_map]
  have hkey : m[i].key = l[i].key := by
    have := List.getElem_of_eq hkeys (i := i) (by simpa using h1)
    simpa using this
  obtain ⟨y, hy, hky, _, hcounted⟩ := taken_of_ids hk h hids m[i] (List.getElem_mem h1)
  obtain rfl := List.inj_on_of_nodup_map hk hy (List.getElem_mem h2) (hky.symm.trans hkey)
  rw [hkey, hcounted]

/-- And none is offered to the budget. -/
theorem offered_of_ids (own : Nat) : m.filter (Record.offeredIn own (foreignChange l)) = [] := by
  refine List.filter_eq_nil_iff.2 fun x hx => ?_
  obtain ⟨y, hy, hkey, hid, _⟩ := taken_of_ids hk h hids x hx
  obtain ⟨ho, hkind, hsubject⟩ := Record.key_eq.1 hkey
  have hheld : findRecord x.origin x.kind x.subject l = some y := by
    rw [ho, hkind, hsubject]
    exact findRecord_of_mem hk hy
  unfold Record.offeredIn
  rw [newIn_foreign_held _ _ _ _ hheld, hid]
  simp

end

/-- A list that takes a frame and keeps its trip ids offers the budget nothing, and in FORMING keeps its marks. -/
theorem listTakes_of_ids (f : RxFrame) (b : State) (hw : b.working = true) (hown : f.src.toNat ≠ b.rank) (hk : UniqueKeys b)
    (hids : recordIds (listTakes f b).trips.records = recordIds b.trips.records) :
    (listTakes f b).budget = b.budget ∧
      (b.phase = .FORMING → uncounted (listTakes f b).trips.records = uncounted b.trips.records) := by
  rcases listTakes_cases f b hown with e | ⟨out, e, htaken⟩
  · rw [e]
    exact ⟨rfl, fun _ => rfl⟩
  · have htrips := congrArg TripList.records (changeRecords_trips out b hw)
    have hsame : recordIds out.1 = recordIds b.trips.records := by
      rw [← hids, e, htrips]
      unfold recordIds
      rw [List.map_map]
      rfl
    rw [e, htrips, changeRecords_budget out b hw, offered_of_ids hk htaken hsame]
    refine ⟨?_, fun hf => ?_⟩
    · split
      · rfl
      · have hraise : raiseCount b.cfg.latchLimit b.budget.count 0 = b.budget.count := by
          unfold raiseCount
          generalize countBound b.cfg.latchLimit = bound
          split <;> omega
        show { b.budget with count := raiseCount b.cfg.latchLimit b.budget.count 0 } = b.budget
        rw [hraise]
    · have hplain : offerRecord (b.phase != .FORMING) b.rank b.trips.records = fun r => r := by
        funext r
        simp [offerRecord, hf]
      rw [hplain, List.map_id']
      exact uncounted_congr (marks_of_ids hk htaken hsame)

/-! ### The other blocks leave list and budget (R129) -/

/-- The frame is no BEAT of an OPERATING or CONFINED member, whose budget is merged (R129). -/
def RxFrame.mild (f : RxFrame) : Prop := ∀ b, f.content = .beat b → b.phase = 1 ∨ b.phase = 4

/-- What neither membership unit nor list does: the budget stays, and the list but for a retirement set that a round frame takes. -/
structure Keeps (f : RxFrame) (a c : State) : Prop extends Side f a c where
  budget : c.budget = a.budget
  sublist : c.trips.records.Sublist a.trips.records
  trips : f.content.movesRound = false → c.trips = a.trips

theorem Keeps.refl (f : RxFrame) (a : State) : Keeps f a a := ⟨.refl f a, rfl, .refl _, fun _ => rfl⟩

theorem Keeps.trans {f : RxFrame} {a b c : State} (h : Keeps f a b) (g : Keeps f b c) : Keeps f a c :=
  ⟨h.toSide.trans g.toSide, g.budget.trans h.budget, g.sublist.trans h.sublist, fun hm => (g.trips hm).trans (h.trips hm)⟩

theorem act_keeps (f : RxFrame) (hmild : f.mild) (i : Taker) (hi : i ≠ .membership) (hl : i ≠ .list) (a : State) :
    AtWork f (Keeps f) a (i.act f a) := by
  intro hw hown
  have hside := act_side f i hi a hw hown
  cases i with
  | membership => exact absurd rfl hi
  | list => exact absurd rfl hl
  | window =>
      rcases windowTakes_eq f a with e | ⟨_, _, e⟩
      · exact ⟨hside, by rw [Taker.act, e], by rw [Taker.act, e], fun _ => by rw [Taker.act, e]⟩
      · exact ⟨hside, by rw [Taker.act, e]; rfl, by rw [Taker.act, e]; exact .refl _, fun _ => by rw [Taker.act, e]; rfl⟩
  | budget =>
      rcases budgetTakes_eq f a with e | ⟨b, hb, hphase, _⟩
      · exact ⟨hside, by rw [Taker.act, e], by rw [Taker.act, e], fun _ => by rw [Taker.act, e]⟩
      · rcases hmild b hb with e | e <;> rw [e] at hphase <;> exact absurd hphase (by decide)
  | reclose =>
      refine ⟨hside, ?_, recloseTakes_sublist f a, fun hm => ?_⟩
      · show (recloseTakes f a).budget = a.budget
        rw [recloseTakes_reach f a]
      · rcases recloseTakes_of_unmoved f a hm with e | ⟨_, _, e⟩
        · rw [Taker.act, e]
        · rw [Taker.act, e]
          rfl

/-- The list among blocks that leave list and budget. -/
def ListStep (f : RxFrame) (a c : State) : Prop := ∃ b, Keeps f a b ∧ Keeps f (listTakes f b) c

theorem ListStep.side {f : RxFrame} {a c : State} (h : AtWork f (ListStep f) a c) : AtWork f (Side f) a c := by
  intro hw hown
  obtain ⟨b, hb, hc⟩ := h hw hown
  exact (hb.toSide.trans (listTakes_side f b (hb.working.trans hw) (by rw [hb.rank]; exact hown))).trans hc.toSide

theorem run_keeps (f : RxFrame) (hmild : f.mild) (ids : List Taker) (hm : Taker.membership ∉ ids) (hl : Taker.list ∉ ids)
    (s : State) : AtWork f (Keeps f) s (runAll (ids.map (Taker.act f)) s) :=
  runAll_relates f (AtWork f (Keeps f)) (fun a _ _ => .refl f a) (atWork_trans (fun _ _ h => h.toSide) fun _ _ _ => Keeps.trans)
    ids (fun i hi a => act_keeps f hmild i (fun e => hm (e ▸ hi)) (fun e => hl (e ▸ hi)) a) s

theorem run_listStep (f : RxFrame) (hmild : f.mild) (ids : List Taker) (hnodup : ids.Nodup) (hm : Taker.membership ∉ ids)
    (hl : Taker.list ∈ ids) (s : State) : AtWork f (ListStep f) s (runAll (ids.map (Taker.act f)) s) := by
  obtain ⟨pre, post, rfl⟩ := List.append_of_mem hl
  have hrest : Taker.list ∉ pre ++ post := (List.nodup_cons.1 (List.perm_middle.nodup_iff.1 hnodup)).1
  simp only [List.mem_append, List.mem_cons, not_or] at hm hrest
  intro hw hown
  have hpre := run_keeps f hmild pre hm.1 hrest.1 s hw hown
  rw [List.map_append, List.map_cons, runAll_append, runAll_cons]
  generalize runAll (pre.map (Taker.act f)) s = b at hpre
  have hb : b.working = true := hpre.working.trans hw
  have hbown : f.src.toNat ≠ b.rank := by
    rw [hpre.rank]
    exact hown
  have hlist := listTakes_side f b hb hbown
  exact ⟨b, hpre, run_keeps f hmild post hm.2.2 hrest.2 _ (hlist.working.trans hb) (by rw [hlist.rank]; exact hbown)⟩

/-- The list takes the frame before the membership unit or after it, if at all. -/
theorem memberFrame_located (f : RxFrame) (e : Entry) (s : State) (hf : f.content.isRequest = false) (hmild : f.mild)
    (hw : s.working = true) (hown : f.src.toNat ≠ s.rank) (he : s.entry f.src.toNat = some e) :
    ∃ a, Heard f e s a (inAnyOrder (takers f) s) ∧
      ((Keeps f s a ∨ ListStep f s a) ∧ Keeps f (membershipTakes f a) (inAnyOrder (takers f) s) ∨
        Keeps f s a ∧ ListStep f (membershipTakes f a) (inAnyOrder (takers f) s)) := by
  obtain ⟨others, hothers⟩ := memberTakers_head f.content
  obtain ⟨order, n, hperm, hrun⟩ := inAnyOrder_named f (memberTakers f.content) s
  have hnodup : order.Nodup := hperm.nodup_iff.2 (memberTakers_nodup _)
  obtain ⟨pre, post, rfl⟩ := List.append_of_mem (hperm.mem_iff.2 (by rw [hothers]; exact .head _) : Taker.membership ∈ order)
  have hrest : Taker.membership ∉ pre ++ post := (List.nodup_cons.1 (List.perm_middle.nodup_iff.1 hnodup)).1
  simp only [List.mem_append, not_or] at hrest
  have hpre : pre.Nodup := (List.nodup_append.1 hnodup).1
  have hpost : post.Nodup := (List.nodup_cons.1 (List.nodup_append.1 hnodup).2.1).2
  have honce : Taker.list ∈ pre → Taker.list ∉ post := fun h1 h2 =>
    (List.nodup_append.1 hnodup).2.2 _ h1 _ (.tail _ h2) rfl
  have hfree (a c : State) (h : AtWork f (Keeps f) a c) : AtWork f (Keeps f) a (c.withFreeCount n) := fun hw hown =>
    (h hw hown).trans ⟨.freeCount f c n, rfl, .refl _, fun _ => rfl⟩
  have hfreeStep (a c : State) (h : AtWork f (ListStep f) a c) : AtWork f (ListStep f) a (c.withFreeCount n) := fun hw hown => by
    obtain ⟨b, hb, hc⟩ := h hw hown
    exact ⟨b, hb, hc.trans ⟨.freeCount f c n, rfl, .refl _, fun _ => rfl⟩⟩
  rw [takers_named f hf, hrun, List.map_append, List.map_cons, runAll_append, runAll_cons]
  have hkeeps := run_keeps f hmild
  have hstep := run_listStep f hmild
  by_cases hfirst : Taker.list ∈ pre
  · have hbefore := hstep pre hpre hrest.1 hfirst s
    have hafter := hfree _ _ (hkeeps post hrest.2 (honce hfirst) (membershipTakes f (runAll (pre.map (Taker.act f)) s)))
    have h := heard_of_sides hw hown he (ListStep.side hbefore) fun hw' hown' => (hafter hw' hown').toSide
    obtain ⟨hmw, hmown⟩ := membershipTakes_works f e _ h.working h.own h.entry
    exact ⟨_, h, .inl ⟨.inr (hbefore hw hown), hafter hmw hmown⟩⟩
  · have hbefore := hkeeps pre hrest.1 hfirst s
    have hside : AtWork f (Side f) s (runAll (pre.map (Taker.act f)) s) := fun hw' hown' => (hbefore hw' hown').toSide
    by_cases hlast : Taker.list ∈ post
    · have hafter := hfreeStep _ _ (hstep post hpost hrest.2 hlast (membershipTakes f (runAll (pre.map (Taker.act f)) s)))
      have h := heard_of_sides hw hown he hside (ListStep.side hafter)
      obtain ⟨hmw, hmown⟩ := membershipTakes_works f e _ h.working h.own h.entry
      exact ⟨_, h, .inr ⟨hbefore hw hown, hafter hmw hmown⟩⟩
    · have hafter := hfree _ _ (hkeeps post hrest.2 hlast (membershipTakes f (runAll (pre.map (Taker.act f)) s)))
      have h := heard_of_sides hw hown he hside fun hw' hown' => (hafter hw' hown').toSide
      obtain ⟨hmw, hmown⟩ := membershipTakes_works f e _ h.working h.own h.entry
      exact ⟨_, h, .inl ⟨.inl (hbefore hw hown), hafter hmw hmown⟩⟩

/-! ### Leaving FORMING with nothing new (R128) -/

theorem listTakes_of_moves (f : RxFrame) (b : State) (hm : f.content.movesRound = true) : listTakes f b = b := by
  unfold listTakes
  split
  · rfl
  · cases hc : f.content <;> first | rfl | exact absurd (hc ▸ hm) Bool.noConfusion

/-- With the keys apart the membership unit leaves keys, trip ids and, before its phase checks, marks and budget. -/
theorem memberHeard_kept (f : RxFrame) (e : Entry) (a : State) (hk : UniqueKeys a) (hown : f.src.toNat ≠ a.rank)
    (he : a.entry f.src.toNat = some e) : (memberHeard f e a).budget = a.budget ∧
      uncounted (memberHeard f e a).trips.records = uncounted a.trips.records ∧
      recordIds (membershipTakes f a).trips.records = recordIds a.trips.records := by
  obtain ⟨_, _, heq⟩ := memberHeard_eq f e a hk he
  have hrecords : (memberHeard f e a).trips.records = a.trips.records.map (foundRecord f.src.toNat a) := by
    rw [heq]
    rfl
  refine ⟨?_, ?_, ?_⟩
  · rw [heq]
    rfl
  · rw [hrecords]
    exact uncounted_congr (List.map_map ..)
  · rw [membershipTakes_trips f e a hk hown he]
    exact List.map_map ..

section
variable {f : RxFrame} {e : Entry} {s a t : State}

/-- What the blocks before the membership unit leave of budget and marks, and those after it of the budget, where the frame leaves
keys and trip ids. -/
structure NothingNew (f : RxFrame) (s a t : State) : Prop where
  budget : a.budget = s.budget
  marks : uncounted a.trips.records = uncounted s.trips.records
  after : t.budget = (membershipTakes f a).budget

/-- A round frame takes at most a retirement set, and here takes none. -/
theorem nothingNew_of_round (hbefore : Keeps f s a) (hafter : Keeps f (membershipTakes f a) t)
    (hm : recordIds (membershipTakes f a).trips.records = recordIds a.trips.records)
    (hids : recordIds t.trips.records = recordIds s.trips.records) : NothingNew f s a t := by
  have hlength (l m : List Record) (h : recordIds l = recordIds m) : l.length = m.length := by
    have := congrArg List.length h
    simpa [recordIds] using this
  have h1 := hbefore.sublist.length_le
  have h2 := hafter.sublist.length_le
  have h3 := hlength _ _ hm
  have h4 := hlength _ _ hids
  have hsame : a.trips.records = s.trips.records := hbefore.sublist.eq_of_length (by omega)
  exact ⟨hbefore.budget, by rw [hsame], hafter.budget⟩

/-- The list takes the frame first. -/
theorem nothingNew_of_first (hmoves : f.content.movesRound = false) (hw : s.working = true) (hown : f.src.toNat ≠ s.rank)
    (hs : s.phase = .FORMING) (hk : UniqueKeys s) (hbefore : ListStep f s a) (hafter : Keeps f (membershipTakes f a) t)
    (hm : recordIds (membershipTakes f a).trips.records = recordIds a.trips.records)
    (hids : recordIds t.trips.records = recordIds s.trips.records) : NothingNew f s a t := by
  obtain ⟨b, hb, ha⟩ := hbefore
  have htrips := hb.trips hmoves
  have hsame : recordIds (listTakes f b).trips.records = recordIds b.trips.records := by
    rw [← ha.trips hmoves, ← hm, ← hafter.trips hmoves, hids, htrips]
  obtain ⟨hbudget, hmarks⟩ := listTakes_of_ids f b (hb.working.trans hw) (by rw [hb.rank]; exact hown) (hb.keys hk) hsame
  refine ⟨ha.budget.trans (hbudget.trans hb.budget), ?_, hafter.budget⟩
  rw [ha.trips hmoves, hmarks (hb.same.1.trans hs), htrips]

/-- The list takes the frame last. -/
theorem nothingNew_of_last (hmoves : f.content.movesRound = false) (h : Heard f e s a t) (hk : UniqueKeys s)
    (hbefore : Keeps f s a) (hafter : ListStep f (membershipTakes f a) t)
    (hm : recordIds (membershipTakes f a).trips.records = recordIds a.trips.records)
    (hids : recordIds t.trips.records = recordIds s.trips.records) : NothingNew f s a t := by
  obtain ⟨b, hb, ht⟩ := hafter
  obtain ⟨hmw, hmown⟩ := membershipTakes_works f e a h.working h.own h.entry
  have hmk := (membershipTakes_scope f a).uniqueKeys (h.before.keys hk)
  have hsame : recordIds (listTakes f b).trips.records = recordIds b.trips.records := by
    rw [← ht.trips hmoves, hids, hb.trips hmoves, hm, hbefore.trips hmoves]
  obtain ⟨hbudget, _⟩ := listTakes_of_ids f b (hb.working.trans hmw) (by rw [hb.rank]; exact hmown) (hb.keys hmk) hsame
  exact ⟨hbefore.budget, by rw [hbefore.trips hmoves], ht.budget.trans (hbudget.trans hb.budget)⟩

theorem memberFrame_leavesForming (f : RxFrame) (e : Entry) (s : State) (hf : f.content.isRequest = false) (hmild : f.mild)
    (hw : s.working = true) (hown : f.src.toNat ≠ s.rank) (he : s.entry f.src.toNat = some e) (hc : f.checks e)
    (hk : UniqueKeys s) (hs : s.phase = .FORMING) (ht : (inAnyOrder (takers f) s).phase = .OPERATING)
    (hids : recordIds (inAnyOrder (takers f) s).trips.records = recordIds s.trips.records) :
    BudgetLeavesForming s (inAnyOrder (takers f) s) := by
  obtain ⟨a, h, hlocated⟩ := memberFrame_located f e s hf hmild hw hown he
  generalize inAnyOrder (takers f) s = t at ht hids h hlocated
  obtain ⟨hbudget, hmarks, hm⟩ := memberHeard_kept f e a (h.before.keys hk) h.own h.entry
  have hnew : NothingNew f s a t := by
    cases hmoves : f.content.movesRound with
    | true =>
        have hstep (b c : State) (hstep : ListStep f b c) : Keeps f b c := by
          obtain ⟨d, hd, hc⟩ := hstep
          rw [listTakes_of_moves f d hmoves] at hc
          exact hd.trans hc
        rcases hlocated with ⟨hbefore, hafter⟩ | ⟨hbefore, hafter⟩
        · exact nothingNew_of_round (hbefore.elim id (hstep s a)) hafter hm hids
        · exact nothingNew_of_round hbefore (hstep _ t hafter) hm hids
    | false =>
        rcases hlocated with ⟨hbefore | hbefore, hafter⟩ | ⟨hbefore, hafter⟩
        · exact ⟨hbefore.budget, by rw [hbefore.trips hmoves], hafter.budget⟩
        · exact nothingNew_of_first hmoves hw hown hs hk hbefore hafter hm hids
        · exact nothingNew_of_last hmoves h hk hbefore hafter hm hids
  obtain ⟨_, _, hleaves, _⟩ := h.formed hc hs ht
  obtain ⟨_, _, _, hcfg⟩ := h.found
  unfold BudgetLeavesForming at hleaves ⊢
  rw [hnew.after, ← hnew.budget, ← hbudget, ← hcfg]
  refine ⟨hleaves.1, hleaves.2.1, hleaves.2.2.trans ?_⟩
  show (if _ then _ else countPlus _ _ (uncounted (memberHeard f e a).trips.records)) =
    if _ then _ else countPlus _ _ (uncounted s.trips.records)
  rw [hmarks, hnew.marks]

end

end Sys2Proof.Machine
end

section
/-!
SUPPORT. The round left as a member's frame confines the station (R116, R118, R120, R139), and the phase it leaves (R86, R91 to R94,
R123, R128, R202).
-/
namespace Sys2Proof.Machine

/-! ### An ANSWER beside a departure (log entry 1) -/

theorem AnswersAtMost.same {a c : State} (h : AnswersAtMost a c) : c.reclose = a.reclose ∧ (∀ p, c.switch p = a.switch p) ∧
    c.cfg = a.cfg ∧ c.link.counters.roundsAbandoned = a.link.counters.roundsAbandoned := by
  rcases h with rfl | ⟨dst, round, answer, reason, rfl⟩
  · exact ⟨rfl, fun _ => rfl, rfl, rfl⟩
  · refine ⟨rfl, fun p => by cases p <;> rfl, rfl, ?_⟩
    show (a.link.queueRound dst _).counters.roundsAbandoned = _
    rw [Link.queueRound_frame]

/-- A frame in the round slot was there before, or is no ABANDON. -/
theorem AnswersAtMost.slot {a c : State} (h : AnswersAtMost a c) (x : TxFrame) (hx : x ∈ c.link.rounds) :
    x ∈ a.link.rounds ∨ ∀ n, x.content ≠ .abandon n := by
  rcases h with rfl | ⟨dst, round, answer, reason, rfl⟩
  · exact .inl hx
  · have hx : x ∈ (a.link.queueRound dst (.answer round answer reason)).rounds := hx
    rw [Link.queueRound_rounds, List.mem_append] at hx
    rcases hx with hx | hx
    · left
      split at hx
      · exact hx
      · exact List.mem_of_mem_drop hx
    · rw [List.mem_singleton.1 hx]
      exact .inr nofun

/-- The last frame of the round slot stays. -/
theorem AnswersAtMost.last {a c : State} (h : AnswersAtMost a c) {pre : List TxFrame} (x : TxFrame)
    (hx : a.link.rounds = pre ++ [x]) : x ∈ c.link.rounds := by
  rcases h with rfl | ⟨dst, round, answer, reason, rfl⟩
  · rw [hx]
    simp
  · exact Link.last_mem_queueRound a.link x dst _ hx

/-- A station out of OPERATING that has left its round, with at most an ANSWER queued before and after. -/
theorem leavesRound_answered {s a u w : State} (b : State) (met : PathSet) (hbefore : AnswersAtMost s a) (h : Course a u)
    (hidle : u.reclose.round = none) (hafter : AnswersAtMost u w) (n : Nat) (hphase : (w.withFreeCount n).phase ≠ .OPERATING) :
    LeavesRound met s (settle b (w.withFreeCount n)) := by
  intro r hr _
  obtain ⟨areclose, aswitch, acfg, aabandoned⟩ := hbefore.same
  obtain ⟨wreclose, wswitch, wcfg, wabandoned⟩ := hafter.same
  have hfree : (w.withFreeCount n).reclose = w.reclose ∧ (w.withFreeCount n).link = w.link ∧
    (w.withFreeCount n).cfg = w.cfg ∧ ∀ p, (w.withFreeCount n).switch p = w.switch p :=
    ⟨rfl, rfl, rfl, fun p => by cases p <;> rfl⟩
  generalize w.withFreeCount n = v at hphase hfree ⊢
  obtain ⟨vreclose, vlink, vcfg, vswitch⟩ := hfree
  obtain ⟨tround, tlink⟩ := settle_of_not_operating b v hphase
  have l := h.left (by rw [areclose]; exact hr) hidle
  have hsends := Round.sendsAbandon_iff r
  refine ⟨.inl ?_, fun p hp => ?_, fun p hp => ?_, ?_, ?_, fun hab => ?_, fun hab f hf => ?_⟩
  · rw [tround, vreclose, wreclose, hidle]
  · rw [settle_switch, vswitch, wswitch]
    exact l.off p hp
  · rcases (settle_endsAs b v).2.1 p with e | e
    · rw [e, vreclose, wreclose, l.hold p hp, acfg]
    · rw [e, vcfg, wcfg, h.cfg, acfg]
  · rw [tlink, vlink, wabandoned, l.abandoned, aabandoned]
  · rw [settle_reclose_leftRound, vreclose, wreclose, l.leftRound, areclose]
  · have hslot := l.frames
    rw [if_pos (hsends.2 hab), Link.queueRound_rounds] at hslot
    refine ⟨TxFrame.new 0 (.abandon (byteOf r.number)), ?_, rfl, rfl⟩
    rw [tlink, vlink]
    exact hafter.last _ hslot
  · have hslot := l.frames
    rw [if_neg fun hs => hab (hsends.1 hs)] at hslot
    rw [tlink, vlink] at hf
    rcases hafter.slot f hf with hf | hf
    · rw [hslot] at hf
      exact (hbefore.slot f hf).imp id fun hno => hno _
    · exact .inr (hf _)

section
variable {f : RxFrame} {e : Entry} {s : State}

/-- A round frame is taken by membership unit and reclose controller, in one of the two orders (R163). -/
theorem roundFrame_orders (hmoves : f.content.movesRound = true) (s : State) : ∃ n,
    inAnyOrder (takers f) s = (recloseTakes f (membershipTakes f s)).withFreeCount n ∨
      inAnyOrder (takers f) s = (membershipTakes f (recloseTakes f s)).withFreeCount n := by
  have htakers : takers f = [membershipTakes f, recloseTakes f] := by
    unfold takers
    cases hc : f.content <;> first | rfl | exact absurd (hc ▸ hmoves) Bool.noConfusion
  rw [htakers]
  exact inAnyOrder_two _ _ s

variable (hmoves : f.content.movesRound = true) (hw : s.working = true) (hown : f.src.toNat ≠ s.rank)
  (he : s.entry f.src.toNat = some e) (hc : f.checks e) (hs : s.phase = .OPERATING)
  (hround : ∀ r, s.reclose.round = some r → f.content.roundNumber ≠ some r.number)
include hmoves hw hown he hc hs hround

/-- The membership unit takes the frame first: the reclose controller finds the station in IDLE, and no left round of the frame's. -/
theorem roundFrame_after (hleft : ∀ n, s.reclose.leftRound = some (n, f.src.toNat) → f.content.roundNumber ≠ some n) (n : Nat)
    (ht : ((recloseTakes f (membershipTakes f s)).withFreeCount n).phase = .CONFINED) (b : State) :
    LeavesRound bothPaths s (settle b ((recloseTakes f (membershipTakes f s)).withFreeCount n)) := by
  intro r hr
  have h : Heard f e s s (recloseTakes f (membershipTakes f s)) :=
    heard_of_sides hw hown he (fun _ _ => .refl f s) fun _ _ => recloseTakes_side f _
  have hm := (h.confined hc hs ht).1
  have hcourse := membershipTakes_course f e s hown he
  generalize membershipTakes f s = m at ht hm hcourse ⊢
  have hanswers : AnswersAtMost m (recloseTakes f m) := by
    refine (recloseTakes_of_idle f m hm.round hm.phase hmoves).resolve_right ?_
    rintro ⟨k, hk, hkept, _⟩
    rw [(hcourse.left hr hm.round).leftRound] at hkept
    have hnumber : f.content.roundNumber = some k.toNat := by
      rw [hk]
      rfl
    split at hkept
    · exact hround r hr (hnumber.trans (congrArg (Option.map Prod.fst) hkept).symm)
    · exact hleft _ hkept hnumber
  exact leavesRound_answered b bothPaths (.inl rfl) hcourse hm.round hanswers n (by rw [ht]; decide) r hr

/-- The reclose controller takes the frame first, with at most an ANSWER to a PROPOSE. -/
theorem roundFrame_before (n : Nat) (ht : ((membershipTakes f (recloseTakes f s)).withFreeCount n).phase = .CONFINED)
    (b : State) : LeavesRound bothPaths s (settle b ((membershipTakes f (recloseTakes f s)).withFreeCount n)) := by
  intro r hr
  have h : Heard f e s (recloseTakes f s) (membershipTakes f (recloseTakes f s)) :=
    heard_of_sides hw hown he (fun _ _ => recloseTakes_side f s) fun _ _ => .refl f _
  have hm := (h.confined hc hs ht).1
  have hcourse := membershipTakes_course f e _ h.own h.entry
  have hanswers := recloseTakes_of_other f s r hr hmoves (hround r hr)
  generalize recloseTakes f s = a at ht hm hcourse hanswers ⊢
  exact leavesRound_answered b bothPaths hanswers hcourse hm.round (.inl rfl) n (by rw [ht]; decide) r hr

omit hmoves in
/-- A frame that is neither of the station's round nor of the left one leaves it to depart from its round as it is confined
(R116, R120). -/
theorem memberFrame_confined (hf : f.content.isRequest = false) (ht : (inAnyOrder (takers f) s).phase = .CONFINED)
    (hleft : ∀ n, s.reclose.leftRound = some (n, f.src.toNat) → f.content.roundNumber ≠ some n) (b : State) :
    LeavesRound bothPaths s (settle b (inAnyOrder (takers f) s)) := by
  cases hmoves : f.content.movesRound with
  | true =>
      obtain ⟨n, horder | horder⟩ := roundFrame_orders hmoves s
      · rw [horder] at ht ⊢
        exact roundFrame_after hmoves hw hown he hc hs hround hleft n ht b
      · rw [horder] at ht ⊢
        exact roundFrame_before hmoves hw hown he hc hs hround n ht b
  | false =>
      obtain ⟨a, h⟩ := memberFrame_heard f e s hf hw hown he
      generalize inAnyOrder (takers f) s = t at ht h ⊢
      have hrank : t.rank = s.rank := by
        rw [h.after.rank, (membershipTakes_soft f e a h.own h.entry).rank, h.before.rank]
      exact (h.course hmoves).leavesRound b bothPaths hrank fun _ _ _ => (h.confined hc hs ht).2.round

end

/-- Settles O32: the phase is the phase checks' own, on the roster the frame leaves; what leaving FORMING and OPERATING do, the other
blocks keep, whether they take the frame before the membership unit or after it. -/
theorem phaseFollowsBeats : Obligations.PhaseFollowsBeats := by
  intro src c s e hw hlisten hsrc hown he hc hchanges
  obtain ⟨f, hf⟩ := memberFrame_brings hc
  obtain rfl := hf.source
  have hchecks : f.checks e := by
    refine hchanges.imp (fun ⟨b, hb⟩ => ?_) id
    rw [(hf.beat b).1 hb]
    rfl
  have hleaves := memberFrame_leavesForming f e s.heard hf.member (hc := hchecks) (hw := hw) (hown := hown) (he := he)
  have hconfined := memberFrame_confined (s := s.heard) hw hown he hchecks (hf := hf.member) (b := s.heard)
  obtain ⟨a, h⟩ := memberFrame_heard f e s.heard hf.member hw hown he
  refine ⟨_, hf.taken hsrc hw hlisten, ?_⟩
  generalize inAnyOrder (takers f) s.heard = t at h hleaves hconfined
  obtain ⟨hforming, hoperating, hback⟩ := h.phase hchecks
  have hstays := settle_of_not_operating s.heard t
  obtain ⟨hconflict, _⟩ := h.rest
  unfold BudgetLeavesForming AllCounted at *
  simp only [settle_phase, settle_conflict, settle_roster, settle_formation, settle_trips, settle_charge, settle_discharge,
    settle_budget_joined, settle_budget_epoch, settle_budget_count]
  refine ⟨fun hp => ⟨(hforming hp).1, fun ht => ?_, fun ht hk => ?_, fun ht hk hmild hids => ?_, (hforming hp).2⟩,
    fun hp => ⟨(hoperating hp).1, fun b hb hdigest => ?_, fun b hb hdigest hformed => ?_, fun ht => ?_, fun ht hround hleft => ?_,
      (hoperating hp).2⟩,
    fun hp => ⟨?_, (hback hp).2⟩, hconflict⟩
  · obtain ⟨hformation, hjoined, _⟩ := h.formed hchecks hp ht
    exact ⟨hformation, hjoined⟩
  · obtain ⟨_, _, _, hcounted⟩ := h.formed hchecks hp ht
    exact hcounted hk
  · exact hleaves (fun b hb => hmild b ((hf.beat b).2 hb)) hk hp ht hids
  · obtain ⟨x, hx, hpresent, hmatch⟩ := h.present
    refine (hoperating hp).1.2 ⟨x, hx, hpresent, (hmatch b ((hf.beat b).1 hb)).trans ?_⟩
    exact congrArg some (beq_eq_false_iff_ne.2 hdigest)
  · refine (hoperating hp).2.resolve_right fun ht => ?_
    refine h.matched b ((hf.beat b).1 hb) hdigest ?_ ((hoperating hp).1.1 ht)
    rintro ⟨x, hx, hmismatch⟩
    exact hformed.2.2.2 hp x hx hmismatch
  · obtain ⟨_, hresting⟩ := h.confined hchecks hp ht
    exact ⟨hresting.off .charge, hresting.off .discharge, (hstays hresting.phase).1.trans hresting.round⟩
  · rw [hf.round] at hround hleft
    exact hconfined hp hround ht hleft
  · rw [(hback hp).1]
    unfold State.anyMismatched
    push Not
    rfl

end Sys2Proof.Machine
end

section
/-!
SUPPORT. The close commands of a round (R111 to R114, R141): which switches they close, the closed set they leave, and where the round
goes on at once.
-/
namespace Sys2Proof.Machine

/-! ### The close commands -/

/-- The closed set of a round once it has given its close commands: the round paths whose switch was OPEN have joined (R111). -/
def State.closedBy (s : State) (r : Round) : PathSet :=
  { charge := r.closedSet.charge || (r.paths.charge && s.charge.state == .OPEN)
    discharge := r.closedSet.discharge || (r.paths.discharge && s.discharge.state == .OPEN) }

/-- The station in the round `r` as its close commands leave it, in the stage entered (R111, R141). -/
def State.closing (s : State) (r : Round) (stage : Stage) : State :=
  { s with
    charge := if r.paths.charge then s.charge.closeCommand (s.held .charge) else s.charge
    discharge := if r.paths.discharge then s.discharge.closeCommand (s.held .discharge) else s.discharge
    reclose := { s.reclose with
      round := some { r with stage := stage, window := .stopped, closedSet := s.closedBy r } } }

theorem State.closedBy_has (s : State) (r : Round) (p : Path) :
    (s.closedBy r).has p = (r.closedSet.has p || (r.paths.has p && (s.switch p).state == .OPEN)) := by
  cases p <;> rfl

theorem State.closing_switch (s : State) (r : Round) (stage : Stage) (p : Path) :
    (s.closing r stage).switch p = if r.paths.has p then (s.switch p).closeCommand (s.held p) else s.switch p := by
  cases p <;> rfl

theorem State.closing_held (s : State) (r : Round) (stage : Stage) (p : Path) : (s.closing r stage).held p = s.held p := by
  cases p <;> rfl

theorem Switch.closeCommand_eq (held : Bool) (w : Switch) :
    w.closeCommand held =
      if w.state = .OPEN ∧ held = false then { w with state := .CLOSING, gate := true, limit := .running 4000 } else w := by
  unfold Switch.closeCommand
  cases hw : w.state <;> cases held <;> simp [closeLimitUs]

/-- A close command moves a switch that is OPEN and not held, and no other (R141). -/
theorem State.closing_switch_eq (s : State) (r : Round) (stage : Stage) (p : Path) :
    (s.closing r stage).switch p =
      if r.paths.has p = true ∧ (s.switch p).state = .OPEN ∧ s.held p = false then
        { s.switch p with state := .CLOSING, gate := true, limit := .running 4000 }
      else s.switch p := by
  rw [s.closing_switch, Switch.closeCommand_eq]
  by_cases hp : r.paths.has p = true <;> simp [hp]

/-- A switch is CLOSED after the close commands exactly where it was before. -/
theorem State.closing_closed (s : State) (r : Round) (stage : Stage) (p : Path) :
    ((s.closing r stage).switch p).state = .CLOSED ↔ (s.switch p).state = .CLOSED := by
  rw [s.closing_switch_eq]
  split
  · rename_i h
    simp [h.2.1]
  · rfl

theorem allClosed_iff (s : State) (ps : PathSet) :
    s.allClosed ps = true ↔ ∀ p, ps.has p = true → (s.switch p).state = .CLOSED := by
  have hpaths (P : Path → Prop) : (∀ p, P p) ↔ P .charge ∧ P .discharge :=
    ⟨fun h => ⟨h _, h _⟩, fun h p => by cases p; exacts [h.1, h.2]⟩
  rw [hpaths]
  simp only [State.allClosed, PathSet.has, State.switch, Bool.and_eq_true, Bool.or_eq_true, Bool.not_eq_true', beq_iff_eq]
  cases ps.charge <;> cases ps.discharge <;> simp

theorem State.closing_allClosed (s : State) (r : Round) (stage : Stage) (ps : PathSet) :
    (s.closing r stage).allClosed ps = s.allClosed ps := by
  rw [Bool.eq_iff_iff, allClosed_iff, allClosed_iff]
  simp only [s.closing_closed]

/-- Where every round path is CLOSED already, the close commands move no switch. -/
theorem State.closing_of_allClosed (s : State) (r : Round) (stage : Stage) (h : s.allClosed r.paths = true) (p : Path) :
    (s.closing r stage).switch p = s.switch p := by
  rw [s.closing_switch_eq, if_neg]
  rintro ⟨hp, hopen, _⟩
  exact absurd (((allClosed_iff s _).1 h p hp).symm.trans hopen) (by decide)

/-- A path joins the set where a test says so. -/
def PathSet.addIf (q : PathSet) (b : Bool) : Path → PathSet
  | .charge => { q with charge := q.charge || b }
  | .discharge => { q with discharge := q.discharge || b }

theorem PathSet.addIf_eq (q : PathSet) (b : Bool) (p : Path) : q.addIf b p = if b then q.add p else q := by
  cases b <;> cases p <;> simp [PathSet.addIf, PathSet.add]

/-- One close command in a round (R111). -/
theorem closePath_eq (p : Path) (s : State) (r : Round) (hr : s.reclose.round = some r) :
    closePath p s = (s.setSwitch p ((s.switch p).closeCommand (s.held p))).withReclose { s.reclose with
      round := some { r with closedSet := r.closedSet.addIf ((s.switch p).state == .OPEN) p } } := by
  rw [PathSet.addIf_eq]
  unfold closePath
  by_cases hopen : (s.switch p).state = .OPEN
  · have hround : (s.setSwitch p ((s.switch p).closeCommand (s.held p))).round = some r := by
      cases p <;> exact hr
    simp only [hopen, if_true, hround, beq_self_eq_true]
    cases p <;> rfl
  · have hsame : (s.switch p).closeCommand (s.held p) = s.switch p := by
      rw [Switch.closeCommand_eq, if_neg fun h => hopen h.1]
    have hself : s.withReclose { s.reclose with round := some r } = s := by
      rw [← hr]
      rfl
    simp only [hopen, if_false, hsame, beq_iff_eq]
    cases p <;> exact hself.symm

/-- The close commands of a round, path by path, are one change (R111). -/
theorem closePaths_eq (r : Round) (stage : Stage) (s : State) :
    forPaths r.paths closePath (setRound (some { r with stage := stage, window := .stopped }) s) = s.closing r stage := by
  unfold forPaths State.closing State.closedBy
  cases hc : r.paths.charge <;> cases hd : r.paths.discharge <;>
    simp only [Bool.false_eq_true, if_true, if_false, Bool.true_and, Bool.false_and, Bool.or_false]
  · rfl
  · rw [closePath_eq _ _ _ rfl]
    rfl
  · rw [closePath_eq _ _ _ rfl]
    rfl
  · rw [closePath_eq .charge _ _ rfl, closePath_eq .discharge _ _ rfl]
    rfl

theorem closeAndEnter_eq (r : Round) (stage : Stage) (s : State) :
    closeAndEnter r stage s = afterClosed (s.closing r stage) := congrArg afterClosed (closePaths_eq r stage s)

/-- Where a round path is still to close, the round waits in the stage entered (R112, R114). -/
theorem closeAndEnter_waits (r : Round) (stage : Stage) (s : State) (h : s.allClosed r.paths = false) :
    closeAndEnter r stage s = s.closing r stage := by
  have hround : (s.closing r stage).round =
    some { r with stage := stage, window := .stopped, closedSet := s.closedBy r } := rfl
  rw [closeAndEnter_eq]
  unfold afterClosed
  simp only [hround]
  rw [s.closing_allClosed, h]
  rfl

/-- Where every round path is CLOSED already, the member queues CLOSED and waits for COMPLETE (R112). -/
theorem closeAndEnter_member (r : Round) (s : State) (h : s.allClosed r.paths = true) :
    closeAndEnter r .CLOSING s =
      setRound (some { r with stage := .CLOSED_WAIT, window := .running (3 * s.cfg.tBeat), closedSet := s.closedBy r })
        (sendRound (.closed (byteOf r.number)) (s.closing r .CLOSING)) := by
  have hround : (s.closing r .CLOSING).round =
    some { r with stage := .CLOSING, window := .stopped, closedSet := s.closedBy r } := rfl
  rw [closeAndEnter_eq]
  unfold afterClosed
  simp only [hround]
  rw [s.closing_allClosed, h]
  rfl

/-- Where every round path is CLOSED already, the closer queues COMPLETE and completes (R114). -/
theorem closeAndEnter_closer (r : Round) (s : State) (h : s.allClosed r.paths = true) :
    closeAndEnter r .FINISHING s =
      completeRound { r with stage := .FINISHING, window := .stopped, closedSet := s.closedBy r }
        (sendRound (.complete (byteOf r.number)) (s.closing r .FINISHING)) := by
  have hround : (s.closing r .FINISHING).round =
    some { r with stage := .FINISHING, window := .stopped, closedSet := s.closedBy r } := rfl
  rw [closeAndEnter_eq]
  unfold afterClosed
  simp only [hround]
  rw [s.closing_allClosed, h]
  rfl

end Sys2Proof.Machine
end

section
/-!
SUPPORT. What every operation keeps of the phase discipline (R27, R42, R123), and that none but the close commands of a round starts to
close a switch (R111, R141).
-/
namespace Sys2Proof.Machine

/-! ### Rounds in OPERATING, and the pull with SHORT -/

/-- The station is in a round in OPERATING alone (R123). -/
def RoundAtWork (s : State) : Prop := s.reclose.round.isSome = true → s.phase = .OPERATING

/-- A working station drives the stop line, and only while SHORT is TRIPPED (R42). -/
def PullByShort (s : State) : Prop := s.stop.driving = true → s.conds.short.state = .TRIPPED ∧ s.working = true

/-- From `s` to `t` the station stays supplied, at work or out of it, and keeps its rounds to OPERATING and its pull to SHORT. -/
structure Orderly (s t : State) : Prop where
  supply : t.supplyLow = s.supplyLow
  works : t.working = s.working
  rounds : RoundAtWork s → RoundAtWork t
  pull : PullByShort s → PullByShort t

/-- An orderly course in which no switch starts to close. -/
structure Steady (s t : State) : Prop extends Orderly s t where
  closes : ∀ p, (t.switch p).state = .CLOSING → (s.switch p).state = .CLOSING

theorem Orderly.refl (s : State) : Orderly s s := ⟨rfl, rfl, id, id⟩

theorem Orderly.trans {s t u : State} (h : Orderly s t) (g : Orderly t u) : Orderly s u :=
  ⟨g.supply.trans h.supply, g.works.trans h.works, g.rounds ∘ h.rounds, g.pull ∘ h.pull⟩

theorem Steady.refl (s : State) : Steady s s := ⟨.refl s, fun _ => id⟩

theorem Steady.trans {s t u : State} (h : Steady s t) (g : Steady t u) : Steady s u :=
  ⟨h.toOrderly.trans g.toOrderly, fun p => h.closes p ∘ g.closes p⟩

theorem Steady.guarded {s t : State} {c : Prop} [Decidable c] (h : c → Steady s t) : Steady s (if c then t else s) := by
  split
  · exact h ‹_›
  · exact .refl s

theorem working_congr {s t : State} (h : t.phase = s.phase) : t.working = s.working := by
  unfold State.working
  rw [h]

theorem not_closing_of_isOff {w : Switch} (h : w.isOff) : w.state ≠ .CLOSING := by
  rcases h with h | h | h <;> rw [h] <;> decide

/-- What leaves the phase, takes up no round, takes up no pull and leaves SHORT in TRIPPED is orderly. -/
theorem Orderly.of_phase {s t : State} (hsupply : t.supplyLow = s.supplyLow) (hphase : t.phase = s.phase)
    (hround : t.reclose.round.isSome = true → s.reclose.round.isSome = true ∨ s.phase = .OPERATING)
    (hdriving : t.stop.driving = true → s.stop.driving = true)
    (hshort : t.stop.driving = true → s.conds.short.state = .TRIPPED → t.conds.short.state = .TRIPPED) : Orderly s t := by
  refine ⟨hsupply, working_congr hphase, fun h ht => ?_, fun h ht => ?_⟩
  · rw [hphase]
    exact (hround ht).elim h id
  · obtain ⟨htripped, hworks⟩ := h (hdriving ht)
    exact ⟨hshort ht htripped, (working_congr hphase).trans hworks⟩

/-- A course takes up no round and starts to close no switch. -/
theorem Course.steady {s t : State} (h : Course s t) (hsupply : t.supplyLow = s.supplyLow) (hphase : t.phase = s.phase)
    (hdriving : t.stop.driving = true → s.stop.driving = true)
    (hshort : t.stop.driving = true → s.conds.short.state = .TRIPPED → t.conds.short.state = .TRIPPED) : Steady s t := by
  refine ⟨.of_phase hsupply hphase (fun ht => .inl ?_) hdriving hshort, fun p hp => ?_⟩
  · rcases h.round_or_idle with e | e
    · exact e ▸ ht
    · rw [e] at ht
      exact absurd ht Bool.noConfusion
  · rcases h.switch p with e | e
    · exact e ▸ hp
    · exact absurd hp (not_closing_of_isOff e)

theorem Course.steady_of_list {s t : State} (h : Course s t) (hreach : ListReach s t) : Steady s t := by
  refine h.steady ?_ ?_ (fun h => ?_) (fun _ h => ?_)
  · rw [hreach]
  · rw [hreach]
  · rwa [hreach] at h
  · rwa [hreach]

/-- What touches none of switches, round, phase, conditions and stop line is steady. -/
theorem steady_of_same {s t : State} (hc : t.charge = s.charge) (hd : t.discharge = s.discharge)
    (hr : t.reclose.round = s.reclose.round) (hsupply : t.supplyLow = s.supplyLow) (hp : t.phase = s.phase)
    (hconds : t.conds.short = s.conds.short) (hstop : t.stop.driving = s.stop.driving) : Steady s t := by
  refine ⟨.of_phase hsupply hp (fun ht => .inl (hr ▸ ht)) (fun ht => hstop ▸ ht) fun _ h => hconds ▸ h, fun p h => ?_⟩
  cases p
  · exact (congrArg Switch.state hc).symm.trans h
  · exact (congrArg Switch.state hd).symm.trans h

/-! ### The reclose controller and the switches -/

/-- Within the reclose controller's reach a round is taken up in OPERATING, or not at all. -/
theorem RoundReach.orderly {s t : State} (h : RoundReach s t)
    (hround : t.reclose.round.isSome = true → s.reclose.round.isSome = true ∨ s.phase = .OPERATING) : Orderly s t := by
  refine .of_phase ?_ ?_ hround (fun g => ?_) (fun _ g => ?_)
  · rw [h]
  · rw [h]
  · rwa [h] at g
  · rwa [h]

theorem RoundReach.steady {s t : State} (h : RoundReach s t)
    (hround : t.reclose.round.isSome = true → s.reclose.round.isSome = true ∨ s.phase = .OPERATING)
    (hclose : ∀ p, (t.switch p).state = .CLOSING → (s.switch p).state = .CLOSING) : Steady s t :=
  ⟨h.orderly hround, hclose⟩

theorem not_closing_openCommand (w : Switch) : w.openCommand.state ≠ .CLOSING := not_closing_of_isOff w.openCommand_isOff

/-- A round's end starts to close no switch. -/
theorem endRound_closes (r : Round) (s : State) (p : Path) (h : ((endRound r s).switch p).state = .CLOSING) :
    (s.switch p).state = .CLOSING := by
  rw [endRound_switch] at h
  split at h
  · exact absurd h (not_closing_openCommand _)
  · exact h

theorem dropRound_steady (r : Round) (s : State) : Steady s (dropRound r s) :=
  (dropRound_reach r s).steady (fun h => absurd h Bool.noConfusion) fun p h =>
    endRound_closes r s p (by cases p <;> exact h)

theorem abandonRound_steady (r : Round) (s : State) : Steady s (abandonRound r s) :=
  (abandonRound_reach r s).steady (fun h => absurd h Bool.noConfusion) fun p h => by
    have hend := endRound_closes r (sendRound (.abandon (byteOf r.number)) s) p
    cases p <;> exact hend h

theorem lapseRound_steady (r : Round) (s : State) : Steady s (lapseRound r s) :=
  (lapseRound_reach r s).steady (fun h => absurd h Bool.noConfusion) fun p h => by
    have hend := endRound_closes r (rememberLeft r s) p
    rw [rememberLeft_switch] at hend
    exact hend (by cases p <;> exact h)

theorem windowExpired_steady (s : State) : Steady s (windowExpired s) := by
  unfold windowExpired
  split
  · exact .refl s
  · split
    · exact .refl s
    · split
      · exact abandonRound_steady _ s
      · exact abandonRound_steady _ s
      · exact lapseRound_steady _ s
      · exact lapseRound_steady _ s
      · exact .refl s
      · exact .refl s

theorem completeRound_steady (r : Round) (s : State) : Steady s (completeRound r s) :=
  (completeRound_reach r s).steady (fun h => absurd h Bool.noConfusion) fun p h => by cases p <;> exact h

/-- After a switch entered CLOSED the station is in a round only where it was in one. -/
theorem afterClosed_round (s : State) (h : (afterClosed s).reclose.round.isSome = true) :
    s.reclose.round.isSome = true := by
  unfold afterClosed at h
  split at h
  · exact h
  · rename_i hr
    exact (congrArg Option.isSome hr).trans rfl

theorem leaveRound_steady (s : State) : Steady s (leaveRound s) :=
  (leaveRound_course s).steady_of_list (leaveRound_reach s).list

theorem holdBoth_steady (s : State) : Steady s (holdBoth s) := (holdBoth_course s).steady_of_list (holdBoth_reach s).list

/-- A switch that takes a state does not start to close unless that state says so. -/
theorem moveSwitch_steady (p : Path) (w : Switch) (s : State) (hw : w.state = .CLOSING → (s.switch p).state = .CLOSING) :
    Steady s (moveSwitch p w s) := by
  refine (moveSwitch_reach p w s).steady (fun h => .inl ?_) fun q hq => ?_
  · have hset : (s.setSwitch p w).reclose.round = s.reclose.round := congrArg Reclose.round (State.setSwitch_reclose ..)
    unfold moveSwitch at h
    simp only at h
    rw [← hset]
    split at h
    · exact h
    · split at h
      · exact afterClosed_round _ h
      · split at h
        · unfold afterOpen at h
          split at h
          · exact h
          · split at h
            · rw [leaveRound_round] at h
              exact absurd h Bool.noConfusion
            · exact h
        · exact h
  · by_cases hpq : q = p
    · subst hpq
      rw [moveSwitch_switch_self] at hq
      exact hw hq
    · rcases moveSwitch_switch_other p q w s hpq with e | e
      · exact e ▸ hq
      · exact absurd (e ▸ hq) (not_closing_openCommand _)

/-! ### The conditions -/

theorem set_short (c : Conds) (id : CondId) (v : Cond) : (c.set id v).short = if id.kind = .short then v else c.short := by
  unfold Conds.set
  split <;> rename_i h <;> simp [h]

/-- Conditions that enter TRIPPED leave SHORT in it. -/
theorem tripped_short (ids : List CondId) (c : Conds) (h : c.short.state = .TRIPPED) :
    (ids.foldl (fun c id => c.set id .tripped) c).short.state = .TRIPPED := by
  induction ids generalizing c with
  | nil => exact h
  | cons id ids ih =>
      refine ih _ ?_
      rw [set_short]
      split
      · rfl
      · exact h

theorem reportConds_course (cleared tripped : List CondId) (s : State) : Course s (reportConds cleared tripped s) := by
  obtain ⟨order, m, _, heq⟩ := reportConds_eq cleared tripped s
  rw [heq]
  exact (ownChanged_course cleared order m s).trans (listReport_course _ _)

/-- The report of new conditions, where SHORT stays TRIPPED under a pull. -/
theorem reportNew_steady (c : Conds) (cleared tripped : List CondId) (s : State)
    (hshort : s.stop.driving = true → s.conds.short.state = .TRIPPED → c.short.state = .TRIPPED) :
    Steady s (reportConds cleared tripped (s.withConds c)) := by
  have hwithin := reportConds_within cleared tripped (s.withConds c)
  have hsupply : (reportConds cleared tripped (s.withConds c)).supplyLow = s.supplyLow := hwithin.rest .supply (by decide)
  have hphase : (reportConds cleared tripped (s.withConds c)).phase = s.phase := hwithin.rest .phase (by decide)
  have hstop : (reportConds cleared tripped (s.withConds c)).stop = s.stop := hwithin.rest .stop (by decide)
  have hconds : (reportConds cleared tripped (s.withConds c)).conds = c := hwithin.rest .conds (by decide)
  have hcourse : Course s (s.withConds c) := course_of_same rfl rfl rfl rfl rfl
  refine (hcourse.trans (reportConds_course cleared tripped _)).steady hsupply hphase ?_ ?_
  · rw [hstop]
    exact id
  · rw [hstop, hconds]
    exact hshort

theorem tripConds_steady (ids : List CondId) (s : State) : Steady s (tripConds ids s) :=
  reportNew_steady _ [] ids s fun _ => tripped_short ids s.conds

/-- A condition clears, SHORT under no pull of its own. -/
theorem clearCond_steady (id : CondId) (s : State)
    (h : id.kind = .short → s.stop.driving = true → s.conds.short.state ≠ .TRIPPED) : Steady s (clearCond id s) := by
  refine reportNew_steady _ [id] [] s fun hdriving htripped => ?_
  rw [set_short, if_neg]
  · exact htripped
  · exact fun hk => h hk hdriving htripped

theorem join_short (id : CondId) (f : Cond → Cond × CondEvent) (e : Evaluated) (h : id.kind ≠ .short) :
    (e.join id f).conds.short = e.conds.short := by
  rw [Evaluated.join_conds, set_short, if_neg h]

theorem reportEvaluated_steady (e : Evaluated) (s : State) (h : e.conds.short = s.conds.short) :
    Steady s (reportEvaluated e s) :=
  reportNew_steady e.conds e.cleared e.tripped s fun _ ht => h ▸ ht

theorem evaluateScan_steady (r : ScanResult) (s : State) : Steady s (evaluateScan r s) := by
  refine reportEvaluated_steady _ s ?_
  rw [join_short _ _ _ (by decide), join_short _ _ _ (by decide), join_short _ _ _ (by decide), join_short _ _ _ (by decide),
    join_short _ _ _ (by decide)]
  rfl

theorem evaluateSample_steady (x : Int) (s : State) : Steady s (evaluateSample x s) := by
  refine reportEvaluated_steady _ s ?_
  rw [join_short _ _ _ (by decide), join_short _ _ _ (by decide)]
  rfl

theorem joinImbalance_short (s : State) (e : Evaluated) : (joinImbalance s e).conds.short = e.conds.short := by
  unfold joinImbalance
  split
  · exact join_short _ _ _ (by decide)
  · exact join_short _ _ e (by decide)

theorem joinMismatch_short (s : State) (e : Evaluated) : (joinMismatch s e).conds.short = e.conds.short := by
  unfold joinMismatch
  split
  · exact join_short _ _ _ (by decide)
  · exact join_short _ _ e (by decide)

theorem evaluatePack_steady (s : State) : Steady s (evaluatePack s) := by
  refine reportEvaluated_steady _ s ?_
  rw [joinMismatch_short, joinImbalance_short]
  rfl

theorem withConds_steady (s : State) (c : Conds)
    (h : s.stop.driving = true → s.conds.short.state = .TRIPPED → c.short.state = .TRIPPED) : Steady s (s.withConds c) :=
  (course_of_same rfl rfl rfl rfl rfl : Course s (s.withConds c)).steady rfl rfl id h

theorem withStop_steady (s : State) (l : StopLine) (h : l.driving = true → s.stop.driving = true) :
    Steady s (s.withStop l) :=
  (course_of_same rfl rfl rfl rfl rfl : Course s (s.withStop l)).steady rfl rfl h fun _ => id

theorem withMeas_steady (s : State) (m : Meas) : Steady s (s.withMeas m) := steady_of_same rfl rfl rfl rfl rfl rfl rfl
theorem withTrips_steady (s : State) (v : TripList) : Steady s (s.withTrips v) := steady_of_same rfl rfl rfl rfl rfl rfl rfl
theorem withLink_steady (s : State) (l : Link) : Steady s (s.withLink l) := steady_of_same rfl rfl rfl rfl rfl rfl rfl
theorem withRoster_steady (s : State) (v : List Entry) : Steady s (s.withRoster v) := steady_of_same rfl rfl rfl rfl rfl rfl rfl
theorem withBeats_steady (s : State) (b : Beats) : Steady s (s.withBeats b) := steady_of_same rfl rfl rfl rfl rfl rfl rfl
theorem withBudget_steady (s : State) (b : Budget) : Steady s (s.withBudget b) := steady_of_same rfl rfl rfl rfl rfl rfl rfl
theorem withFreeCount_steady (s : State) (n : Nat) : Steady s (s.withFreeCount n) := steady_of_same rfl rfl rfl rfl rfl rfl rfl
theorem withFormation_steady (s : State) (t : Timer) : Steady s (s.withFormation t) := steady_of_same rfl rfl rfl rfl rfl rfl rfl

/-- SHORT trips at work, and pulls the line. -/
theorem tripShort_steady (s : State) (hw : s.working = true) : Steady s (tripShort s) := by
  have h := tripConds_steady [ownCond .short] s
  have hshort : (tripConds [ownCond .short] s).conds.short.state = .TRIPPED := by
    have hconds := (reportConds_within [] [ownCond .short] (s.withConds (s.conds.set (ownCond .short) .tripped))).rest .conds
      (by decide)
    exact congrArg (fun c : Conds => c.short.state) hconds
  refine ⟨⟨h.supply, h.works, h.rounds, fun _ _ => ⟨hshort, h.works.trans hw⟩⟩, h.closes⟩

theorem shortSettles_steady (s : State) : Steady s (shortSettles s) := by
  unfold shortSettles
  refine .guarded fun ⟨_, _, hreleased, _⟩ => withConds_steady s _ fun hdriving => ?_
  rw [hdriving] at hreleased
  exact absurd hreleased Bool.noConfusion

/-- A comparator assertion at work: a pull stands with SHORT TRIPPED, which it leaves as it is (R41). -/
theorem shortAsserted_steady (s : State) (hw : s.working = true) : Steady s (shortAsserted s) := by
  unfold shortAsserted
  split <;> rename_i hs
  · split
    · exact tripShort_steady s hw
    · exact withConds_steady s _ fun _ h => absurd (hs.symm.trans h) (by decide)
  · exact .refl s
  · exact .refl s
  · exact withConds_steady s _ fun _ h => absurd (hs.symm.trans h) (by decide)

theorem shortReleased_steady (s : State) : Steady s (shortReleased s) := by
  unfold shortReleased
  split <;> rename_i hs
  · exact .refl s
  · exact withConds_steady s _ fun _ h => absurd (hs.symm.trans h) (by decide)
  · exact shortSettles_steady s
  · exact withConds_steady s _ fun _ h => absurd (hs.symm.trans h) (by decide)

theorem releaseLine_steady (s : State) : Steady s (releaseLine s) :=
  (withStop_steady s s.stop.release fun h => absurd h Bool.noConfusion).trans (shortSettles_steady _)

theorem releaseIfDone_steady (s : State) : Steady s (releaseIfDone s) := by
  unfold releaseIfDone
  exact .guarded fun _ => releaseLine_steady s

theorem switchFaultReport_steady (s : State) : Steady s (switchFaultReport s) := by
  unfold switchFaultReport
  exact .guarded fun _ => tripConds_steady _ s

theorem setReleaseTimer_steady (t : Timer) (s : State) : Steady s (setReleaseTimer t s) := by
  unfold setReleaseTimer
  exact .guarded fun _ => withConds_steady s _ fun _ => id

theorem unexplainedReport_steady (s : State) : Steady s (unexplainedReport s) := by
  have htrip := tripConds_steady [ownCond .unexplainedStop] s
  unfold unexplainedReport
  refine .guarded fun _ => ?_
  simp only
  split
  · exact htrip
  · exact htrip.trans (setReleaseTimer_steady _ _)

theorem membersLost_steady (ids : List Nat) (s : State) : Steady s (membersLost ids s) := tripConds_steady _ s

theorem memberFound_steady (r : Nat) (s : State) : Steady s (memberFound r s) := by
  unfold memberFound
  exact .guarded fun _ => clearCond_steady _ s fun h => absurd h (by simp [lostCond])

theorem placeHold_steady (ps : PathSet) (s : State) : Steady s (placeHold ps s) := by
  unfold placeHold
  simp only
  split
  · exact .refl s
  · exact (withConds_steady s { s.conds with holdPaths := some ps } fun _ => id).trans
      (tripConds_steady [ownCond .hold] (s.withConds { s.conds with holdPaths := some ps }))

theorem releaseHold_steady (s : State) : Steady s (releaseHold s) :=
  (clearCond_steady (ownCond .hold) s fun h => absurd h (by simp [ownCond])).trans (withConds_steady _ _ fun _ => id)

/-- CLEAR TRIPPED clears SHORT only where the station does not pull (R52). -/
theorem clearTripped_steady (id : CondId) (s : State) (h : recoveryTest id s = true) : Steady s (clearCond id s) := by
  refine clearCond_steady id s fun hk => ?_
  obtain ⟨kind, subject⟩ := id
  obtain rfl : kind = .short := hk
  have hreleased : (!s.meas.comparator && !s.stop.driving) = true := h
  exact fun hdriving => absurd (Bool.and_eq_true_iff.1 hreleased).2 (by simp [hdriving])

/-! ### The phase -/

/-- A change of phase at work: out of OPERATING the round is left (R116, R202). -/
theorem changePhase_steady (p : Phase) (s : State) (hp : p.working = true) (hw : s.working = true) :
    Steady s (changePhase p s) := by
  have hcourse := changePhase_course p s
  have hwithin := changePhase_within p s
  have hstop : (changePhase p s).stop = s.stop := hwithin.rest .stop (by decide)
  have hconds : (changePhase p s).conds = s.conds := hwithin.rest .conds (by decide)
  have hworks : (changePhase p s).working = true := State.working_of_phase (changePhase_phase p s) hp
  refine ⟨⟨hwithin.rest .supply (by decide), hworks.trans hw.symm, fun h ht => ?_, fun h ht => ?_⟩, fun q hq => ?_⟩
  · by_cases hs : s.phase = .OPERATING
    · rw [(changePhase_leavesOperating p s hs).2.1] at ht
      exact absurd ht Bool.noConfusion
    · rcases hcourse.round_or_idle with e | e <;> rw [e] at ht
      · exact absurd (h ht) hs
      · exact absurd ht Bool.noConfusion
  · rw [hstop] at ht
    rw [hconds]
    exact ⟨(h ht).1, hworks⟩
  · rcases hcourse.switch q with e | e
    · exact e ▸ hq
    · exact absurd hq (not_closing_of_isOff e)

theorem phaseChecks_steady (s : State) : Steady s (phaseChecks s) := by
  rcases phaseChecks_cases s with e | ⟨p, _, _, hp, hw, e⟩ <;> rw [e]
  · exact .refl s
  · exact changePhase_steady p s hp hw

theorem withConflict_steady (s : State) (b : Bool) : Steady s (s.withConflict b) := steady_of_same rfl rfl rfl rfl rfl rfl rfl

theorem rankConflict_steady (s : State) : Steady s (rankConflict s) := by
  have hflag := withConflict_steady s true
  unfold rankConflict
  split
  · exact .refl s
  · simp only
    split <;> rename_i hp
    · exact hflag.trans (changePhase_steady _ _ rfl (State.working_of_phase hp rfl))
    · exact hflag.trans (changePhase_steady _ _ rfl (State.working_of_phase hp rfl))
    · exact hflag
    · exact hflag
    · exact hflag

/-! ### Membership, list, budget, service -/

theorem membershipTakes_steady (f : RxFrame) (s : State) : Steady s (membershipTakes f s) := by
  unfold membershipTakes
  split
  · exact rankConflict_steady s
  · split
    · unfold takeFromMember
      simp only
      refine Steady.trans ?_ (.guarded fun _ => phaseChecks_steady _)
      split
      · exact ((withRoster_steady s _).trans (memberFound_steady _ _)).trans (withTrips_steady _ _)
      · exact withRoster_steady s _
    · exact .refl s

theorem entryLost_steady (r : Nat) (s : State) : Steady s (entryLost r s) :=
  (((withRoster_steady s _).trans (membersLost_steady _ _)).trans (withTrips_steady _ _)).trans (phaseChecks_steady _)

theorem formationExpired_steady (s : State) : Steady s (formationExpired s) :=
  ((withRoster_steady s _).trans (withFormation_steady _ _)).trans (membersLost_steady _ _)

theorem listTakes_steady (f : RxFrame) (s : State) : Steady s (listTakes f s) := by
  have hchange (out : List Record × Bool) : Steady s (changeRecords out s) :=
    (changeRecords_course out s).steady_of_list (changeRecords_reach out s)
  unfold listTakes
  split
  · exact .refl s
  · split
    · exact hchange _
    · simp only
      split
      · exact .refl s
      · exact hchange _
    · exact .refl s

theorem budgetTakes_steady (f : RxFrame) (s : State) : Steady s (budgetTakes f s) := by
  unfold budgetTakes
  split
  · exact .guarded fun _ => withBudget_steady s _
  · exact .refl s

theorem windowTakes_steady (f : RxFrame) (s : State) : Steady s (windowTakes f s) := by
  unfold windowTakes
  split
  · exact .guarded fun _ => withStop_steady s _ id
  · exact .refl s

theorem serveCode_steady (code : Nat) (args : List Byte) (s : State) : Steady s (serveCode code args s).state := by
  unfold serveCode
  split
  · exact .refl s
  · unfold serveReadList
    simp only
    split <;> exact .refl s
  · unfold serveReadRoster
    repeat' split
    all_goals exact .refl s
  · exact .refl s
  · exact .refl s
  · exact (withLink_steady s { s.link with counters := .zero }).trans (withRoster_steady _ _)
  · exact .refl s
  · unfold servePlaceHold
    simp only
    repeat' split
    · exact .refl s
    · exact .refl s
    · exact placeHold_steady _ s
  · unfold serveReleaseHold
    repeat' split
    · exact .refl s
    · exact .refl s
    · exact releaseHold_steady s
  · unfold serveClearTripped
    repeat' split
    · exact .refl s
    · exact .refl s
    · exact .refl s
    · exact .refl s
    · rename_i htest
      exact clearTripped_steady _ s (by simpa using htest)
  · unfold serveResetBudget
    repeat' split
    · exact .refl s
    · exact .refl s
    · exact withBudget_steady s _
  · exact steady_of_same rfl rfl rfl rfl rfl rfl rfl
  · exact .refl s

theorem serviceTakes_steady (f : RxFrame) (s : State) : Steady s (serviceTakes f s) := by
  have hserve (p : List Byte) : Steady s (serve p s).state := by
    unfold serve
    repeat' split
    · exact .refl s
    · exact .refl s
    · exact .refl s
    · exact serveCode_steady _ _ s
  unfold serviceTakes
  repeat' split
  · exact .refl s
  · exact withLink_steady s _
  · exact (hserve _).trans (withLink_steady _ _)
  · exact .refl s

/-- The closing checks start a round in OPERATING alone (R102). -/
theorem settle_steady (b s : State) : Steady s (settle b s) := by
  refine ⟨.of_phase (settle_supplyLow b s) (settle_phase b s) (fun h => ?_) (fun h => ?_) fun _ h => ?_, fun p h => ?_⟩
  · by_cases hp : s.phase = .OPERATING
    · exact .inr hp
    · rw [(settle_of_not_operating b s hp).1] at h
      exact .inl h
  · rw [settle_stop] at h
    exact h
  · rw [settle_conds]
    exact h
  · rw [settle_switch] at h
    exact h

theorem Steady.settle {s t : State} (h : Steady s t) (b : State) : Steady s (settle b t) := h.trans (settle_steady b t)

end Sys2Proof.Machine
end

section
/-!
SUPPORT. A switch starts to close inside a round that covers its path, and what else the blocks do with a frame keeps that so (R111,
R113, R141); the commands, and the proofs that every step keeps the phase discipline and closes switches in rounds alone.
-/
namespace Sys2Proof.Machine

/-! ### Closing inside a round -/

/-- The path is closing by its round: no cause holds it, and the round covers it, in CLOSING at a non-closer or in FINISHING at a
closer that holds CLOSED from every roster rank (R111, R113). -/
def ClosesInRound (t : State) (p : Path) : Prop :=
  t.held p = false ∧
  ∃ r, t.reclose.round = some r ∧ r.paths.has p = true ∧ r.closedSet.has p = true ∧
    (r.stage = .CLOSING ∧ r.role.closes = false ∨ r.stage = .FINISHING ∧ r.role.closes = true ∧ t.coversRoster r.closedHeld = true)

/-- The path's switch is closing only where it was before, or where its round closes it. -/
def ClosesBy (s t : State) (p : Path) : Prop :=
  (t.switch p).state = .CLOSING → (s.switch p).state = .CLOSING ∨ ClosesInRound t p

theorem held_false_iff (s : State) (p : Path) : s.held p = false ↔
    s.blocked p = false ∧ s.trips.full = false ∧ s.stop.sense = false ∧ s.phase = .OPERATING := by
  unfold State.held
  simp [and_assoc]

theorem coversRoster_eq (s : State) (held : List Nat) : s.coversRoster held = s.members.all held.contains := by
  unfold State.coversRoster State.members
  rw [List.all_map]
  rfl

/-- The close commands of a round close what the round covers (R111, R113). -/
theorem closeAndEnter_closes (r : Round) (stage : Stage) (s : State) (p : Path)
    (hstage : stage = .CLOSING ∧ r.role.closes = false ∨
      stage = .FINISHING ∧ r.role.closes = true ∧ s.coversRoster r.closedHeld = true) :
    ClosesBy s (closeAndEnter r stage s) p := by
  intro hclosing
  by_cases hall : s.allClosed r.paths = true
  · rw [closeAndEnter_eq, afterClosed_switch, s.closing_of_allClosed r stage hall] at hclosing
    exact .inl hclosing
  · rw [closeAndEnter_waits r stage s (Bool.eq_false_iff.2 hall)] at hclosing ⊢
    rw [s.closing_switch_eq] at hclosing
    split at hclosing
    · rename_i h
      obtain ⟨hp, hopen, hheld⟩ := h
      refine .inr ⟨(s.closing_held r stage p).trans hheld, _, rfl, hp, ?_, hstage⟩
      show (s.closedBy r).has p = true
      rw [s.closedBy_has, hp, hopen]
      simp
    · exact .inl hclosing

theorem gatherCheck_closes (s : State) (r : Round) (hr : s.reclose.round = some r) (hrole : r.role.closes = true) (p : Path) :
    ClosesBy s (gatherCheck s) p := by
  have hround : s.round = some r := hr
  unfold gatherCheck
  simp only [hround]
  split
  · rename_i h
    simp only [Bool.and_eq_true, decide_eq_true_eq] at h
    exact closeAndEnter_closes r .FINISHING s p (.inr ⟨rfl, hrole, h.2⟩)
  · exact .inl

theorem enterProceed_closes (r : Round) (s : State) (p : Path) : ClosesBy s (enterProceed r s) p := by
  unfold enterProceed
  split
  · exact fun h => .inl (by cases p <;> exact h)
  · rename_i hrole
    exact closeAndEnter_closes r .CLOSING s p (.inl ⟨rfl, Bool.eq_false_iff.2 hrole⟩)

/-- Before the close commands no switch has moved. -/
theorem ClosesBy.of_switch {s u t : State} {p : Path} (h : ClosesBy u t p) (hswitch : u.switch p = s.switch p) :
    ClosesBy s t p := by
  intro ht
  rw [← hswitch]
  exact h ht

theorem Steady.closesBy {s t : State} (h : Steady s t) (p : Path) : ClosesBy s t p := fun ht => .inl (h.closes p ht)

theorem sendRound_switch (c : Content) (s : State) (p : Path) : (sendRound c s).switch p = s.switch p := by cases p <;> rfl
theorem setRound_switch (r : Option Round) (s : State) (p : Path) : (setRound r s).switch p = s.switch p := by cases p <;> rfl

theorem proceedCheck_closes (s : State) (p : Path) : ClosesBy s (proceedCheck s) p := by
  unfold proceedCheck
  split
  · exact .inl
  · split
    · exact (enterProceed_closes _ _ p).of_switch (sendRound_switch _ s p)
    · exact .inl

theorem takePropose_switch (src : Nat) (round paths closer count crc : Byte) (s : State) (p : Path) :
    (takePropose src round paths closer count crc s).switch p = s.switch p := by
  unfold takePropose answerPropose answerTo
  simp only
  repeat' split
  all_goals cases p <;> rfl

theorem takeAnswer_closes (src : Nat) (round answer : Byte) (s : State) (p : Path) :
    ClosesBy s (takeAnswer src round answer s) p := by
  unfold takeAnswer
  repeat' split
  · exact .inl
  · exact .inl
  · exact (proceedCheck_closes _ p).of_switch (setRound_switch _ s p)
  · exact (abandonRound_steady _ s).closesBy p
  · exact .inl

theorem takeProceed_closes (src : Nat) (round : Byte) (s : State) (p : Path) : ClosesBy s (takeProceed src round s) p := by
  unfold takeProceed
  repeat' split
  · exact fun h => .inl (by cases p <;> exact h)
  · exact .inl
  · exact .inl
  · exact enterProceed_closes _ s p

theorem takeClosed_closes (src : Nat) (round : Byte) (s : State) (p : Path) : ClosesBy s (takeClosed src round s) p := by
  unfold takeClosed
  split
  · exact .inl
  · split
    · exact .inl
    · rename_i h
      have hrole := not_or.1 h |>.2
      rw [Bool.not_eq_true', Bool.not_eq_false] at hrole
      have hgather (r : Round) (hr : r.role.closes = true) : ClosesBy s (gatherCheck (setRound (some r) s)) p :=
        (gatherCheck_closes _ r rfl hr p).of_switch (setRound_switch _ s p)
      simp only
      split
      · exact hgather _ hrole
      · split
        · exact hgather _ hrole
        · exact .inl

theorem takeComplete_closes (src : Nat) (round : Byte) (s : State) (p : Path) :
    ClosesBy s (takeComplete src round s) p := by
  unfold takeComplete
  repeat' split
  · exact .inl
  · exact .inl
  · exact (completeRound_steady _ s).closesBy p
  · exact (dropRound_steady _ s).closesBy p
  · exact .inl

theorem takeAbandon_closes (round : Byte) (s : State) (p : Path) : ClosesBy s (takeAbandon round s) p := by
  unfold takeAbandon
  repeat' split
  · exact .inl
  · exact .inl
  · exact (dropRound_steady _ s).closesBy p

/-- What the reclose controller closes at a frame, it closes in its round (R110 to R117). -/
theorem recloseTakes_closes (f : RxFrame) (s : State) (p : Path) : ClosesBy s (recloseTakes f s) p := by
  unfold recloseTakes
  split
  · exact .inl
  · split
    · split
      · exact fun h => .inl (by cases p <;> exact h)
      · exact .inl
    · exact fun h => .inl (by rwa [takePropose_switch] at h)
    · split
      · exact takeAnswer_closes _ _ _ s p
      · exact .inl
    · exact takeProceed_closes _ _ s p
    · exact takeClosed_closes _ _ s p
    · exact takeComplete_closes _ _ s p
    · exact takeAbandon_closes _ s p
    · exact .inl
    · exact .inl
    · exact .inl

/-- A frame takes a station into a round only in OPERATING (R107, R123). -/
theorem recloseTakes_orderly (f : RxFrame) (s : State) : Orderly s (recloseTakes f s) := by
  refine (recloseTakes_reach f s).orderly fun h => ?_
  by_cases hp : s.phase = .OPERATING
  · exact .inr hp
  · cases hr : s.reclose.round with
    | some r => exact .inl rfl
    | none =>
        refine absurd h ?_
        cases hmoves : f.content.movesRound with
        | true =>
            rcases recloseTakes_of_idle f s hr hp hmoves with (e | ⟨_, _, _, _, e⟩) | ⟨n, _, _, e⟩ <;> rw [e]
            · simp [hr]
            · simp [queueRound, hr]
            · simp [hr]
        | false =>
            rcases recloseTakes_of_unmoved f s hmoves with e | ⟨b, _, e⟩ <;> rw [e] <;> simp [hr]

/-! ### What keeps a path closing by its round -/

/-- A course in which records soften and phase and roster ranks stay keeps what is still closing in its round. -/
theorem ClosesInRound.keeps {s t : State} {p : Path} (h : ClosesInRound s p) (hcourse : Course s t) (hsoft : SoftCourse s t)
    (hphase : t.phase = s.phase) (hmembers : t.members = s.members) (ht : (t.switch p).state = .CLOSING) :
    ClosesInRound t p := by
  obtain ⟨hheld, r, hr, hp, hset, hstage⟩ := h
  obtain ⟨hblocked, hfull, hsense, hoperating⟩ := (held_false_iff s p).1 hheld
  have hround : t.reclose.round = some r := by
    rcases hcourse.round with k | ⟨r', hr', l⟩
    · exact k.round.trans hr
    · rw [hr, Option.some.injEq] at hr'
      exact absurd ht (not_closing_of_isOff (l.off p (hr' ▸ hset)))
  obtain ⟨g, hg, htrips⟩ := hsoft.trips
  refine ⟨(held_false_iff t p).2 ⟨?_, ?_, ?_, hphase.trans hoperating⟩, r, hround, hp, hset, ?_⟩
  · unfold State.blocked at hblocked ⊢
    rw [htrips]
    exact Bool.eq_false_iff.2 fun hyes => absurd ((hg.blocked _ p hyes).symm.trans hblocked) (by decide)
  · rw [htrips]
    exact hfull
  · rw [hsoft.stop]
    exact hsense
  · rwa [coversRoster_eq, hmembers, ← coversRoster_eq]

theorem settle_closesInRound (b s : State) (p : Path) (h : ClosesInRound s p) : ClosesInRound (settle b s) p := by
  obtain ⟨hheld, r, hr, hp, hset, hstage⟩ := h
  refine ⟨?_, r, settle_keeps_round b s r hr, hp, hset, ?_⟩
  · rw [held_false_iff] at hheld ⊢
    unfold State.blocked at hheld ⊢
    simpa using hheld
  · unfold State.coversRoster at hstage ⊢
    simpa using hstage

theorem heardRoster_ranks (f : RxFrame) (s : State) : (heardRoster f s).map (·.rank) = s.members :=
  updateEntry_ranks _ _ (fun e => Entry.takeFrame_rank _ _ _ e) s.roster

/-- The membership unit leaves closing in its round what it leaves closing. -/
theorem membershipTakes_closesInRound (f : RxFrame) (s : State) (p : Path) (h : ClosesInRound s p)
    (ht : ((membershipTakes f s).switch p).state = .CLOSING) : ClosesInRound (membershipTakes f s) p := by
  have hoperating : s.phase = .OPERATING := ((held_false_iff s p).1 h.1).2.2.2
  have hleft (q : Phase) (u : State) (hu : u.phase = .OPERATING) : ((changePhase q u).switch p).state ≠ .CLOSING :=
    not_closing_of_isOff ((changePhase_leavesOperating q u hu).1 p)
  by_cases hown : f.src.toNat = s.rank
  · have hconflict : membershipTakes f s = rankConflict s := if_pos hown
    rw [hconflict] at ht ⊢
    unfold rankConflict at ht ⊢
    split at ht
    · rename_i hflag
      rw [if_pos hflag]
      exact h
    · simp only [State.withConflict_phase, hoperating] at ht
      exact absurd ht (hleft _ _ hoperating)
  · cases he : s.entry f.src.toNat with
    | none =>
        rw [membershipTakes_of_stranger f s hown he]
        exact h
    | some e =>
        have hphase : (membershipTakes f s).phase = s.phase := by
          rcases membershipTakes_cases f e s hown he with e' | ⟨q, _, _, _, _, e'⟩
          · rw [e', memberHeard_phase]
          · rw [e'] at ht
            exact absurd ht (hleft q _ ((memberHeard_phase f e s).trans hoperating))
        refine h.keeps (membershipTakes_course f e s hown he) (membershipTakes_soft f e s hown he) hphase ?_ ht
        unfold State.members
        rw [(membershipTakes_heard f e s hown he).1]
        exact heardRoster_ranks f s

/-! ### A frame -/

/-- Every block takes a frame in an orderly way. -/
theorem takers_orderly (f : RxFrame) : ∀ g ∈ takers f, ∀ s, Orderly s (g s) := by
  have hm (s : State) := (membershipTakes_steady f s).toOrderly
  have hl (s : State) := (listTakes_steady f s).toOrderly
  have hb (s : State) := (budgetTakes_steady f s).toOrderly
  have hw (s : State) := (windowTakes_steady f s).toOrderly
  have hs (s : State) := (serviceTakes_steady f s).toOrderly
  have hr := recloseTakes_orderly f
  unfold takers
  split <;> simp only [List.mem_cons, List.not_mem_nil, or_false, forall_eq_or_imp, forall_eq]
  · exact ⟨hm, hl, hb, hr⟩
  · exact ⟨hm, hl, hw⟩
  · exact ⟨hm, hr⟩
  · exact ⟨hm, hr⟩
  · exact ⟨hm, hr⟩
  · exact ⟨hm, hr⟩
  · exact ⟨hm, hr⟩
  · exact ⟨hm, hr⟩
  · exact ⟨hm, hs⟩
  · exact hm

/-- A frame that moves no round closes no switch in any block. -/
theorem takers_steady (f : RxFrame) (hmoves : f.content.movesRound = false) : ∀ g ∈ takers f, ∀ s, Steady s (g s) := by
  have hm := membershipTakes_steady f
  have hr (s : State) : Steady s (recloseTakes f s) := by
    rcases recloseTakes_of_unmoved f s hmoves with e | ⟨b, _, e⟩ <;> rw [e]
    · exact .refl s
    · exact steady_of_same rfl rfl rfl rfl rfl rfl rfl
  unfold takers
  split <;> rename_i hc <;> simp only [List.mem_cons, List.not_mem_nil, or_false, forall_eq_or_imp, forall_eq]
  · exact ⟨hm, listTakes_steady f, budgetTakes_steady f, hr⟩
  · exact ⟨hm, listTakes_steady f, windowTakes_steady f⟩
  · exact absurd (hc ▸ hmoves) Bool.noConfusion
  · exact absurd (hc ▸ hmoves) Bool.noConfusion
  · exact absurd (hc ▸ hmoves) Bool.noConfusion
  · exact absurd (hc ▸ hmoves) Bool.noConfusion
  · exact absurd (hc ▸ hmoves) Bool.noConfusion
  · exact absurd (hc ▸ hmoves) Bool.noConfusion
  · exact ⟨hm, serviceTakes_steady f⟩
  · exact hm

theorem closesBy_freeCount {s t : State} {p : Path} (n : Nat) (h : ClosesBy s t p) : ClosesBy s (t.withFreeCount n) p := by
  cases p <;> exact h

/-- A frame's blocks, in whatever order, close switches in the round alone. -/
theorem frame_closes (f : RxFrame) (s : State) (p : Path) : ClosesBy s (inAnyOrder (takers f) s) p := by
  cases hmoves : f.content.movesRound with
  | false =>
      refine Steady.closesBy (inAnyOrder_keeps (Steady s) (takers f) (fun t n h => h.trans (withFreeCount_steady t n)) ?_ s
        (.refl s)) p
      exact fun g hg t h => h.trans (takers_steady f hmoves g hg t)
  | true =>
      have hfirst : ClosesBy s (recloseTakes f (membershipTakes f s)) p := fun h =>
        (recloseTakes_closes f _ p h).imp ((membershipTakes_steady f s).closes p) id
      have hlast : ClosesBy s (membershipTakes f (recloseTakes f s)) p := fun h =>
        (recloseTakes_closes f s p ((membershipTakes_steady f _).closes p h)).imp id fun hin =>
          membershipTakes_closesInRound f _ p hin h
      obtain ⟨n, e | e⟩ := roundFrame_orders hmoves s <;> rw [e]
      · exact closesBy_freeCount n hfirst
      · exact closesBy_freeCount n hlast

/-! ### What a step keeps -/

/-- Out of work the list is empty and not full (R27). -/
def EmptyOutOfWork (s : State) : Prop := s.working = false → s.trips.records = [] ∧ s.trips.full = false

/-- A step keeps the phase discipline and closes switches in rounds alone. -/
structure StepKeeps (s t : State) : Prop where
  closes : ∀ p, ClosesBy s t p
  discipline : PhaseDiscipline s → PhaseDiscipline t

/-- A steady course that leaves phase and list, at work or out of it. -/
structure Aloof (s t : State) : Prop extends Steady s t where
  phase : t.phase = s.phase
  trips : t.trips = s.trips

theorem Aloof.refl (s : State) : Aloof s s := ⟨.refl s, rfl, rfl⟩

theorem Aloof.trans {s t u : State} (h : Aloof s t) (g : Aloof t u) : Aloof s u :=
  ⟨h.toSteady.trans g.toSteady, g.phase.trans h.phase, g.trips.trans h.trips⟩

theorem withLink_aloof (s : State) (l : Link) : Aloof s (s.withLink l) := ⟨withLink_steady s l, rfl, rfl⟩

/-- What is orderly at work keeps the discipline. -/
theorem Orderly.discipline {s t : State} (h : Orderly s t) (hw : s.working = true) (hs : PhaseDiscipline s) :
    PhaseDiscipline t := by
  obtain ⟨hreset, hround, _, hpull⟩ := hs
  have hworks : t.working = true := h.works.trans hw
  refine ⟨fun hlow => ?_, h.rounds hround, fun hidle => absurd (hworks.symm.trans hidle) (by decide), h.pull hpull⟩
  exact absurd (hw.symm.trans (not_working_of_loading (hreset (h.supply ▸ hlow)))) (by decide)

theorem Aloof.kept {s t : State} (h : Aloof s t) : StepKeeps s t := by
  refine ⟨h.closesBy, fun ⟨hreset, hround, hempty, hpull⟩ => ⟨fun hlow => ?_, h.rounds hround, fun hidle => ?_, h.pull hpull⟩⟩
  · exact h.phase.trans (hreset (h.supply ▸ hlow))
  · rw [h.trips]
    exact hempty (h.works ▸ hidle)

/-- A reset leaves nothing of rounds, list and pull. -/
theorem StepKeeps.of_reset {s t : State} (hswitch : ∀ p, t.switch p = Switch.reset) (hphase : t.phase = .LOADING)
    (hround : t.reclose.round = none) (hrecords : t.trips.records = [] ∧ t.trips.full = false)
    (hdriving : t.stop.driving = false) : StepKeeps s t := by
  refine ⟨fun p h => ?_, fun _ => ⟨fun _ => hphase, fun h => ?_, fun _ => hrecords, fun h => ?_⟩⟩
  · rw [hswitch] at h
    exact absurd h (by decide)
  · rw [hround] at h
    exact absurd h Bool.noConfusion
  · exact absurd (h.symm.trans hdriving) (by decide)

/-! ### Frames -/

theorem distribute_kept (f : RxFrame) (s : State) : StepKeeps s (distribute f s) := by
  have key (hw : s.working = true) : StepKeeps s (settle s (inAnyOrder (takers f) s)) := by
    have horderly : Orderly s (inAnyOrder (takers f) s) :=
      inAnyOrder_keeps (Orderly s) (takers f) (fun t n h => h.trans (withFreeCount_steady t n).toOrderly)
        (fun g hg t h => h.trans (takers_orderly f g hg t)) s (.refl s)
    refine ⟨fun p h => ?_, (horderly.trans (settle_steady s _).toOrderly).discipline hw⟩
    rw [settle_switch] at h
    exact (frame_closes f s p h).imp id (settle_closesInRound s _ p)
  unfold distribute
  cases hp : s.phase with
  | LOADING => exact (Aloof.refl s).kept
  | HALTED =>
      have hphase : (serviceTakes f s).phase = s.phase :=
        (serviceTakes_scope f s).phase.resolve_right fun h => absurd (hp ▸ h.1 : Phase.working .HALTED = true) (by decide)
      exact (Aloof.kept ⟨serviceTakes_steady f s, hphase, serviceTakes_halted_trips f s hp⟩)
  | FORMING => exact key (State.working_of_phase hp rfl)
  | OPERATING => exact key (State.working_of_phase hp rfl)
  | CONFINED => exact key (State.working_of_phase hp rfl)

/-- A step after what leaves switches, phase, list, round, conditions and stop line. -/
theorem StepKeeps.after {s u t : State} (h : Aloof s u) (g : StepKeeps u t) : StepKeeps s t :=
  ⟨fun p ht => (g.closes p ht).imp (h.closes p) id, fun hs => g.discipline (h.kept.discipline hs)⟩

theorem receive_kept (f : RxFrame) (s : State) : StepKeeps s (receive f s) := by
  unfold receive
  split
  · exact (Aloof.refl s).kept
  · split
    · exact .after (withLink_aloof s _) (distribute_kept f _)
    · exact (withLink_aloof s _).kept

theorem mediumIdle_kept (s : State) : StepKeeps s (mediumIdle s) := by
  unfold mediumIdle
  split
  · exact (Aloof.refl s).kept
  · refine .after (withLink_aloof s s.link.goIdle) ?_
    generalize s.withLink s.link.goIdle = u
    unfold judgeEnded
    repeat' split
    · exact (Aloof.refl u).kept
    · exact (withLink_aloof u _).kept
    · exact (Aloof.refl u).kept
    · exact (withLink_aloof u _).kept
    · exact (withLink_aloof u _).kept
    · exact (Aloof.refl u).kept
    · exact receive_kept _ u

/-! ### Resets, loading and the own frame -/

theorem serviceRestart_kept (s u : State) : StepKeeps s (serviceRestart u) :=
  .of_reset (fun p => by cases p <;> rfl) rfl rfl ⟨rfl, rfl⟩ rfl

theorem replyLeft_kept {s u : State} (h : Aloof s u) : StepKeeps s (replyLeft u) := by
  unfold replyLeft
  split
  · exact serviceRestart_kept s u
  · exact h.kept

theorem collided_kept (k : TxClass) (f : TxFrame) {s u : State} (h : Aloof s u) : StepKeeps s (collided k f u) := by
  have hcount := h.trans (withLink_aloof u { u.link with counters := u.link.counters.collided })
  unfold collided
  simp only
  split
  · exact (hcount.trans (withLink_aloof _ _)).kept
  · split
    · exact replyLeft_kept ((hcount.trans (withLink_aloof _ _)).trans (withLink_aloof _ _))
    · exact ((hcount.trans (withLink_aloof _ _)).trans (withLink_aloof _ _)).kept

theorem releaseIfDone_aloof (s : State) : Aloof s (releaseIfDone s) := by
  have hwithin := releaseIfDone_within s
  exact ⟨releaseIfDone_steady s, hwithin.rest .phase (by decide), hwithin.rest .trips (by decide)⟩

theorem reportSent_kept (k : TxClass) (f : TxFrame) {s u : State} (h : Aloof s u) : StepKeeps s (reportSent k f u) := by
  unfold reportSent
  split
  · have hstop : Aloof u (u.withStop { u.stop with confirmed := true }) := ⟨withStop_steady u _ id, rfl, rfl⟩
    exact ((h.trans hstop).trans (releaseIfDone_aloof _)).kept
  · split
    · exact replyLeft_kept h
    · exact h.kept

theorem startRun_steady (shunt : Int) (s : State) (hw : s.working = true) : Steady s (startRun shunt s) := by
  unfold startRun
  simp only
  have hmeas : Steady s ((startScan s).withMeas { (startScan s).meas with
      sampleTimer := .running 250, sum := 0, number := 0, comparator := comparatorRises s.cfg shunt }) :=
    (withMeas_steady s _).trans (withMeas_steady _ _)
  split
  · exact hmeas.trans (shortAsserted_steady _ hw)
  · exact hmeas

theorem lineAsserted_steady (unexplained : Bool) (s : State) : Steady s (lineAsserted unexplained s) :=
  ((withStop_steady s (s.stop.assertedSense unexplained) id).trans (setReleaseTimer_steady _ _)).trans (holdBoth_steady _)

/-! ### Switch events (R142 to R144) -/

theorem not_closing_enterOpening (w : Switch) : w.enterOpening.state ≠ .CLOSING := not_closing_of_isOff w.enterOpening_isOff

theorem feedbackOn_closing (w : Switch) (h : w.feedbackOn.state = .CLOSING) : w.state = .CLOSING := by
  unfold Switch.feedbackOn at h
  simp only at h
  split at h <;> rename_i hw
  · exact absurd h (not_closing_enterOpening _)
  · exact hw
  · exact h
  · exact h
  · exact h

theorem feedbackOff_closing (w : Switch) (h : w.feedbackOff.1.state = .CLOSING) : w.state = .CLOSING := by
  unfold Switch.feedbackOff at h
  simp only at h
  split at h
  · exact h
  · exact h
  · exact absurd h (not_closing_enterOpening _)
  · exact absurd h (by simp)
  · exact absurd h (by simp)

theorem closeLimit_closing (w : Switch) (h : w.closeLimit.1.state = .CLOSING) : w.state = .CLOSING := by
  unfold Switch.closeLimit at h
  split at h
  · assumption
  · exact h

theorem openLimit_closing (w : Switch) (h : w.openLimit.1.state = .CLOSING) : w.state = .CLOSING := by
  unfold Switch.openLimit at h
  split at h
  · split at h
    · exact absurd h (by simp)
    · exact h
  · exact h

theorem switchEvent_steady (p : Path) (out : Switch × Bool) (s : State)
    (h : out.1.state = .CLOSING → (s.switch p).state = .CLOSING) : Steady s (switchEvent p out s) := by
  have hmove := moveSwitch_steady p out.1 s h
  unfold switchEvent
  simp only
  split
  · exact hmove.trans (switchFaultReport_steady _)
  · exact hmove

theorem readFeedback_steady (i : LoadInputs) (s : State) : Steady s (readFeedback i s) := by
  have hmove (p : Path) (u : State) : Steady u (moveSwitch p (u.switch p).feedbackOn u) :=
    moveSwitch_steady p _ u (feedbackOn_closing _)
  have hguarded (b : Bool) (p : Path) (u : State) : Steady u (if b then moveSwitch p (u.switch p).feedbackOn u else u) :=
    .guarded fun _ => hmove p u
  exact (hguarded i.feedbackCharge .charge s).trans (hguarded i.feedbackDischarge .discharge _)

/-! ### The end of LOADING (R200) -/

theorem endLoading_kept (i : LoadInputs) (s : State) : StepKeeps s (endLoading i s) := by
  unfold endLoading
  split
  · rename_i hloading
    obtain ⟨hphase, hsupply⟩ := hloading
    have hidle : s.working = false := not_working_of_loading hphase
    simp only
    generalize loaded (s.store.read i.block).block.toList i.strap = l
    have hat (u : State) (hround : u.reclose.round = s.reclose.round) (hdriving : u.stop.driving = s.stop.driving)
        (hs : PhaseDiscipline s) : RoundAtWork u ∧ PullByShort u := by
      obtain ⟨_, hr, _, hpull⟩ := hs
      refine ⟨fun h => ?_, fun h => ?_⟩
      · rw [hround] at h
        exact absurd (hphase.symm.trans (hr h)) (by decide)
      · rw [hdriving] at h
        exact absurd ((hpull h).2.symm.trans hidle) (by decide)
    split
    · refine ⟨fun p h => .inl (by cases p <;> exact h), fun hs => ?_⟩
      obtain ⟨hround, hpull⟩ := hat (enterHalted l (s.withStore (s.store.read i.block))) rfl rfl hs
      exact ⟨fun hlow => absurd (hlow.symm.trans hsupply) (by decide), hround, fun _ => hs.2.2.1 hidle, hpull⟩
    · generalize hforming :
        enterForming (Cfg.ofBlock (s.store.read i.block).block.toList) l (s.withStore (s.store.read i.block)) = u
      have hworks : u.working = true := hforming ▸ rfl
      have hsame : (∀ p, u.switch p = s.switch p) ∧ u.reclose.round = s.reclose.round ∧
          u.stop.driving = s.stop.driving ∧ u.supplyLow = s.supplyLow := by
        subst hforming
        exact ⟨fun p => by cases p <;> rfl, rfl, rfl, rfl⟩
      obtain ⟨hswitch, hround, hdriving, hlow⟩ := hsame
      have hsteady : Steady u (inAnyOrder [startRun i.shunt, readStopLine i.stopLine, readFeedback i] u) := by
        refine inAnyOrder_keeps (Steady u) _ (fun t n h => h.trans (withFreeCount_steady t n)) (fun g hg t h => ?_) u (.refl u)
        simp only [List.mem_cons, List.not_mem_nil, or_false] at hg
        rcases hg with rfl | rfl | rfl
        · exact h.trans (startRun_steady _ t (h.works.trans hworks))
        · exact h.trans (.guarded fun _ => lineAsserted_steady true t)
        · exact h.trans (readFeedback_steady i t)
      refine ⟨fun p h => .inl (hswitch p ▸ hsteady.closes p h), fun hs => ?_⟩
      obtain ⟨hr, hpull⟩ := hat u hround hdriving hs
      exact hsteady.discipline hworks ⟨fun h => absurd ((h.symm.trans hlow).trans hsupply) (by decide), hr,
        fun h => absurd (hworks.symm.trans h) (by decide), hpull⟩
  · exact (Aloof.refl s).kept

/-! ### Every command and every step -/

theorem beatPeriod_steady (s : State) : Steady s (beatPeriod s) := by
  refine Steady.trans ?_ (withBeats_steady _ _)
  refine inAnyOrder_keeps (Steady s) _ (fun t n h => h.trans (withFreeCount_steady t n)) ?_ _ (withMeas_steady s _)
  intro g hg t h
  simp only [List.mem_cons, List.not_mem_nil, or_false] at hg
  rcases hg with rfl | rfl
  · exact h.trans (evaluatePack_steady t)
  · exact h.trans ((withLink_steady t _).trans (withBeats_steady _ _))

/-- A command taken only at work is steady. -/
theorem exec_steady (c : Instr) (s : State) (hc : c.atWork = true) : ∃ t, exec c s = .next t ∧ Steady s t := by
  cases c
  case checkIntervalExpiry => exact ⟨_, rfl, .guarded fun _ => withMeas_steady s _⟩
  case scanResult m =>
    exact ⟨_, rfl, .guarded fun _ => ((withMeas_steady s _).trans (evaluateScan_steady _ _)).settle s⟩
  case currentSample x =>
    exact ⟨_, rfl, .guarded fun _ => ((withMeas_steady s _).trans (evaluateSample_steady _ _)).settle s⟩
  case comparatorAssertion x =>
    exact ⟨_, rfl, .guarded fun h => ((withMeas_steady s { s.meas with comparator := true }).trans (shortAsserted_steady _ h.1)).settle s⟩
  case comparatorRelease x =>
    exact ⟨_, rfl, .guarded fun _ => ((withMeas_steady s _).trans (shortReleased_steady _)).settle s⟩
  case shortDelayExpiry => exact ⟨_, rfl, .guarded fun h => (tripShort_steady s h.1).settle s⟩
  case recoveryTimerExpiry k =>
    refine ⟨_, rfl, .guarded fun h => (clearCond_steady (ownCond k) s fun hk _ => ?_).settle s⟩
    obtain rfl : k = .short := hk
    obtain ⟨_, _, hsettling, _⟩ := h
    have hstate : s.conds.short.state = .SETTLING := hsettling
    rw [hstate]
    decide
  case releaseTimerExpiry =>
    exact ⟨_, rfl, .guarded fun _ => (clearCond_steady _ s fun h => absurd h (by decide)).settle s⟩
  case beatPeriodEvent => exact ⟨_, rfl, .guarded fun _ => (beatPeriod_steady s).settle s⟩
  case silenceTimerExpiry r =>
    refine ⟨_, rfl, ?_⟩
    split
    · exact .guarded fun _ => (entryLost_steady r s).settle s
    · exact .refl s
  case formationTimeout => exact ⟨_, rfl, .guarded fun _ => (formationExpired_steady s).settle s⟩
  case holdOffExpiry p =>
    have hhold : Steady s (s.withReclose (s.reclose.setHoldOff p .expired)) :=
      steady_of_same rfl rfl (by cases p <;> rfl) rfl rfl rfl rfl
    exact ⟨_, rfl, .guarded fun _ => hhold.settle s⟩
  case windowTimerExpiry => exact ⟨_, rfl, .guarded fun _ => (windowExpired_steady s).settle s⟩
  case listFullTimerExpiry => exact ⟨_, rfl, .guarded fun _ => (withTrips_steady s _).settle s⟩
  case quietTimerExpiry => exact ⟨_, rfl, .guarded fun _ => (withBudget_steady s _).settle s⟩
  case feedbackOn p =>
    exact ⟨_, rfl, .guarded fun _ => (switchEvent_steady p _ s (feedbackOn_closing _)).settle s⟩
  case feedbackOff p =>
    exact ⟨_, rfl, .guarded fun _ => (switchEvent_steady p _ s (feedbackOff_closing _)).settle s⟩
  case closeLimitExpiry p =>
    exact ⟨_, rfl, .guarded fun _ => (switchEvent_steady p _ s (closeLimit_closing _)).settle s⟩
  case openLimitExpiry p =>
    exact ⟨_, rfl, .guarded fun _ => (switchEvent_steady p _ s (openLimit_closing _)).settle s⟩
  case stopLineGoingAsserted => exact ⟨_, rfl, .guarded fun _ => (lineAsserted_steady false s).settle s⟩
  case stopLineGoingReleased =>
    exact ⟨_, rfl, .guarded fun _ => ((withStop_steady s s.stop.releasedSense id).trans (setReleaseTimer_steady _ _)).settle s⟩
  case minimumTimerExpiry =>
    exact ⟨_, rfl, .guarded fun _ => (withStop_steady s { s.stop with minTimer := .expired } id).trans (releaseIfDone_steady _)⟩
  case driverLimitExpiry => exact ⟨_, rfl, .guarded fun _ => releaseLine_steady s⟩
  case explanationWindowExpiry =>
    exact ⟨_, rfl, .guarded fun _ => ((withStop_steady s s.stop.closeWindow id).trans (unexplainedReport_steady _)).settle s⟩
  case stuckTimerExpiry =>
    exact ⟨_, rfl, .guarded fun _ =>
      ((withStop_steady s { s.stop with stuck := .stopped } id).trans (unexplainedReport_steady _)).settle s⟩
  all_goals exact absurd hc Bool.noConfusion

/-- Every command keeps the phase discipline and closes switches in rounds alone. -/
theorem exec_kept (c : Instr) (s : State) : ∃ t, exec c s = .next t ∧ StepKeeps s t := by
  by_cases hwork : c.atWork = true
  · cases hw : s.working with
    | false => exact ⟨s, exec_of_idle c s hw hwork, (Aloof.refl s).kept⟩
    | true =>
        obtain ⟨t, ht, h⟩ := exec_steady c s hwork
        exact ⟨t, ht, h.closesBy, h.discipline hw⟩
  · cases c
    case supplyReset => exact ⟨_, rfl, .of_reset (fun p => by cases p <;> rfl) rfl rfl ⟨rfl, rfl⟩ rfl⟩
    case supplyResetEnd =>
      refine ⟨_, rfl, ?_⟩
      split
      · rename_i hlow
        refine ⟨fun p h => .inl (by cases p <;> exact h), fun ⟨hreset, hround, hempty, hpull⟩ => ?_⟩
        have hphase : s.phase = .LOADING := hreset hlow
        have hidle : s.working = false := not_working_of_loading hphase
        refine ⟨fun _ => rfl, fun h => absurd (hphase.symm.trans (hround h)) (by decide), fun _ => hempty hidle, fun h => ?_⟩
        exact absurd ((hpull h).2.symm.trans hidle) (by decide)
      · exact (Aloof.refl s).kept
    case loadingEnd i => exact ⟨_, rfl, endLoading_kept i s⟩
    case haltedBeat =>
      refine ⟨_, rfl, ?_⟩
      split
      · exact Aloof.kept ⟨steady_of_same rfl rfl rfl rfl rfl rfl rfl, rfl, rfl⟩
      · exact (Aloof.refl s).kept
    case mediumIdle => exact ⟨_, rfl, mediumIdle_kept s⟩
    case frameStart =>
      refine ⟨_, rfl, ?_⟩
      repeat' split
      · exact (withLink_aloof s _).kept
      · exact (Aloof.refl s).kept
      · exact (Aloof.refl s).kept
    case collision matched echo =>
      refine ⟨_, rfl, ?_⟩
      split
      · exact (Aloof.refl s).kept
      · simp only
        split
        · exact (Aloof.refl s).kept
        · split
          · exact (Aloof.refl s).kept
          · exact collided_kept _ _ (withLink_aloof s _)
    case frameSent =>
      refine ⟨_, rfl, ?_⟩
      split
      · exact (Aloof.refl s).kept
      · exact reportSent_kept _ _ (withLink_aloof s _)
    case characterReceived e =>
      refine ⟨_, rfl, ?_⟩
      split
      · exact (Aloof.refl s).kept
      · exact (withLink_aloof s _).kept
    case beat | notice | propose | answer | proceed | closed | complete | abandon | reply | readStatus | readList |
        readRoster | readMeasurements | readCounters | clearCounters | readConfiguration | placeHold | releaseHold |
        clearTripped | resetBudget | restart | unknownRequest => exact ⟨_, rfl, receive_kept _ s⟩
    all_goals exact absurd rfl hwork

/-- One microsecond moves timers alone (log entry 5). -/
theorem tick_kept (s : State) : StepKeeps s s.tick := by
  have hround : s.tick.reclose.round.isSome = s.reclose.round.isSome := Option.isSome_map
  refine ⟨fun p h => .inl (by cases p <;> exact h), fun ⟨hreset, hr, hempty, hpull⟩ => ⟨hreset, fun h => ?_, hempty, hpull⟩⟩
  exact hr (hround ▸ h)

theorem step_kept {s t : State} (h : step s = .next t) : StepKeeps s t := by
  unfold step at h
  split at h
  · obtain rfl : s.tick = t := by simpa using h
    exact tick_kept s
  · rename_i c rest _
    obtain ⟨u, hu, hkept⟩ := exec_kept c { s with pending := rest }
    obtain rfl : u = t := by simpa [hu] using h
    exact ⟨fun p => (hkept.closes p).of_switch (by cases p <;> rfl), hkept.discipline⟩

/-- Settles O55: the close commands close a path that no cause holds and put it in the closed set of their round, and no operation
after them in the step lets it go on closing otherwise. -/
theorem closesOnlyInRound : Obligations.ClosesOnlyInRound := by
  intro s t p hstep hbefore hafter
  exact ((step_kept hstep).closes p hafter).resolve_left hbefore

/-- Settles O56: every operation at work is orderly, a reset leaves nothing of rounds, list and pull, and out of work nothing reaches
them. -/
theorem stepKeepsPhaseDiscipline : Obligations.StepKeepsPhaseDiscipline :=
  fun _ _ h hstep => (step_kept hstep).discipline h

end Sys2Proof.Machine
end

section
/-!
SUPPORT. The hold-off, list-full and quiet timers at their expiry (R26, R100, R133), and the start of a round at a hold-off's expiry:
the start test, eligibility, the coordinator and the retirement set (R7, R87, R88, R102 to R105).
-/
namespace Sys2Proof.Machine

/-! ### The closing checks where no path opened at pack level -/

theorem packEdge_of_same (b s : State) (p : Path) (h : s.packClosed p = b.packClosed p) : packEdge b p s = s := by
  unfold packEdge
  rw [h]
  simp

/-- Where the pack level is as before, no hold-off restarts (R100). -/
theorem settle_of_packSame (b s : State) (h : ∀ p, s.packClosed p = b.packClosed p) :
    settle b s = if b.startInputs = s.startInputs then s else startTest (quietRetest s) := by
  unfold settle
  rw [packEdge_of_same b s .charge (h .charge), packEdge_of_same b s .discharge (h .discharge)]

theorem quietRetest_eq (s : State) : ∃ q, quietRetest s = s.withBudget { s.budget with quiet := q } := by
  unfold quietRetest
  split
  · split
    · exact ⟨s.budget.quiet, rfl⟩
    · exact ⟨_, rfl⟩
  · exact ⟨_, rfl⟩

theorem startTest_holdOff (s : State) (p : Path) : (startTest s).reclose.holdOff p = s.reclose.holdOff p := by
  unfold startTest
  split
  · cases p <;> rfl
  · rfl

theorem startTest_budget (s : State) : (startTest s).budget = s.budget := by
  unfold startTest
  split <;> rfl

theorem settle_holdOff (b s : State) (h : ∀ p, s.packClosed p = b.packClosed p) (p : Path) :
    (settle b s).reclose.holdOff p = s.reclose.holdOff p := by
  rw [settle_of_packSame b s h]
  split
  · rfl
  · obtain ⟨q, hq⟩ := quietRetest_eq s
    rw [startTest_holdOff, hq, State.withBudget_reclose]

/-- With the count at 0 the quiet timer does not run (R132). -/
theorem quietRetest_of_zero (s : State) (h : s.budget.count = 0) : (quietRetest s).budget.quiet = .stopped := by
  have hholds : s.quietHolds = false := by simp [State.quietHolds, h]
  unfold quietRetest
  rw [hholds]
  rfl

theorem settle_newEpoch_quiet (b s : State) : (settle b (newEpoch s)).budget.quiet = .stopped := by
  unfold settle
  split
  · rfl
  · rw [startTest_budget]
    refine quietRetest_of_zero _ ?_
    unfold packEdge
    split <;> split <;> rfl

/-! ### A hold-off's expiry -/

/-- The station with the path's hold-off elapsed (R100). -/
def State.elapsed (s : State) (p : Path) : State := s.withReclose (s.reclose.setHoldOff p .expired)

theorem exec_holdOffExpiry (p : Path) (s : State) (hw : s.working = true) (hrun : (s.reclose.holdOff p).isRunning = true) :
    exec (.holdOffExpiry p) s = .next (settle s (s.elapsed p)) := by
  unfold exec execHoldOffExpiry
  simp only [hw, hrun, and_self, if_true]
  rfl

theorem elapsed_packClosed (s : State) (p q : Path) : (s.elapsed p).packClosed q = s.packClosed q := by cases q <;> rfl

theorem elapsed_holdOff (s : State) (p : Path) : (s.elapsed p).reclose.holdOff p = .expired := by cases p <;> rfl

/-- A hold-off that elapses is an input of the start test (R102). -/
theorem elapsed_startInputs (s : State) (p : Path) (hrun : (s.reclose.holdOff p).isRunning = true) :
    s.startInputs ≠ (s.elapsed p).startInputs := by
  have hnot (t : LatchTimer) (h : t.isRunning = true) : t.isExpired = false := by
    cases t
    case running => rfl
    all_goals exact absurd h Bool.noConfusion
  intro h
  cases p
  · exact Bool.false_ne_true ((hnot _ hrun).symm.trans (congrArg StartInputs.holdCharge h))
  · exact Bool.false_ne_true ((hnot _ hrun).symm.trans (congrArg StartInputs.holdDischarge h))

/-- At a hold-off's expiry the quiet timer is looked at, and the start test is made (R100, R102, R132). -/
theorem settle_elapsed (s : State) (p : Path) (hrun : (s.reclose.holdOff p).isRunning = true) :
    ∃ q, settle s (s.elapsed p) = startTest ((s.elapsed p).withBudget { s.budget with quiet := q }) := by
  obtain ⟨q, hq⟩ := quietRetest_eq (s.elapsed p)
  refine ⟨q, ?_⟩
  rw [settle_of_packSame s _ (elapsed_packClosed s p), if_neg (elapsed_startInputs s p hrun), hq]
  rfl

/-- Settles O16: each expiry is its one act and the closing checks, which start no hold-off where the pack level stays and run no quiet
timer with the count at 0. -/
theorem timersElapse : Obligations.TimersElapse := by
  refine ⟨fun p s hw hrun => ?_, fun s hw hrun => ?_, fun s hw hrun => ?_⟩
  · refine ⟨_, exec_holdOffExpiry p s hw hrun, ?_, settle_endsAs s _⟩
    rw [settle_holdOff s _ (elapsed_packClosed s p), elapsed_holdOff]
  · have hexec : exec .listFullTimerExpiry s =
        .next (settle s (s.withTrips { s.trips with full := false, fullTimer := .stopped })) := by
      unfold exec execListFullTimerExpiry
      simp only [hw, hrun, and_self, if_true]
    exact ⟨_, hexec, settle_endsAs s _⟩
  · have hexec : exec .quietTimerExpiry s = .next (settle s (newEpoch s)) := by
      unfold exec execQuietTimerExpiry
      simp only [hw, hrun, and_self, if_true]
    exact ⟨_, hexec, settle_newEpoch_quiet s s, settle_endsAs s _⟩

/-! ### The start test (R102) -/

theorem ready_iff (e : Entry) : e.ready = true ↔ e.status = .PRESENT ∧
    e.beat.map (fun b => (b.phase, b.digestMatch, b.listFull)) = some (.OPERATING, true, false) := by
  unfold Entry.ready
  cases e.beat <;> simp [and_assoc]

theorem mayStart_iff (s : State) : s.mayStart = true ↔
    s.phase = .OPERATING ∧ s.coordinator = some s.rank ∧ s.reclose.round = none ∧
      (∀ e ∈ s.roster, e.status = .PRESENT ∧
        e.beat.map (fun b => (b.phase, b.digestMatch, b.listFull)) = some (.OPERATING, true, false)) ∧
      s.trips.full = false ∧ s.stop.sense = false ∧ (s.eligible .charge = true ∨ s.eligible .discharge = true) := by
  simp only [State.mayStart, State.isCoordinator, Bool.and_eq_true, beq_iff_eq, Option.isNone_iff_eq_none, List.all_eq_true,
    ready_iff, Bool.not_eq_true', State.eligiblePaths, PathSet.isEmpty, Bool.and_eq_false_iff, Bool.not_eq_false']
  tauto

/-! ### Eligibility (R88, R103) -/

theorem packClosed_iff (s : State) (p : Path) : s.packClosed p = true ↔ PackClosed s p := by
  have hclosed (e : Entry) : Entry.closed p e = true ↔ e.beat.map (·.switchState p) = some .CLOSED := by
    unfold Entry.closed
    cases p <;> cases e.beat <;> simp [BeatValues.switchState]
  simp only [State.packClosed, Bool.and_eq_true, beq_iff_eq, List.all_eq_true, hclosed]

theorem blocked_iff (s : State) (p : Path) :
    s.blocked p = true ↔ ∃ r ∈ s.trips.records, r.phase = .ACTIVE ∧ r.paths.has p = true := by
  simp [State.blocked, blockedBy, Record.blocks]

theorem clearedCurrent_iff (l : List Record) (p : Path) : clearedCurrent l p = true ↔
    ∃ r ∈ l, r.phase = .CLEARED ∧ r.kind.currentClass = true ∧ r.paths.has p = true := by
  simp [clearedCurrent, and_assoc]

theorem latched_iff (s : State) : s.latched = true ↔ s.cfg.latchLimit ≠ 0 ∧ s.budget.count = s.cfg.latchLimit := by
  simp [State.latched]

theorem mem_watchKinds (k : Kind) : k ∈ watchKinds ↔ k.code ≤ 10 := by
  cases k <;> decide

theorem watched_iff (s : State) (p : Path) : s.watched p = true ↔
    ∃ k : Kind, k.code ≤ 10 ∧ (kindPaths k).has p = true ∧
      ((s.conds.get (ownCond k)).state = .WATCH ∨
        ∃ e ∈ s.roster, (e.beat.map fun b => b.watch.getLsbD (k.code - 1)) = some true) := by
  have hpaths (k : Kind) (hk : k ∈ watchKinds) : k.fixedPaths = some (kindPaths k) :=
    Kind.fixedPaths_eq k fun h => absurd ((mem_watchKinds k).1 hk) (by rw [h]; decide)
  have hreport (k : Kind) (e : Entry) : (match e.beat with | some b => watchHas b.watch k | none => false) = true ↔
      (e.beat.map fun b => b.watch.getLsbD (k.code - 1)) = some true := by
    cases e.beat <;> simp [watchHas]
  unfold State.watched
  rw [List.any_eq_true]
  refine exists_congr fun k => ?_
  rw [← mem_watchKinds]
  refine and_congr_right fun hk => ?_
  rw [hpaths k hk, Bool.and_eq_true, Bool.or_eq_true, List.any_eq_true]
  refine and_congr_right fun _ => or_congr beq_iff_eq (exists_congr fun e => and_congr_right fun _ => hreport k e)

theorem isExpired_iff (t : LatchTimer) : t.isExpired = true ↔ t = .expired := by
  cases t <;> simp [LatchTimer.isExpired]

theorem eligible_iff (s : State) (p : Path) : s.eligible p = true ↔
    ¬ PackClosed s p ∧
    (∀ r ∈ s.trips.records, ¬ (r.phase = .ACTIVE ∧ r.paths.has p = true)) ∧
    (∀ k : Kind, k.code ≤ 10 → (kindPaths k).has p = true →
      (s.conds.get (ownCond k)).state ≠ .WATCH ∧
      ∀ e ∈ s.roster, (e.beat.map fun b => b.watch.getLsbD (k.code - 1)) ≠ some true) ∧
    s.reclose.holdOff p = .expired ∧
    (s.cfg.latchLimit = 0 ∨ s.budget.count ≠ s.cfg.latchLimit ∨
      ∀ r ∈ s.trips.records, ¬ (r.phase = .CLEARED ∧ r.kind.currentClass = true ∧ r.paths.has p = true)) := by
  have hnot {b : Bool} {P : Prop} (h : b = true ↔ P) : (!b) = true ↔ ¬ P := by
    rw [Bool.not_eq_true', ← Bool.not_eq_true, h]
  simp only [State.eligible, Bool.and_eq_true, Bool.or_eq_true, hnot (packClosed_iff s p), hnot (blocked_iff s p),
    hnot (watched_iff s p), isExpired_iff, hnot (latched_iff s), hnot (clearedCurrent_iff s.trips.records p), and_assoc]
  refine and_congr_right fun _ => and_congr (by push Not; rfl) (and_congr (by push Not; rfl) (and_congr_right fun _ => ?_))
  push Not
  tauto

/-! ### The coordinator (R87) -/

theorem lowestRank_eq_none (l : List Nat) : lowestRank l = none ↔ l = [] := by
  cases l with
  | nil => simp [lowestRank]
  | cons x xs =>
      unfold lowestRank
      split <;> simp

theorem lowestRank_iff (l : List Nat) (r : Nat) : lowestRank l = some r ↔ r ∈ l ∧ ∀ q ∈ l, r ≤ q := by
  induction l generalizing r with
  | nil => simp [lowestRank]
  | cons x xs ih =>
      unfold lowestRank
      split <;> rename_i hm
      · rw [lowestRank_eq_none] at hm
        subst hm
        simp only [Option.some.injEq, List.mem_singleton, forall_eq]
        exact ⟨fun h => ⟨h.symm, h.ge⟩, fun h => h.1.symm⟩
      · rename_i m
        obtain ⟨hmem, hleast⟩ := (ih m).1 hm
        simp only [Option.some.injEq, List.mem_cons, forall_eq_or_imp]
        constructor
        · rintro rfl
          refine ⟨?_, Nat.min_le_left _ _, fun q hq => (Nat.min_le_right _ _).trans (hleast q hq)⟩
          rcases Nat.le_total x m with h | h
          · exact .inl (Nat.min_eq_left h)
          · rw [Nat.min_eq_right h]
            exact .inr hmem
        · rintro ⟨rfl | hr, hx, hall⟩
          · exact Nat.min_eq_left (hall m hmem)
          · obtain rfl : r = m := Nat.le_antisymm (hall m hmem) (hleast r hr)
            exact Nat.min_eq_right hx

theorem mem_candidates (s : State) (r : Nat) : r ∈ s.candidates ↔ Candidate s r := by
  have hcandidate (e : Entry) : e.candidate = true ↔ e.status = .PRESENT ∧ e.beat.map (·.phase) = some .OPERATING := by
    unfold Entry.candidate
    cases e.beat <;> simp
  have hown : r ∈ (if s.phase == .OPERATING then [s.rank] else []) ↔ s.phase = .OPERATING ∧ r = s.rank := by
    split <;> rename_i h <;> simp at h <;> simp [h]
  unfold State.candidates Candidate
  rw [List.mem_append, hown]
  simp only [List.mem_map, List.mem_filter, hcandidate]
  refine or_congr_right (exists_congr fun e => ?_)
  tauto

theorem coordinator_iff (s : State) (r : Nat) : s.coordinator = some r ↔ Candidate s r ∧ ∀ q, Candidate s q → r ≤ q := by
  unfold State.coordinator
  simp only [lowestRank_iff, mem_candidates]

/-! ### The retirement set (R7, R104) -/

theorem retirementRecords_eq (l : List Record) (ps : PathSet) : retirementRecords l ps = l.filter fun r =>
    r.phase = .CLEARED ∧ (r.paths.charge = true → ps.charge = true) ∧ (r.paths.discharge = true → ps.discharge = true) := by
  have himp (a b : Bool) : (!a || b) = true ↔ (a = true → b = true) := by cases a <;> simp
  unfold retirementRecords
  refine List.filter_congr fun r _ => ?_
  rw [Bool.eq_iff_iff]
  simp [PathSet.within, himp]

theorem retirementCrc_register (ks : List RetireKey) : retirementCrc ks = crcRegister 7#8 0#8 (fun b => b)
    (ks.flatMap fun k => oneByte k.origin ++ oneByte k.kind.code ++ oneByte (k.subject.getD 0) ++ oneByte k.tripId) :=
  crc8_register _

/-! ### The round that starts (R105) -/

theorem startTest_starts (u : State) (h : u.mayStart = true) :
    (startTest u).reclose.round = some (newRound u.eligiblePaths u) ∧
      (startTest u).link.rounds = (if u.link.rounds.length < 2 then u.link.rounds else u.link.rounds.tail) ++
        [{ dst := 0, collisions := 0, content := (newRound u.eligiblePaths u).proposal }] := by
  have hrounds := Link.queueRound_rounds u.link 0 (newRound u.eligiblePaths u).proposal
  rw [List.drop_one] at hrounds
  unfold startTest
  rw [if_pos h]
  exact ⟨rfl, hrounds⟩

theorem startTest_of_not (u : State) (h : ¬ u.mayStart = true) : startTest u = u := if_neg h

/-- Settles O17: the expiry makes the start test on the hold-off elapsed; its conditions, the eligible paths, the coordinator and the
retirement set are each the rules' own. -/
theorem roundStarts : Obligations.RoundStarts := by
  refine ⟨fun p s hw hrun => ?_, fun p s => eligible_iff s p, fun r s => coordinator_iff s r, fun l ps => ?_⟩
  · obtain ⟨q, hq⟩ := settle_elapsed s p hrun
    refine ⟨_, exec_holdOffExpiry p s hw hrun, ?_⟩
    have hmay := mayStart_iff ((s.elapsed p).withBudget { s.budget with quiet := q })
    rw [hq]
    cases p
    all_goals
      refine ⟨fun h => startTest_starts _ (hmay.2 h), fun h => ?_⟩
      rw [startTest_of_not _ (mt hmay.1 h)]
      exact ⟨rfl, rfl⟩
  · refine ⟨?_, sortKeys_sorted _, retirementCrc_register _⟩
    unfold retirementSet
    rw [retirementRecords_eq]
    exact sortKeys_perm _

end Sys2Proof.Machine
end

section
/-!
SUPPORT. How a round ends other than by completion (R100, R117 to R120): the closed set opens and the hold-offs restart, and the closing
checks keep that so; the window's expiry.
-/
namespace Sys2Proof.Machine

/-! ### What the closing checks keep -/

theorem settle_roundsAbandoned (b s : State) :
    (settle b s).link.counters.roundsAbandoned = s.link.counters.roundsAbandoned := by
  rw [(settle_endsAs b s).1]

theorem settle_roundsLapsed (b s : State) : (settle b s).link.counters.roundsLapsed = s.link.counters.roundsLapsed := by
  rw [(settle_endsAs b s).1]

/-- From IDLE the station is in IDLE, or in a round it has just started. -/
theorem settle_idle (b s : State) (h : s.reclose.round = none) : (settle b s).reclose.round = none ∨
    ∃ r, (settle b s).reclose.round = some r ∧ r.stage = .COLLECTING ∧ r.coordinator = s.rank := by
  rcases settle_round b s with ⟨e, _⟩ | ⟨_, r, hr, hstage, hrank, _⟩
  · exact .inl (e.trans h)
  · exact .inr ⟨r, hr, hstage, hrank⟩

/-- A hold-off that has just restarted stands at its full time. -/
theorem settle_hold_running (b s : State) (p : Path) (h : s.reclose.holdOff p = .running s.cfg.holdOffTime) :
    (settle b s).reclose.holdOff p = .running s.cfg.holdOffTime := by
  rcases (settle_endsAs b s).2.1 p with e | e
  · exact e.trans h
  · exact e

/-- The last frame of the round slot is still in it. -/
theorem settle_keeps_last (b s : State) {pre : List TxFrame} {f : TxFrame} (h : s.link.rounds = pre ++ [f]) :
    f ∈ (settle b s).link.rounds := by
  rcases settle_round b s with ⟨_, e⟩ | ⟨_, r, _, _, _, _, e⟩
  · rw [e, h]
    simp
  · rw [e]
    exact s.link.last_mem_queueRound f 0 r.proposal h

/-- In a round the closing checks leave round and link. -/
theorem settle_in_round (b s : State) (r : Round) (h : s.reclose.round = some r) :
    (settle b s).reclose.round = some r ∧ (settle b s).link = s.link := by
  rcases settle_round b s with ⟨e, hl⟩ | ⟨e, _⟩
  · exact ⟨e.trans h, hl⟩
  · exact absurd (e.symm.trans h) (by simp)

/-! ### The end of a round -/

/-- The round `r` has ended other than by completion: the closed set is open, the hold-off of the round's paths has restarted, and
neither list nor last round has changed (R100, R116 to R120). -/
structure Ended (r : Round) (s u : State) : Prop where
  round : u.reclose.round = none
  switch : ∀ p, u.switch p = if r.closedSet.has p then (s.switch p).openCommand else s.switch p
  hold : ∀ p, r.paths.has p = true → u.reclose.holdOff p = .running s.cfg.holdOffTime
  lastRound : u.reclose.lastRound = s.reclose.lastRound
  lastCloser : u.reclose.lastCloser = s.reclose.lastCloser
  trips : u.trips = s.trips
  cfg : u.cfg = s.cfg
  rank : u.rank = s.rank

theorem endRound_lastRound (r : Round) (s : State) : (endRound r s).reclose.lastRound = s.reclose.lastRound :=
  (forPaths_keeps (·.reclose.lastRound) r.paths startHoldOff (fun p _ => by cases p <;> rfl) _).trans
    (congrArg Reclose.lastRound (openClosedSet_same r s).1)

theorem endRound_ended (r : Round) (s : State) : Ended r s (endRound r s) := by
  have hreach := (endRound_reach r s).list.cond
  refine ⟨rfl, endRound_switch r s, endRound_hold r s, endRound_lastRound r s, endRound_lastCloser r s, endRound_trips r s, ?_,
    hreach.rank⟩
  rw [hreach]

/-- The end of a round is seen from any state that differs in link and left round alone. -/
theorem Ended.of_start {r : Round} {s s' u : State} (h : Ended r s' u) (hswitch : ∀ p, s'.switch p = s.switch p)
    (hlastRound : s'.reclose.lastRound = s.reclose.lastRound) (hlastCloser : s'.reclose.lastCloser = s.reclose.lastCloser)
    (htrips : s'.trips = s.trips) (hcfg : s'.cfg = s.cfg) (hrank : s'.rank = s.rank) : Ended r s u :=
  ⟨h.round, fun p => by rw [h.switch, hswitch], fun p hp => by rw [h.hold p hp, hcfg], h.lastRound.trans hlastRound,
    h.lastCloser.trans hlastCloser, h.trips.trans htrips, h.cfg.trans hcfg, h.rank.trans hrank⟩

/-- Counting the end changes the counter alone. -/
theorem Ended.counted {r : Round} {s u : State} (h : Ended r s u) (g : Counters → Counters) : Ended r s (u.count g) :=
  ⟨h.round, fun p => (by cases p <;> rfl : (u.count g).switch p = u.switch p).trans (h.switch p), h.hold, h.lastRound,
    h.lastCloser, h.trips, h.cfg, h.rank⟩

theorem dropRound_ended (r : Round) (s : State) : Ended r s (dropRound r s) := (endRound_ended r s).counted _

theorem abandonRound_ended (r : Round) (s : State) : Ended r s (abandonRound r s) :=
  ((endRound_ended r (sendRound (.abandon (byteOf r.number)) s)).of_start (sendRound_switch _ s) rfl rfl rfl rfl rfl).counted _

theorem rememberLeft_eq (r : Round) (s : State) : rememberLeft r s = s.withReclose { s.reclose with
    leftRound := if r.stage = .ANSWERED then some (r.number, r.coordinator) else s.reclose.leftRound } := by
  unfold rememberLeft
  split <;> rfl

theorem lapseRound_ended (r : Round) (s : State) : Ended r s (lapseRound r s) := by
  refine ((endRound_ended r (rememberLeft r s)).of_start (rememberLeft_switch r s) ?_ ?_ ?_ ?_ ?_).counted _
  all_goals
    rw [rememberLeft_eq]
    rfl

/-- After the closing checks the ended round's paths stand as it left them, and the station is in no round but a new one. -/
theorem Ended.settled {r : Round} {s u : State} (h : Ended r s u) (b : State) :
    (∀ p, r.closedSet.has p = true → ((settle b u).switch p).isOff) ∧
    (∀ p, r.closedSet.has p = false → (settle b u).switch p = s.switch p) ∧
    (∀ p, r.paths.has p = true → (settle b u).reclose.holdOff p = .running s.cfg.holdOffTime) ∧
    ((settle b u).reclose.round = none ∨
      ∃ r', (settle b u).reclose.round = some r' ∧ r'.stage = .COLLECTING ∧ r'.coordinator = s.rank) := by
  refine ⟨fun p hp => ?_, fun p hp => ?_, fun p hp => ?_, h.rank ▸ settle_idle b u h.round⟩
  · rw [settle_switch, h.switch, if_pos hp]
    exact Switch.openCommand_isOff _
  · rw [settle_switch, h.switch, if_neg (by simp [hp])]
  · rw [← h.cfg]
    exact settle_hold_running b u p (h.cfg ▸ h.hold p hp)

/-! ### Counters, left round and ABANDON of each end -/

theorem dropRound_link (r : Round) (s : State) :
    (dropRound r s).link = { s.link with counters := s.link.counters.abandoned } := by
  have h := congrArg (fun l : Link => { l with counters := l.counters.abandoned }) (endRound_link r s)
  exact h

theorem dropRound_leftRound (r : Round) (s : State) : (dropRound r s).reclose.leftRound = s.reclose.leftRound :=
  endRound_leftRound r s

theorem abandonRound_link (r : Round) (s : State) : (abandonRound r s).link =
    { s.link.queueRound 0 (.abandon (byteOf r.number)) with
      counters := (s.link.queueRound 0 (.abandon (byteOf r.number))).counters.abandoned } :=
  dropRound_link r (sendRound (.abandon (byteOf r.number)) s)

theorem abandonRound_leftRound (r : Round) (s : State) : (abandonRound r s).reclose.leftRound = s.reclose.leftRound :=
  endRound_leftRound r (sendRound (.abandon (byteOf r.number)) s)

theorem Link.queueRound_counters (l : Link) (dst : Byte) (c : Content) :
    (l.queueRound dst c).counters.roundsAbandoned = l.counters.roundsAbandoned ∧
      (l.queueRound dst c).counters.roundsLapsed = l.counters.roundsLapsed := by
  rw [Link.queueRound_frame]
  exact ⟨rfl, rfl⟩

theorem abandonRound_counters (r : Round) (s : State) :
    (abandonRound r s).link.counters.roundsAbandoned = min (s.link.counters.roundsAbandoned + 1) 65535 ∧
      (abandonRound r s).link.counters.roundsLapsed = s.link.counters.roundsLapsed := by
  obtain ⟨habandoned, hlapsed⟩ := s.link.queueRound_counters 0 (.abandon (byteOf r.number))
  rw [abandonRound_link]
  exact ⟨congrArg (fun n => min (n + 1) 65535) habandoned, hlapsed⟩

/-- The ABANDON is the slot's last frame. -/
theorem abandonRound_last (r : Round) (s : State) : ∃ pre,
    (abandonRound r s).link.rounds = pre ++ [TxFrame.new 0 (.abandon (byteOf r.number))] := by
  rw [abandonRound_link]
  exact ⟨_, Link.queueRound_rounds ..⟩

theorem lapseRound_link (r : Round) (s : State) :
    (lapseRound r s).link = { s.link with counters := s.link.counters.lapsed } := by
  have h := congrArg (fun l : Link => { l with counters := l.counters.lapsed }) (endRound_link r (rememberLeft r s))
  rw [rememberLeft_eq] at h
  unfold lapseRound
  rw [rememberLeft_eq]
  exact h

theorem lapseRound_leftRound (r : Round) (s : State) : (lapseRound r s).reclose.leftRound =
    if r.stage = .ANSWERED then some (r.number, r.coordinator) else s.reclose.leftRound := by
  have h := endRound_leftRound r (rememberLeft r s)
  rw [rememberLeft_eq] at h
  unfold lapseRound
  rw [rememberLeft_eq]
  exact h

/-! ### The window's expiry (R119) -/

theorem exec_windowTimerExpiry (s : State) (hw : s.working = true) :
    exec .windowTimerExpiry s = .next (settle s (windowExpired s)) := by
  unfold exec execWindowTimerExpiry
  simp only [hw, if_true]

theorem windowExpired_eq (s : State) (r : Round) (hr : s.reclose.round = some r) (hrun : r.window.isRunning = true) :
    windowExpired s = match r.stage with
      | .COLLECTING => abandonRound r s
      | .GATHERING => abandonRound r s
      | .ANSWERED => lapseRound r s
      | .CLOSED_WAIT => lapseRound r s
      | .CLOSING => s
      | .FINISHING => s := by
  have hround : s.round = some r := hr
  cases hstage : r.stage <;>
    simp only [windowExpired, hround, hrun, hstage, Bool.not_true, Bool.false_eq_true, if_false]

/-- A round abandoned at its window, with the closing checks (R119, R120). -/
theorem abandonRound_settled (r : Round) (b s : State) :
    (settle b (abandonRound r s)).link.counters.roundsAbandoned = min (s.link.counters.roundsAbandoned + 1) 65535 ∧
    (settle b (abandonRound r s)).link.counters.roundsLapsed = s.link.counters.roundsLapsed ∧
    (∃ f ∈ (settle b (abandonRound r s)).link.rounds, f.dst = 0 ∧ f.content = .abandon (byteOf r.number)) ∧
    (settle b (abandonRound r s)).reclose.leftRound = s.reclose.leftRound := by
  obtain ⟨habandoned, hlapsed⟩ := abandonRound_counters r s
  obtain ⟨pre, hlast⟩ := abandonRound_last r s
  rw [settle_roundsAbandoned, settle_roundsLapsed, settle_reclose_leftRound]
  exact ⟨habandoned, hlapsed, ⟨_, settle_keeps_last b _ hlast, rfl, rfl⟩, abandonRound_leftRound r s⟩

/-- A round that lapses at its window, with the closing checks (R118 to R120). -/
theorem lapseRound_settled (r : Round) (b s : State) :
    (settle b (lapseRound r s)).link.counters.roundsLapsed = min (s.link.counters.roundsLapsed + 1) 65535 ∧
    (settle b (lapseRound r s)).link.counters.roundsAbandoned = s.link.counters.roundsAbandoned ∧
    (settle b (lapseRound r s)).reclose.leftRound =
      if r.stage = .ANSWERED then some (r.number, r.coordinator) else s.reclose.leftRound := by
  rw [settle_roundsAbandoned, settle_roundsLapsed, settle_reclose_leftRound, lapseRound_leftRound, lapseRound_link]
  exact ⟨rfl, rfl, rfl⟩

/-- Settles O18: the window ends the round by its stage, and the closing checks keep the closed set open and the hold-offs at their full
time. -/
theorem windowExpiryEndsRound : Obligations.WindowExpiryEndsRound := by
  intro r s hw hr hrun
  have hreach := windowExpired_reach s
  have heq := windowExpired_eq s r hr hrun
  have hrest (u : State) (hu : windowExpired s = u) (hlast : u.reclose.lastRound = s.reclose.lastRound)
      (hcloser : u.reclose.lastCloser = s.reclose.lastCloser) :
      (settle s u).trips = s.trips ∧ (settle s u).conds = s.conds ∧ (settle s u).roster = s.roster ∧
        (settle s u).phase = s.phase ∧ (settle s u).reclose.lastRound = s.reclose.lastRound ∧
        (settle s u).reclose.lastCloser = s.reclose.lastCloser := by
    subst hu
    simp only [settle_trips, settle_conds, settle_roster, settle_phase, settle_reclose_lastRound, settle_reclose_lastCloser]
    refine ⟨windowExpired_trips s, ?_, ?_, ?_, hlast, hcloser⟩ <;> rw [hreach]
  refine ⟨_, exec_windowTimerExpiry s hw, ?_⟩
  cases hstage : r.stage <;> simp only [hstage] at heq <;> rw [heq]
  case COLLECTING | GATHERING =>
    have hended := abandonRound_ended r s
    exact ⟨fun _ => abandonRound_settled r s s, by simp, by simp, by simp, fun _ _ => hended.settled s,
      hrest _ heq hended.lastRound hended.lastCloser⟩
  case ANSWERED =>
    have hended := lapseRound_ended r s
    obtain ⟨hlapsed, habandoned, hleft⟩ := lapseRound_settled r s s
    rw [if_pos hstage] at hleft
    exact ⟨by simp, fun _ => ⟨hlapsed, habandoned⟩, fun _ => hleft, by simp, fun _ _ => hended.settled s,
      hrest _ heq hended.lastRound hended.lastCloser⟩
  case CLOSED_WAIT =>
    have hended := lapseRound_ended r s
    obtain ⟨hlapsed, habandoned, hleft⟩ := lapseRound_settled r s s
    rw [if_neg (by rw [hstage]; decide)] at hleft
    exact ⟨by simp, fun _ => ⟨hlapsed, habandoned⟩, by simp, fun _ => hleft, fun _ _ => hended.settled s,
      hrest _ heq hended.lastRound hended.lastCloser⟩
  case CLOSING | FINISHING =>
    exact ⟨by simp, by simp, by simp, by simp, by simp, hrest s heq rfl rfl⟩

end Sys2Proof.Machine
end

section
/-!
SUPPORT. A round frame of a PRESENT member (R80, R99, R106, R163): the reclose controller takes it beside the member's silence timer, in
either order, and the proofs for ABANDON and COMPLETE (R115, R117, R120).
-/
namespace Sys2Proof.Machine

/-! ### Beside the silence timer -/

/-- A roster is the station's but for silence timers and the status of entries heard: ranks and beats are the same. -/
structure State.HasRoster (s : State) (l : List Entry) : Prop where
  ranks : l.map (·.rank) = s.members
  beats : l.map (·.beat) = s.roster.map (·.beat)

theorem State.hasRoster_self (s : State) : s.HasRoster s.roster := ⟨rfl, rfl⟩

theorem State.hasRoster_heard (s : State) (r t : Nat) : s.HasRoster (updateEntry r (Entry.heard t) s.roster) := by
  refine ⟨updateEntry_ranks r (Entry.heard t) (fun _ => rfl) s.roster, ?_⟩
  rw [updateEntry_eq, List.map_map]
  refine List.map_congr_left fun e _ => ?_
  simp only [Function.comp_apply]
  split <;> rfl

theorem State.HasRoster.packClosed {s : State} {l : List Entry} (h : s.HasRoster l) (u : State)
    (hswitch : ∀ p, u.switch p = s.switch p) (hroster : u.roster = l) (p : Path) : u.packClosed p = s.packClosed p := by
  have hbeat (l : List Entry) : l.all (Entry.closed p) =
      (l.map (·.beat)).all fun b => Entry.closed p ⟨0, .PRESENT, b, 0, 0, .stopped⟩ := by
    rw [List.all_map]
    rfl
  unfold State.packClosed
  rw [hswitch, hroster, hbeat, hbeat s.roster, h.beats]

theorem beside_switch (u : State) (l : List Entry) (n : Nat) (p : Path) :
    ((u.withRoster l).withFreeCount n).switch p = u.switch p := by
  cases p <;> rfl

theorem heard_switch (s : State) (l : List Entry) (p : Path) : (s.heard.withRoster l).switch p = s.switch p := by
  cases p <;> rfl

/-- No path's pack level shows which silence timer has restarted (R88). -/
theorem State.HasRoster.packClosed_beside {s : State} {l : List Entry} (h : s.HasRoster l) (u : State)
    (hswitch : ∀ p, u.switch p = s.switch p) (n : Nat) (p : Path) :
    ((u.withRoster l).withFreeCount n).packClosed p = s.heard.packClosed p :=
  (h.packClosed _ (fun q => (beside_switch u l n q).trans (hswitch q)) rfl p).trans (by cases p <;> rfl)

theorem isRosterRank_iff (s : State) (r : Nat) : s.isRosterRank r = true ↔ r ∈ s.members := by
  simp [State.isRosterRank, State.entry, State.members]

theorem Content.beat?_of_movesRound (c : Content) (h : c.movesRound = true) : c.beat? = none := by
  cases c <;> simp [Content.movesRound] at h <;> rfl

/-- A round frame of a PRESENT member: the reclose controller takes it before or after the member's silence timer restarts. -/
theorem roundFrame_taken (f : RxFrame) (e : Entry) (s : State) (hmoves : f.content.movesRound = true)
    (hown : f.src.toNat ≠ s.rank) (he : s.entry f.src.toNat = some e) (hpresent : e.status = .PRESENT) :
    ∃ before after n, s.HasRoster before ∧ s.HasRoster after ∧
      inAnyOrder (takers f) s = ((recloseTakes f (s.withRoster before)).withRoster after).withFreeCount n := by
  have hbeat := f.content.beat?_of_movesRound hmoves
  have hheard := s.hasRoster_heard f.src.toNat s.cfg.silenceTime
  obtain ⟨n, h | h⟩ := roundFrame_orders hmoves s
  · refine ⟨_, _, n, hheard, hheard, ?_⟩
    rw [h, membershipTakes_present f e s hown he hpresent hbeat]
    have hroster := (recloseTakes_reach f
      (s.withRoster (updateEntry f.src.toNat (Entry.heard s.cfg.silenceTime) s.roster))).list.cond.roster
    exact congrArg (fun l => State.withFreeCount (State.withRoster _ l) n) hroster
  · refine ⟨_, _, n, s.hasRoster_self, hheard, ?_⟩
    have hreach := recloseTakes_reach f s
    have hroster := hreach.list.cond.roster
    have hcfg : (recloseTakes f s).cfg = s.cfg := by rw [hreach]
    have hentry : (recloseTakes f s).entry f.src.toNat = some e := by
      unfold State.entry
      rw [hroster]
      exact he
    rw [h, membershipTakes_present f e _ (by rwa [hreach.list.cond.rank]) hentry hpresent hbeat, hroster, hcfg]
    rfl

/-- The frame's row at a station at work that listens (R161 to R163). -/
theorem roundFrame_exec {src : Byte} {c : Instr} {f : RxFrame} {e : Entry} {s : State} (hc : BringsFrame src c f)
    (hmoves : f.content.movesRound = true) (hsrc : rankByteOk src = true) (hw : s.working = true)
    (hlisten : s.link.discarding = false) (hown : src.toNat ≠ s.rank) (he : s.entry src.toNat = some e)
    (hpresent : e.status = .PRESENT) :
    ∃ before after n, s.HasRoster before ∧ s.HasRoster after ∧
      exec c s = .next (settle s.heard
        (((recloseTakes f (s.heard.withRoster before)).withRoster after).withFreeCount n)) := by
  obtain rfl := hc.source
  obtain ⟨before, after, n, hb, ha, h⟩ := roundFrame_taken f e s.heard hmoves hown he hpresent
  exact ⟨before, after, n, ⟨hb.ranks, hb.beats⟩, ⟨ha.ranks, ha.beats⟩, by rw [hc.taken hsrc hw hlisten, h]⟩

/-- A member's rank is a roster rank, whichever silence timer has restarted. -/
theorem State.HasRoster.isRosterRank {s : State} {l : List Entry} (h : s.HasRoster l) {r : Nat} {e : Entry}
    (he : s.entry r = some e) : (s.heard.withRoster l).isRosterRank r = true := by
  have hs : s.isRosterRank r = true := by simp [State.isRosterRank, he]
  have hmembers : (s.heard.withRoster l).members = s.members := h.ranks
  rwa [isRosterRank_iff, hmembers, ← isRosterRank_iff]

theorem State.HasRoster.coversRoster {s : State} {l : List Entry} (h : s.HasRoster l) (held : List Nat) :
    (s.heard.withRoster l).coversRoster held = s.coversRoster held := by
  rw [coversRoster_eq, coversRoster_eq]
  exact congrArg (List.all · held.contains) h.ranks

/-! ### What a frame taken changes nothing of (R163) -/

section heard
variable (s : State)
@[simp] theorem State.heard_reclose : s.heard.reclose = s.reclose := State.withLink_reclose s _
@[simp] theorem State.heard_charge : s.heard.charge = s.charge := State.withLink_charge s _
@[simp] theorem State.heard_discharge : s.heard.discharge = s.discharge := State.withLink_discharge s _
@[simp] theorem State.heard_trips : s.heard.trips = s.trips := State.withLink_trips s _
@[simp] theorem State.heard_conds : s.heard.conds = s.conds := State.withLink_conds s _
@[simp] theorem State.heard_stop : s.heard.stop = s.stop := State.withLink_stop s _
@[simp] theorem State.heard_phase : s.heard.phase = s.phase := State.withLink_phase s _
end heard

/-! ### ABANDON (R117) -/

theorem Ended.beside {r : Round} {s u : State} (h : Ended r s u) (l : List Entry) (n : Nat) :
    Ended r s ((u.withRoster l).withFreeCount n) :=
  ⟨h.round, fun p => (beside_switch u l n p).trans (h.switch p), h.hold,
    h.lastRound, h.lastCloser, h.trips, h.cfg, h.rank⟩

/-- A round dropped at a frame, with the closing checks (R117, R120). -/
theorem dropRound_settled (r : Round) (b s : State) (before after : List Entry) (n : Nat) :
    let t := settle b (((dropRound r (s.heard.withRoster before)).withRoster after).withFreeCount n)
    (∀ p, r.closedSet.has p = true → (t.switch p).isOff) ∧
    (∀ p, r.closedSet.has p = false → t.switch p = s.switch p) ∧
    (∀ p, r.paths.has p = true → t.reclose.holdOff p = .running s.cfg.holdOffTime) ∧
    t.link.counters.roundsAbandoned = min (s.link.counters.roundsAbandoned + 1) 65535 ∧
    t.reclose.leftRound = s.reclose.leftRound ∧ t.reclose.lastRound = s.reclose.lastRound ∧
    (t.reclose.round = none ∨
      ∃ r', t.reclose.round = some r' ∧ r'.stage = .COLLECTING ∧ r'.coordinator = s.rank) ∧
    t.trips = s.trips ∧ t.conds = s.conds ∧ t.stop = s.stop ∧ t.phase = s.phase := by
  intro t
  have hreach := dropRound_reach r (s.heard.withRoster before)
  have hended : Ended r s ((((dropRound r (s.heard.withRoster before)).withRoster after).withFreeCount n)) :=
    ((dropRound_ended r (s.heard.withRoster before)).of_start (s := s) (heard_switch s before) rfl rfl rfl rfl rfl).beside after n
  have hlink := dropRound_link r (s.heard.withRoster before)
  obtain ⟨hoff, hother, hhold, hround⟩ := hended.settled b
  refine ⟨hoff, hother, hhold, ?_, ?_, ?_, hround, ?_, ?_, ?_, ?_⟩
  · rw [settle_roundsAbandoned, State.withFreeCount_link, State.withRoster_link, hlink]
    rfl
  · rw [settle_reclose_leftRound]
    exact dropRound_leftRound r (s.heard.withRoster before)
  · rw [settle_reclose_lastRound, hended.lastRound]
  · rw [settle_trips, hended.trips]
  · rw [settle_conds, State.withFreeCount_conds, State.withRoster_conds, hreach]
    rfl
  · rw [settle_stop, State.withFreeCount_stop, State.withRoster_stop, hreach]
    rfl
  · rw [settle_phase, State.withFreeCount_phase, State.withRoster_phase, hreach]
    rfl

/-- The frames that go on with a round, as their rows bring them. -/
theorem toAll_brings {src : Byte} {c : Instr} {x : Content} (hexec : ∀ s, exec c s = .next (receive (toAll src x) s))
    (hdst : x.dstOk 0 = true) (hbody : x.bodyOk = true) : BringsFrame src c (toAll src x) :=
  ⟨rfl, hexec, fun hsrc => RxFrame.valid_of hsrc hdst hbody⟩

/-- Settles O42: the ABANDON drops the round before or after the member's silence timer restarts, and the closing checks keep what that
leaves. -/
theorem abandonEndsRound : Obligations.AbandonEndsRound := by
  intro src round s e r hw hlisten hsrc hown he hpresent hr hnumber
  have hbrings : BringsFrame src (.abandon src round) (toAll src (.abandon round)) := toAll_brings (fun _ => rfl) rfl rfl
  obtain ⟨before, after, n, hbefore, -, hexec⟩ := roundFrame_exec hbrings rfl hsrc hw hlisten hown he hpresent
  have htakes : recloseTakes (toAll src (.abandon round)) (s.heard.withRoster before) =
      dropRound r (s.heard.withRoster before) := by
    have hround : (s.heard.withRoster before).round = some r := hr
    unfold recloseTakes
    simp only [toAll, hbefore.isRosterRank he, takeAbandon, hround, hnumber]
    simp
  refine ⟨_, hexec, ?_⟩
  rw [htakes]
  exact dropRound_settled r s.heard s before after n

/-! ### COMPLETE (R115) -/

/-- In a round, and with the pack level as before, the closing checks leave the reclose controller and the link. -/
theorem settle_keeps_reclose (b u : State) (r : Round) (hr : u.reclose.round = some r)
    (hpack : ∀ p, u.packClosed p = b.packClosed p) : (settle b u).reclose = u.reclose ∧ (settle b u).link = u.link := by
  have hmay (q : Timer) : ¬ (u.withBudget { u.budget with quiet := q }).mayStart = true := fun h =>
    absurd ((mayStart_idle _ h).symm.trans hr) (by simp)
  obtain ⟨q, hq⟩ := quietRetest_eq u
  rw [settle_of_packSame b u hpack]
  split
  · exact ⟨rfl, rfl⟩
  · rw [hq, startTest_of_not _ (hmay q)]
    exact ⟨rfl, rfl⟩

/-- A frame that the reclose controller passes over leaves the round and its timers. -/
theorem unmoved_settled (r : Round) (s : State) (hr : s.reclose.round = some r) (before after : List Entry)
    (hafter : s.HasRoster after) (n : Nat) :
    (settle s.heard (((s.heard.withRoster before).withRoster after).withFreeCount n)).reclose = s.reclose := by
  have hround : (((s.heard.withRoster before).withRoster after).withFreeCount n).reclose.round = some r := by
    rwa [State.withFreeCount_reclose, State.withRoster_reclose, State.withRoster_reclose, State.heard_reclose]
  have hpack := hafter.packClosed_beside (s.heard.withRoster before) (heard_switch s before) n
  have hkeep := (settle_keeps_reclose s.heard _ r hround hpack).1
  rw [hkeep, State.withFreeCount_reclose, State.withRoster_reclose, State.withRoster_reclose, State.heard_reclose]

/-- What the closing checks leave of list, conditions, stop line and phase, whatever silence timer has restarted. -/
theorem beside_settled (b u : State) (after : List Entry) (n : Nat) :
    (settle b ((u.withRoster after).withFreeCount n)).trips = u.trips ∧
    (settle b ((u.withRoster after).withFreeCount n)).conds = u.conds ∧
    (settle b ((u.withRoster after).withFreeCount n)).stop = u.stop ∧
    (settle b ((u.withRoster after).withFreeCount n)).phase = u.phase ∧
    (settle b ((u.withRoster after).withFreeCount n)).charge = u.charge ∧
    (settle b ((u.withRoster after).withFreeCount n)).discharge = u.discharge := by
  simp

@[simp] theorem completeRound_charge (r : Round) (u : State) : (completeRound r u).charge = u.charge := rfl
@[simp] theorem completeRound_discharge (r : Round) (u : State) : (completeRound r u).discharge = u.discharge := rfl
@[simp] theorem completeRound_conds (r : Round) (u : State) : (completeRound r u).conds = u.conds := rfl
@[simp] theorem completeRound_stop (r : Round) (u : State) : (completeRound r u).stop = u.stop := rfl
@[simp] theorem completeRound_phase (r : Round) (u : State) : (completeRound r u).phase = u.phase := rfl

/-- A round completed at a frame, with the closing checks (R20, R115). -/
theorem completeRound_settled (r : Round) (b u : State) (after : List Entry) (n : Nat) :
    let t := settle b (((completeRound r u).withRoster after).withFreeCount n)
    t.trips.records = u.trips.records.filter (fun x => !r.retire.any fun k => k.retires x) ∧
    t.reclose.lastRound = r.number ∧ t.reclose.lastCloser = r.closer ∧
    t.link.counters.roundsAbandoned = u.link.counters.roundsAbandoned ∧
    (t.reclose.round = none ∨
      ∃ r', t.reclose.round = some r' ∧ r'.stage = .COLLECTING ∧ r'.coordinator = u.rank) := by
  intro t
  refine ⟨?_, ?_, ?_, settle_roundsAbandoned b _, settle_idle b _ rfl⟩
  · exact congrArg TripList.records (settle_trips b _)
  · exact settle_reclose_lastRound b _
  · exact settle_reclose_lastCloser b _

theorem takeComplete_eq (src : Nat) (round : Byte) (s : State) (r : Round) (hr : s.reclose.round = some r)
    (hnumber : round.toNat = r.number) (hcloser : r.closer = src) :
    takeComplete src round s = match r.stage with
      | .CLOSED_WAIT => completeRound r s
      | .ANSWERED => dropRound r s
      | .CLOSING => dropRound r s
      | .COLLECTING => s
      | .GATHERING => s
      | .FINISHING => s := by
  have hround : s.round = some r := hr
  unfold takeComplete
  simp only [hround, hnumber, hcloser, ne_eq, not_true, or_self, if_false]
  cases r.stage <;> simp

/-- Settles O41: the COMPLETE completes the round, drops it or passes it over by its stage, before or after the member's silence timer
restarts, and the closing checks keep what that leaves. -/
theorem completeRetires : Obligations.CompleteRetires := by
  intro src round s e r hw hlisten hsrc hown he hpresent hr hnumber hcloser
  have hbrings : BringsFrame src (.complete src round) (toAll src (.complete round)) := toAll_brings (fun _ => rfl) rfl rfl
  obtain ⟨before, after, n, hbefore, hafter, hexec⟩ := roundFrame_exec hbrings rfl hsrc hw hlisten hown he hpresent
  have htakes : recloseTakes (toAll src (.complete round)) (s.heard.withRoster before) =
      takeComplete src.toNat round (s.heard.withRoster before) := by
    unfold recloseTakes
    simp only [toAll, hbefore.isRosterRank he, Bool.not_true, Bool.false_eq_true, if_false]
  rw [htakes, takeComplete_eq src.toNat round (s.heard.withRoster before) r hr hnumber hcloser] at hexec
  cases hstage : r.stage <;> simp only [hstage] at hexec <;> refine ⟨_, hexec, ?_⟩
  case CLOSED_WAIT =>
    obtain ⟨hrecords, hlast, hlastCloser, hcount, hround⟩ :=
      completeRound_settled r s.heard (s.heard.withRoster before) after n
    obtain ⟨-, hconds, hstop, hphase, hcharge, hdischarge⟩ :=
      beside_settled s.heard (completeRound r (s.heard.withRoster before)) after n
    simp only [completeRound_charge, completeRound_discharge, completeRound_conds, completeRound_stop, completeRound_phase,
      State.withRoster_charge, State.withRoster_discharge, State.withRoster_conds, State.withRoster_stop, State.withRoster_phase,
      State.heard_charge, State.heard_discharge, State.heard_conds, State.heard_stop, State.heard_phase]
      at hconds hstop hphase hcharge hdischarge
    exact ⟨fun _ => ⟨hrecords, hlast, hlastCloser, hcharge, hdischarge, hcount⟩, by simp, fun _ => hround, by simp, hconds, hstop,
      hphase⟩
  case ANSWERED | CLOSING =>
    obtain ⟨hoff, -, -, hcount, hleft, hlast, hround, htrips, hconds, hstop, hphase⟩ :=
      dropRound_settled r s.heard s before after n
    exact ⟨by simp, fun _ => ⟨hcount, hoff, htrips, hlast, hleft⟩, fun _ => hround, by simp, hconds, hstop, hphase⟩
  case COLLECTING | GATHERING | FINISHING =>
    obtain ⟨-, hconds, hstop, hphase, -⟩ := beside_settled s.heard (s.heard.withRoster before) after n
    simp only [State.withRoster_conds, State.withRoster_stop, State.withRoster_phase, State.heard_conds, State.heard_stop,
      State.heard_phase] at hconds hstop hphase
    exact ⟨by simp, by simp, by simp, fun _ => unmoved_settled r s hr before after hafter n, hconds, hstop, hphase⟩

end Sys2Proof.Machine
end

section
/-!
SUPPORT. The frames that carry a round to its end (R110 to R114): ANSWER at the coordinator, PROCEED and the members' close commands,
CLOSED at the closer; and the proofs about ANSWER and CLOSED.
-/
namespace Sys2Proof.Machine

/-! ### The station's own view -/

/-- A state that differs from `s` in link, roster, round and free counter alone: the switches and their hold causes are those of `s`. -/
def SameSite (s u : State) : Prop :=
  u = { s with link := u.link, roster := u.roster, reclose := u.reclose, freeCount := u.freeCount }

namespace SameSite
variable {s u v : State}

theorem trans (h : SameSite s u) (g : SameSite u v) : SameSite s v := by
  unfold SameSite at g ⊢
  rw [g, show u = _ from h]

theorem switch (h : SameSite s u) (p : Path) : u.switch p = s.switch p := by
  rw [show u = _ from h]
  cases p <;> rfl

theorem held (h : SameSite s u) (p : Path) : u.held p = s.held p := by
  rw [show u = _ from h]
  cases p <;> rfl

theorem cfg (h : SameSite s u) : u.cfg = s.cfg := by rw [show u = _ from h]
theorem trips (h : SameSite s u) : u.trips = s.trips := by rw [show u = _ from h]
theorem conds (h : SameSite s u) : u.conds = s.conds := by rw [show u = _ from h]
theorem stop (h : SameSite s u) : u.stop = s.stop := by rw [show u = _ from h]
theorem phase (h : SameSite s u) : u.phase = s.phase := by rw [show u = _ from h]
theorem meas (h : SameSite s u) : u.meas = s.meas := by rw [show u = _ from h]
theorem budget (h : SameSite s u) : u.budget = s.budget := by rw [show u = _ from h]
theorem charge (h : SameSite s u) : u.charge = s.charge := h.switch .charge
theorem discharge (h : SameSite s u) : u.discharge = s.discharge := h.switch .discharge

theorem allClosed (h : SameSite s u) (ps : PathSet) : u.allClosed ps = s.allClosed ps := by
  rw [Bool.eq_iff_iff, allClosed_iff, allClosed_iff]
  simp only [h.switch]

/-- The close commands find the switches of `s` (R111, R141). -/
theorem closing_switch (h : SameSite s u) (r : Round) (stage : Stage) (p : Path) : (u.closing r stage).switch p =
    if r.paths.has p = true ∧ (s.switch p).state = .OPEN ∧ s.held p = false then
      { s.switch p with state := .CLOSING, gate := true, limit := .running 4000 }
    else s.switch p := by
  rw [u.closing_switch_eq, h.switch, h.held]

theorem closedBy_has (h : SameSite s u) (r : Round) (p : Path) :
    (u.closedBy r).has p = (r.closedSet.has p || (r.paths.has p && (s.switch p).state == .OPEN)) := by
  rw [u.closedBy_has, h.switch]

end SameSite

theorem sameSite_heard (s : State) (l : List Entry) : SameSite s (s.heard.withRoster l) := rfl
theorem sameSite_setRound (s : State) (r : Option Round) : SameSite s (setRound r s) := rfl
theorem sameSite_sendRound (s : State) (c : Content) : SameSite s (sendRound c s) := rfl

/-! ### The member's close commands (R111, R112) -/

/-- The member has given the close commands of the round `r`, entered from `u`, at the site `s`: it waits in CLOSING, or in CLOSED-WAIT
with CLOSED queued where every round path was CLOSED already. -/
structure MemberCloses (r : Round) (s u v : State) : Prop where
  switch : ∀ p, v.switch p =
    if r.paths.has p = true ∧ (s.switch p).state = .OPEN ∧ s.held p = false then
      { s.switch p with state := .CLOSING, gate := true, limit := .running 4000 }
    else s.switch p
  round : ∃ r', v.reclose.round = some r' ∧ r'.number = r.number ∧ r'.paths = r.paths ∧
    (∀ p, r'.closedSet.has p = (r.closedSet.has p || (r.paths.has p && (s.switch p).state == .OPEN))) ∧
    (if s.allClosed r.paths = true then
      r'.stage = .CLOSED_WAIT ∧ r'.window = .running (3 * s.cfg.tBeat) ∧
        ∃ f ∈ v.link.rounds, f.content = .closed (byteOf r.number)
     else r'.stage = .CLOSING ∧ r'.window = .stopped)
  queued : ∀ pre f, u.link.rounds = pre ++ [f] → f ∈ v.link.rounds
  trips : v.trips = s.trips
  conds : v.conds = s.conds
  stop : v.stop = s.stop
  phase : v.phase = s.phase

theorem closeAndEnter_memberCloses (r : Round) {s u : State} (h : SameSite s u) :
    MemberCloses r s u (closeAndEnter r .CLOSING u) := by
  have hswitch := h.closing_switch r .CLOSING
  have hset := h.closedBy_has r
  cases hall : s.allClosed r.paths with
  | false =>
      rw [closeAndEnter_waits r .CLOSING u ((h.allClosed _).trans hall)]
      refine ⟨hswitch, ⟨_, rfl, rfl, rfl, hset, ?_⟩, fun pre f hf => ?_, h.trips, h.conds, h.stop, h.phase⟩
      · rw [hall]
        exact ⟨rfl, rfl⟩
      · exact (congrArg (f ∈ ·) hf).mpr (by simp)
  | true =>
      rw [closeAndEnter_member r u ((h.allClosed _).trans hall)]
      refine ⟨fun p => ?_, ⟨_, rfl, rfl, rfl, hset, ?_⟩, fun pre f hf => u.link.last_mem_queueRound f 0 _ hf, h.trips, h.conds,
        h.stop, h.phase⟩
      · rw [setRound_switch, sendRound_switch, hswitch]
      · rw [hall, if_pos rfl, h.cfg]
        refine ⟨rfl, rfl, TxFrame.new 0 (.closed (byteOf r.number)), ?_, rfl⟩
        rw [show (setRound _ (sendRound (.closed (byteOf r.number)) (u.closing r .CLOSING))).link.rounds = _ from
          Link.queueRound_rounds u.link 0 _]
        simp

/-- A station that is not the closer gives its close commands once the round proceeds (R112). -/
theorem enterProceed_member (r : Round) (hrole : r.role.closes = false) {s u : State} (h : SameSite s u) :
    MemberCloses r s u (enterProceed r u) := by
  unfold enterProceed
  rw [hrole]
  exact closeAndEnter_memberCloses r h

/-- The closer gathers once the round proceeds (R113). -/
theorem enterProceed_closer (r : Round) (hrole : r.role.closes = true) (u : State) :
    enterProceed r u = setRound (some { r with stage := .GATHERING, window := .running (2 * u.cfg.tBeat) }) u := by
  unfold enterProceed
  rw [hrole]
  rfl

/-! ### With the closing checks -/

/-- In a round the closing checks leave round, link and switches, whatever silence timer has restarted. -/
theorem inRound_settled (b v : State) (after : List Entry) (n : Nat) (r : Round) (hr : v.reclose.round = some r) :
    (settle b ((v.withRoster after).withFreeCount n)).reclose.round = some r ∧
    (settle b ((v.withRoster after).withFreeCount n)).link = v.link ∧
    (∀ p, (settle b ((v.withRoster after).withFreeCount n)).switch p = v.switch p) := by
  have hround : ((v.withRoster after).withFreeCount n).reclose.round = some r := by
    rwa [State.withFreeCount_reclose, State.withRoster_reclose]
  obtain ⟨hkeep, hlink⟩ := settle_in_round b _ r hround
  refine ⟨hkeep, ?_, fun p => ?_⟩
  · rw [hlink, State.withFreeCount_link, State.withRoster_link]
  · rw [settle_switch, beside_switch]

/-- At the site `s` the closing checks leave switches, list, conditions, stop line and phase (R163). -/
theorem SameSite.settled {s v : State} (h : SameSite s v) (b : State) (after : List Entry) (n : Nat) :
    let t := settle b ((v.withRoster after).withFreeCount n)
    (t.charge = s.charge ∧ t.discharge = s.discharge) ∧ t.trips = s.trips ∧ t.conds = s.conds ∧ t.stop = s.stop ∧
      t.phase = s.phase := by
  obtain ⟨htrips, hconds, hstop, hphase, hcharge, hdischarge⟩ := beside_settled b v after n
  exact ⟨⟨hcharge.trans h.charge, hdischarge.trans h.discharge⟩, htrips.trans h.trips, hconds.trans h.conds,
    hstop.trans h.stop, hphase.trans h.phase⟩

theorem MemberCloses.settled {r : Round} {s u v : State} (h : MemberCloses r s u v) (b : State) (after : List Entry) (n : Nat) :
    MemberCloses r s u (settle b ((v.withRoster after).withFreeCount n)) := by
  obtain ⟨r', hr', hnumber, hpaths, hset, hstage⟩ := h.round
  obtain ⟨hround, hlink, hswitch⟩ := inRound_settled b v after n r' hr'
  obtain ⟨htrips, hconds, hstop, hphase, -⟩ := beside_settled b v after n
  refine ⟨fun p => (hswitch p).trans (h.switch p), ⟨r', hround, hnumber, hpaths, hset, ?_⟩, ?_, htrips.trans h.trips,
    hconds.trans h.conds, hstop.trans h.stop, hphase.trans h.phase⟩
  · rwa [hlink]
  · rw [hlink]
    exact h.queued

/-- The station has taken up its second role in the round `r`, entered from `u`, at the site `s` (R112, R113). -/
structure Proceeds (r : Round) (s u t : State) : Prop where
  closer : r.role.closes = true →
    t.reclose.round = some { r with stage := .GATHERING, window := .running (2 * s.cfg.tBeat) } ∧
    t.charge = s.charge ∧ t.discharge = s.discharge
  member : r.role.closes = false → MemberCloses r s u t
  queued : ∀ pre f, u.link.rounds = pre ++ [f] → f ∈ t.link.rounds
  trips : t.trips = s.trips
  conds : t.conds = s.conds
  stop : t.stop = s.stop
  phase : t.phase = s.phase

theorem enterProceed_settled (r : Round) (b : State) {s u : State} (h : SameSite s u) (after : List Entry) (n : Nat) :
    Proceeds r s u (settle b (((enterProceed r u).withRoster after).withFreeCount n)) := by
  cases hrole : r.role.closes with
  | false =>
      have hcloses := (enterProceed_member r hrole h).settled b after n
      exact ⟨fun h => absurd (hrole.symm.trans h) Bool.noConfusion, fun _ => hcloses, hcloses.queued, hcloses.trips,
        hcloses.conds, hcloses.stop, hcloses.phase⟩
  | true =>
      rw [enterProceed_closer r hrole, h.cfg]
      have hsite := h.trans (sameSite_setRound u (some { r with stage := .GATHERING, window := .running (2 * s.cfg.tBeat) }))
      obtain ⟨hround, hlink, -⟩ := inRound_settled b (setRound _ u) after n _ rfl
      obtain ⟨hswitches, htrips, hconds, hstop, hphase⟩ := hsite.settled b after n
      refine ⟨fun _ => ⟨hround, hswitches⟩, fun h => absurd (hrole.symm.trans h) Bool.noConfusion, fun pre f hf => ?_, htrips,
        hconds, hstop, hphase⟩
      rw [hlink]
      exact (congrArg (f ∈ ·) hf).mpr (by simp)

end Sys2Proof.Machine
end

section
/-!
SUPPORT. ANSWER at the coordinator (R110 to R112) and CLOSED at the closer (R113, R114).
-/
namespace Sys2Proof.Machine

theorem byteOf_toNat (b : Byte) : byteOf b.toNat = b := by simp [byteOf]

theorem byteOf_of_toNat {b : Byte} {n : Nat} (h : b.toNat = n) : byteOf n = b := h ▸ byteOf_toNat b

/-! ### ANSWER -/

theorem answer_brings (src dst round answer reason : Byte) (s : State) (hdst : dst.toNat = s.rank) :
    BringsFrame src (.answer src dst round answer reason) { src := src, dst := dst, content := .answer round answer reason } := by
  have hrank := rank_le s
  have hpos : 1 ≤ s.rank := Nat.succ_pos _
  exact ⟨rfl, fun _ => rfl, fun hsrc => RxFrame.valid_of hsrc (decide_eq_true ⟨hdst ▸ hpos, hdst ▸ hrank⟩) rfl⟩

theorem proceedCheck_eq (s : State) (r : Round) (hr : s.reclose.round = some r) (hstage : r.stage = .COLLECTING) :
    proceedCheck s =
      if s.coversRoster r.accepts = true then enterProceed r (sendRound (.proceed (byteOf r.number)) s) else s := by
  have hround : s.round = some r := hr
  unfold proceedCheck
  simp [hround, hstage]

/-- The round `r` once the ACCEPT of `src` is held (R110). -/
def Round.accepting (r : Round) (src : Nat) : Round := { r with accepts := insertRank src r.accepts }

theorem takeAnswer_accept (src : Nat) (round : Byte) (s : State) (r : Round) (hr : s.reclose.round = some r)
    (hstage : r.stage = .COLLECTING) (hnumber : round.toNat = r.number) : takeAnswer src round 1 s =
      if s.coversRoster (r.accepting src).accepts = true then
        enterProceed (r.accepting src) (sendRound (.proceed (byteOf r.number)) (setRound (some (r.accepting src)) s))
      else setRound (some (r.accepting src)) s := by
  have hround : s.round = some r := hr
  have hcheck : takeAnswer src round 1 s = proceedCheck (setRound (some (r.accepting src)) s) := by
    unfold takeAnswer Round.accepting
    simp [hround, hstage, hnumber]
  rw [hcheck]
  exact proceedCheck_eq _ (r.accepting src) rfl hstage

theorem takeAnswer_decline (src : Nat) (round : Byte) (s : State) (r : Round) (hr : s.reclose.round = some r)
    (hstage : r.stage = .COLLECTING) (hnumber : round.toNat = r.number) :
    takeAnswer src round 2 s = abandonRound r s := by
  have hround : s.round = some r := hr
  unfold takeAnswer
  simp [hround, hstage, hnumber]

theorem takeAnswer_other (src : Nat) (round answer : Byte) (s : State) (h1 : answer ≠ 1) (h2 : answer ≠ 2) :
    takeAnswer src round answer s = s := by
  have hone : answer.toNat ≠ 1 := fun h => h1 (BitVec.eq_of_toNat_eq h)
  have htwo : answer.toNat ≠ 2 := fun h => h2 (BitVec.eq_of_toNat_eq h)
  unfold takeAnswer
  cases s.round <;> simp [hone, htwo]

/-- A round abandoned at a frame, with the closing checks (R111, R117, R120). -/
theorem abandonRound_beside (r : Round) (b s : State) (before after : List Entry) (n : Nat) :
    let t := settle b (((abandonRound r (s.heard.withRoster before)).withRoster after).withFreeCount n)
    t.link.counters.roundsAbandoned = min (s.link.counters.roundsAbandoned + 1) 65535 ∧
    (∃ f ∈ t.link.rounds, f.content = .abandon (byteOf r.number)) ∧
    (∀ p, r.paths.has p = true → t.reclose.holdOff p = .running s.cfg.holdOffTime) ∧
    (t.reclose.round = none ∨
      ∃ r', t.reclose.round = some r' ∧ r'.stage = .COLLECTING ∧ r'.coordinator = s.rank) ∧
    t.trips = s.trips ∧ t.conds = s.conds ∧ t.stop = s.stop ∧ t.phase = s.phase := by
  intro t
  have hstart := abandonRound_ended r (s.heard.withRoster before)
  have hended := (hstart.of_start (s := s) (heard_switch s before) rfl rfl rfl rfl rfl).beside after n
  obtain ⟨-, -, hhold, hround⟩ := hended.settled b
  obtain ⟨hcount, -⟩ := abandonRound_counters r (s.heard.withRoster before)
  obtain ⟨pre, hlast⟩ := abandonRound_last r (s.heard.withRoster before)
  have hreach := (abandonRound_reach r (s.heard.withRoster before)).list.cond
  obtain ⟨-, hconds, hstop, hphase, -⟩ := beside_settled b (abandonRound r (s.heard.withRoster before)) after n
  refine ⟨?_, ⟨_, settle_keeps_last b _ hlast, rfl⟩, hhold, hround, ?_, hconds.trans ?_, hstop.trans ?_, hphase.trans ?_⟩
  · rw [settle_roundsAbandoned, State.withFreeCount_link, State.withRoster_link, hcount]
    rfl
  · rw [settle_trips, hended.trips]
  all_goals
    rw [abandonRound_reach r (s.heard.withRoster before)]
    rfl

/-- Settles O38: the reclose controller takes the ANSWER by its code, before or after the member's silence timer restarts, and the
closing checks keep what that leaves. -/
theorem answerGathersOrAbandons : Obligations.AnswerGathersOrAbandons := by
  intro src dst round answer reason s e r hw hlisten hsrc hdst hown he hpresent hr hstage hnumber
  obtain ⟨before, after, n, hbefore, hafter, hexec⟩ :=
    roundFrame_exec (answer_brings src dst round answer reason s hdst) rfl hsrc hw hlisten hown he hpresent
  have htakes : recloseTakes { src := src, dst := dst, content := .answer round answer reason } (s.heard.withRoster before) =
      takeAnswer src.toNat round answer (s.heard.withRoster before) := by
    have hrank : dst.toNat = (s.heard.withRoster before).rank := hdst
    unfold recloseTakes
    simp only [hbefore.isRosterRank he, hrank, Bool.not_true, Bool.false_eq_true, if_false, if_true]
  rw [htakes] at hexec
  refine ⟨_, hexec, ?_⟩
  by_cases haccept : answer = 1
  · subst haccept
    have hsite := (sameSite_heard s before).trans (sameSite_setRound _ (some (r.accepting src.toNat)))
    have hcovers : (s.heard.withRoster before).coversRoster (r.accepting src.toNat).accepts =
        s.coversRoster (insertRank src.toNat r.accepts) := hbefore.coversRoster _
    rw [takeAnswer_accept src.toNat round (s.heard.withRoster before) r hr hstage hnumber, hcovers]
    cases hall : s.coversRoster (insertRank src.toNat r.accepts) with
    | false =>
        rw [if_neg (by simp)]
        obtain ⟨hround, -⟩ :=
          inRound_settled s.heard (setRound (some (r.accepting src.toNat)) (s.heard.withRoster before)) after n _ rfl
        obtain ⟨hswitches, hrest⟩ := hsite.settled s.heard after n
        exact ⟨fun _ _ => ⟨hround, hswitches⟩, fun _ h => (nomatch h), fun h => absurd h (by decide), fun h => absurd rfl h, hrest⟩
    | true =>
        rw [if_pos rfl]
        have hproceeds := enterProceed_settled (r.accepting src.toNat) s.heard
          (hsite.trans (sameSite_sendRound _ (.proceed (byteOf r.number)))) after n
        have hframe := hproceeds.queued _ _ (Link.queueRound_rounds ..)
        refine ⟨fun _ h => (nomatch h), fun _ _ => ⟨⟨_, hframe, congrArg Content.proceed (byteOf_of_toNat hnumber)⟩, ?_⟩,
          fun h => absurd h (by decide), fun h => absurd rfl h, hproceeds.trips, hproceeds.conds, hproceeds.stop,
          hproceeds.phase⟩
        cases hrole : r.role.closes with
        | true =>
            obtain ⟨hround, hcharge, hdischarge⟩ := hproceeds.closer hrole
            exact ⟨_, hround, rfl, rfl, fun _ => ⟨rfl, rfl, hcharge, hdischarge⟩, fun h => nomatch h⟩
        | false =>
            have hcloses := hproceeds.member hrole
            obtain ⟨r', hround, hnumber', hpaths, hset, hstage'⟩ := hcloses.round
            have hbyte : byteOf (r.accepting src.toNat).number = round := byteOf_of_toNat hnumber
            rw [hbyte] at hstage'
            exact ⟨r', hround, hnumber', hpaths, fun h => (nomatch h), fun _ => ⟨hcloses.switch, hset, hstage'⟩⟩
  by_cases hdecline : answer = 2
  · subst hdecline
    rw [takeAnswer_decline src.toNat round (s.heard.withRoster before) r hr hstage hnumber]
    obtain ⟨hcount, hframe, hhold, hround, hrest⟩ := abandonRound_beside r s.heard s before after n
    exact ⟨by simp, by simp, fun _ => ⟨hcount, hframe, hhold, hround⟩, by simp, hrest⟩
  · rw [takeAnswer_other src.toNat round answer _ haccept hdecline]
    obtain ⟨-, hrest⟩ := (sameSite_heard s before).settled s.heard after n
    exact ⟨fun h => absurd h haccept, fun h => absurd h haccept, fun h => absurd h hdecline, fun _ _ =>
      unmoved_settled r s hr before after hafter n, hrest⟩

/-! ### CLOSED -/

/-- The round `r` at the closer once the CLOSED of `src` is held (R113). -/
def Round.gathering (r : Round) (src tBeat : Nat) : Round :=
  { r with stage := .GATHERING, closedHeld := insertRank src r.closedHeld
           window := if r.stage = .ANSWERED then .running (2 * tBeat) else r.window }

theorem gatherCheck_eq (s : State) (r : Round) (hr : s.reclose.round = some r) (hstage : r.stage = .GATHERING) :
    gatherCheck s = if s.coversRoster r.closedHeld = true then closeAndEnter r .FINISHING s else s := by
  have hround : s.round = some r := hr
  unfold gatherCheck
  simp [hround, hstage]

theorem takeClosed_eq (src : Nat) (round : Byte) (s : State) (r : Round) (hr : s.reclose.round = some r)
    (hstage : r.stage = .ANSWERED ∨ r.stage = .GATHERING) (hrole : r.role.closes = true) (hnumber : round.toNat = r.number) :
    takeClosed src round s =
      if s.coversRoster (insertRank src r.closedHeld) = true then
        closeAndEnter (r.gathering src s.cfg.tBeat) .FINISHING (setRound (some (r.gathering src s.cfg.tBeat)) s)
      else setRound (some (r.gathering src s.cfg.tBeat)) s := by
  have hround : s.round = some r := hr
  have hcheck : takeClosed src round s = gatherCheck (setRound (some (r.gathering src s.cfg.tBeat)) s) := by
    unfold takeClosed Round.gathering
    rcases hstage with hstage | hstage <;> simp [hround, hstage, hrole, hnumber]
  rw [hcheck]
  exact gatherCheck_eq _ (r.gathering src s.cfg.tBeat) rfl rfl

/-- The closer's close commands, with the closing checks, where a round path is still to close (R113). -/
theorem finishing_settled (r : Round) (b : State) {s u : State} (h : SameSite s u) (after : List Entry) (n : Nat) :
    let t := settle b (((u.closing r .FINISHING).withRoster after).withFreeCount n)
    (∃ r', t.reclose.round = some r' ∧ r'.stage = .FINISHING ∧ r'.window = .stopped ∧ r'.closedHeld = r.closedHeld) ∧
    (∀ p, t.switch p =
      if r.paths.has p = true ∧ (s.switch p).state = .OPEN ∧ s.held p = false then
        { s.switch p with state := .CLOSING, gate := true, limit := .running 4000 }
      else s.switch p) ∧
    t.trips = s.trips ∧ t.conds = s.conds ∧ t.stop = s.stop ∧ t.phase = s.phase := by
  obtain ⟨hround, -, hswitch⟩ := inRound_settled b (u.closing r .FINISHING) after n _ rfl
  obtain ⟨htrips, hconds, hstop, hphase, -⟩ := beside_settled b (u.closing r .FINISHING) after n
  exact ⟨⟨_, hround, rfl, rfl, rfl⟩, fun p => (hswitch p).trans (h.closing_switch r .FINISHING p), htrips.trans h.trips,
    hconds.trans h.conds, hstop.trans h.stop, hphase.trans h.phase⟩

/-- The closer's COMPLETE and completion, with the closing checks, where every round path was CLOSED already (R114). -/
theorem finished_settled (r : Round) (b : State) {s u : State} (h : SameSite s u) (hclosed : s.allClosed r.paths = true)
    (after : List Entry) (n : Nat) :
    let t := settle b (((closeAndEnter r .FINISHING u).withRoster after).withFreeCount n)
    ((∃ f ∈ t.link.rounds, f.dst = 0 ∧ f.content = .complete (byteOf r.number)) ∧
      t.reclose.lastRound = r.number ∧ t.reclose.lastCloser = r.closer ∧
      (t.reclose.round = none ∨
        ∃ r', t.reclose.round = some r' ∧ r'.stage = .COLLECTING ∧ r'.coordinator = u.rank) ∧
      t.trips.records = s.trips.records.filter (fun x => !r.retire.any fun k => k.retires x) ∧
      t.charge = s.charge ∧ t.discharge = s.discharge) ∧
    t.conds = s.conds ∧ t.stop = s.stop ∧ t.phase = s.phase := by
  intro t
  have hall : u.allClosed r.paths = true := (h.allClosed _).trans hclosed
  have hswitch (p : Path) : (u.closing r .FINISHING).switch p = s.switch p :=
    (u.closing_of_allClosed r .FINISHING hall p).trans (h.switch p)
  have hdone := closeAndEnter_closer r u hall
  obtain ⟨hrecords, hlast, hlastCloser, -, hround⟩ := completeRound_settled
    { r with stage := .FINISHING, window := .stopped, closedSet := u.closedBy r } b
    (sendRound (.complete (byteOf r.number)) (u.closing r .FINISHING)) after n
  obtain ⟨-, hconds, hstop, hphase, hcharge, hdischarge⟩ := beside_settled b (closeAndEnter r .FINISHING u) after n
  obtain ⟨pre, hframe⟩ : ∃ pre, (((closeAndEnter r .FINISHING u).withRoster after).withFreeCount n).link.rounds =
      pre ++ [TxFrame.new 0 (.complete (byteOf r.number))] := by
    rw [State.withFreeCount_link, State.withRoster_link, hdone]
    exact ⟨_, Link.queueRound_rounds u.link 0 _⟩
  rw [← hdone] at hrecords hlast hlastCloser hround
  refine ⟨⟨⟨_, settle_keeps_last b _ hframe, rfl, rfl⟩, hlast, hlastCloser, hround, ?_, hcharge.trans ?_, hdischarge.trans ?_⟩,
    hconds.trans ?_, hstop.trans ?_, hphase.trans ?_⟩
  · rw [← h.trips]
    exact hrecords
  all_goals rw [hdone]
  · exact hswitch .charge
  · exact hswitch .discharge
  · exact h.conds
  · exact h.stop
  · exact h.phase

/-- Settles O40: the reclose controller holds the CLOSED, before or after the member's silence timer restarts, and the closing checks
keep what that leaves. -/
theorem closedGathered : Obligations.ClosedGathered := by
  intro src round s e r hw hlisten hsrc hown he hpresent hr hstage hrole hnumber
  have hbrings : BringsFrame src (.closed src round) (toAll src (.closed round)) := toAll_brings (fun _ => rfl) rfl rfl
  obtain ⟨before, after, n, hbefore, -, hexec⟩ := roundFrame_exec hbrings rfl hsrc hw hlisten hown he hpresent
  have htakes : recloseTakes (toAll src (.closed round)) (s.heard.withRoster before) =
      takeClosed src.toNat round (s.heard.withRoster before) := by
    unfold recloseTakes
    simp only [toAll, hbefore.isRosterRank he, Bool.not_true, Bool.false_eq_true, if_false]
  have hcovers := hbefore.coversRoster (insertRank src.toNat r.closedHeld)
  have hsite := (sameSite_heard s before).trans (sameSite_setRound _ (some (r.gathering src.toNat s.cfg.tBeat)))
  rw [htakes, takeClosed_eq src.toNat round (s.heard.withRoster before) r hr hstage hrole hnumber, hcovers] at hexec
  refine ⟨_, hexec, ?_⟩
  cases hall : s.coversRoster (insertRank src.toNat r.closedHeld) with
  | false =>
      rw [if_neg (by simp)]
      obtain ⟨hround, -⟩ := inRound_settled s.heard
        (setRound (some (r.gathering src.toNat s.cfg.tBeat)) (s.heard.withRoster before)) after n _ rfl
      obtain ⟨⟨hcharge, hdischarge⟩, htrips, hrest⟩ := hsite.settled s.heard after n
      exact ⟨fun _ => ⟨hround, hcharge, hdischarge, htrips⟩, fun h => absurd (hall.symm.trans h) Bool.noConfusion,
        fun h => absurd (hall.symm.trans h) Bool.noConfusion, hrest⟩
  | true =>
      rw [if_pos rfl]
      cases hclosed : s.allClosed r.paths with
      | false =>
          have hwaits := closeAndEnter_waits (r.gathering src.toNat s.cfg.tBeat) .FINISHING
            (setRound (some (r.gathering src.toNat s.cfg.tBeat)) (s.heard.withRoster before))
            ((hsite.allClosed r.paths).trans hclosed)
          rw [show (s.heard.withRoster before).cfg.tBeat = s.cfg.tBeat from rfl, hwaits]
          obtain ⟨hround, hswitch, htrips, hrest⟩ :=
            finishing_settled (r.gathering src.toNat s.cfg.tBeat) s.heard hsite after n
          exact ⟨fun h => absurd (hall.symm.trans h) Bool.noConfusion, fun _ _ => ⟨hround, hswitch, htrips⟩,
            fun _ h => (nomatch h), hrest⟩
      | true =>
          obtain ⟨hcomplete, hrest⟩ := finished_settled (r.gathering src.toNat s.cfg.tBeat) s.heard hsite hclosed after n
          rw [show byteOf (r.gathering src.toNat s.cfg.tBeat).number = round from byteOf_of_toNat hnumber] at hcomplete
          exact ⟨fun h => absurd (hall.symm.trans h) Bool.noConfusion, fun _ h => (nomatch h), fun _ _ => hcomplete, hrest⟩

end Sys2Proof.Machine
end

section
/-!
SUPPORT. A round frame at a formed station that does not move on with it (R79, R80, R106 to R109, R118): the member's silence timer and
the reclose controller's answer do not meet, so no order shows; PROCEED, and PROPOSE.
-/
namespace Sys2Proof.Machine

/-! ### No order shows -/

/-- The station that has taken a frame of the rank `r`, its entry PRESENT and its silence timer restarted (R80, R163). -/
def State.hearing (s : State) (r : Nat) : State := s.heard.withRoster (updateEntry r (Entry.heard s.cfg.silenceTime) s.roster)

theorem hearing_startInputs {s : State} {r : Nat} {e : Entry} (hformed : Formed s) (hw : s.working = true)
    (he : s.entry r = some e) (hpresent : e.status = .PRESENT) : (s.hearing r).startInputs = s.heard.startInputs := by
  refine startInputs_of_heard s.heard r s.cfg.silenceTime fun x hx hr => ?_
  have hentry : s.entry r = some x := hr ▸ hformed.entry_of_mem hw hx
  rw [← Option.some.inj (he.symm.trans hentry)]
  exact hpresent

theorem takers_of_movesRound (f : RxFrame) (h : f.content.movesRound = true) : takers f = [membershipTakes f, recloseTakes f] := by
  unfold takers
  cases hc : f.content <;> simp [hc, Content.movesRound] at h <;> rfl

/-- The reclose controller does `g` with the frame, whatever silence timer has restarted, and `g` does not touch the roster: then the
station does `g` beside that timer, in either order. -/
theorem roundFrame_alike {src : Byte} {c : Instr} {f : RxFrame} {e : Entry} {s : State} (g : State → State)
    (hc : BringsFrame src c f) (hmoves : f.content.movesRound = true) (hsrc : rankByteOk src = true) (hw : s.working = true)
    (hlisten : s.link.discarding = false) (hformed : Formed s) (hown : src.toNat ≠ s.rank) (he : s.entry src.toNat = some e)
    (hpresent : e.status = .PRESENT)
    (hg : ∀ l, s.HasRoster l → (s.heard.withRoster l).coordinator = s.coordinator →
      recloseTakes f (s.heard.withRoster l) = g (s.heard.withRoster l))
    (hcomm : ∀ (u : State) l, g (u.withRoster l) = (g u).withRoster l) :
    exec c s = .next (settle s.heard (g (s.hearing src.toNat))) := by
  obtain rfl := hc.source
  have hbeat := f.content.beat?_of_movesRound hmoves
  have hbefore : recloseTakes f s.heard = g s.heard := hg s.roster s.hasRoster_self rfl
  have hafter : recloseTakes f (s.hearing f.src.toNat) = g (s.hearing f.src.toNat) :=
    hg _ (s.hasRoster_heard _ _) (congrArg StartInputs.coordinator (hearing_startInputs hformed hw he hpresent))
  have hfirst : membershipTakes f s.heard = s.hearing f.src.toNat :=
    membershipTakes_present f e s.heard hown he hpresent hbeat
  have hreach := recloseTakes_reach f s.heard
  have hroster : (g s.heard).roster = s.roster := by
    rw [← hbefore]
    exact hreach.list.cond.roster
  have hcfg : (g s.heard).cfg = s.cfg := by rw [← hbefore, hreach]; rfl
  have hlast : membershipTakes f (g s.heard) = g (s.hearing f.src.toNat) := by
    have hentry : (g s.heard).entry f.src.toNat = some e := by
      unfold State.entry
      rw [hroster]
      exact he
    have hrank : (g s.heard).rank = s.rank := by
      rw [← hbefore]
      exact hreach.list.cond.rank
    rw [membershipTakes_present f e _ (by rwa [hrank]) hentry hpresent hbeat, hroster, hcfg]
    exact (hcomm _ _).symm
  rw [hc.taken hsrc hw hlisten, takers_of_movesRound f hmoves, inAnyOrder_pair _ _ _ (by rw [hbefore, hlast, hfirst, hafter]), hfirst, hafter]

/-- What the start test reads is as before, so the closing checks do nothing. -/
theorem settle_hearing {s u : State} {r : Nat} {e : Entry} (hformed : Formed s) (hw : s.working = true)
    (he : s.entry r = some e) (hpresent : e.status = .PRESENT) (hu : u.startInputs = (s.hearing r).startInputs) :
    settle s.heard u = u :=
  settle_same _ _ ((hearing_startInputs hformed hw he hpresent).symm.trans hu.symm)

theorem sameSite_hearing (s : State) (r : Nat) : SameSite s (s.hearing r) := sameSite_heard s _

/-! ### PROCEED (R112, R113, R118) -/

/-- The left round's PROCEED draws an ABANDON and clears it (R118). -/
def clearLeft (round : Byte) (s : State) : State :=
  (sendRound (.abandon round) s).withReclose { s.reclose with leftRound := none }

theorem takeProceed_left (src : Nat) (round : Byte) (s : State) (hr : s.reclose.round = none)
    (hleft : s.reclose.leftRound = some (round.toNat, src)) : takeProceed src round s = clearLeft round s := by
  have hround : s.round = none := hr
  unfold takeProceed
  simp only [hround, hleft, if_true]
  rfl

theorem takeProceed_answered (src : Nat) (round : Byte) (s : State) (r : Round) (hr : s.reclose.round = some r)
    (hstage : r.stage = .ANSWERED) (hnumber : round.toNat = r.number) (hcoordinator : r.coordinator = src) :
    takeProceed src round s = enterProceed r s := by
  have hround : s.round = some r := hr
  unfold takeProceed
  simp [hround, hstage, hnumber, hcoordinator]

theorem recloseTakes_proceed (src round : Byte) (s : State) (h : s.isRosterRank src.toNat = true) :
    recloseTakes (toAll src (.proceed round)) s = takeProceed src.toNat round s := by
  unfold recloseTakes
  simp only [toAll, h, Bool.not_true, Bool.false_eq_true, if_false]

/-- Settles O39: in ANSWERED the station takes up its second role, before or after the member's silence timer restarts; in IDLE the left
round is cleared, and the closing checks find nothing to do. -/
theorem proceedCloses : Obligations.ProceedCloses := by
  have hbrings (src round : Byte) : BringsFrame src (.proceed src round) (toAll src (.proceed round)) :=
    toAll_brings (fun _ => rfl) rfl rfl
  constructor
  · intro src round s e r hw hlisten hsrc hown he hpresent hr hstage hnumber hcoordinator
    obtain ⟨before, after, n, hbefore, -, hexec⟩ :=
      roundFrame_exec (hbrings src round) rfl hsrc hw hlisten hown he hpresent
    rw [recloseTakes_proceed src round _ (hbefore.isRosterRank he),
      takeProceed_answered src.toNat round (s.heard.withRoster before) r hr hstage hnumber hcoordinator] at hexec
    have hproceeds := enterProceed_settled r s.heard (sameSite_heard s before) after n
    refine ⟨_, hexec, hproceeds.closer, fun hrole => ?_, hproceeds.trips, hproceeds.conds, hproceeds.stop, hproceeds.phase⟩
    have hcloses := hproceeds.member hrole
    obtain ⟨r', hround, hnumber', -, hset, hstage'⟩ := hcloses.round
    rw [byteOf_of_toNat hnumber] at hstage'
    exact ⟨hcloses.switch, r', hround, hnumber', hset, hstage'⟩
  · intro src round s e hw hlisten hformed hsrc hown he hpresent hr hleft
    have hexec := roundFrame_alike (clearLeft round) (hbrings src round) rfl hsrc hw hlisten hformed hown he hpresent
      (fun l hl _ => by
        rw [recloseTakes_proceed src round _ (hl.isRosterRank he)]
        exact takeProceed_left src.toNat round (s.heard.withRoster l) hr hleft)
      (fun _ _ => rfl)
    rw [settle_hearing (u := clearLeft round (s.hearing src.toNat)) hformed hw he hpresent rfl] at hexec
    obtain ⟨habandoned, -⟩ := s.heard.link.queueRound_counters 0 (.abandon round)
    have hsite : SameSite s (clearLeft round (s.hearing src.toNat)) := (sameSite_hearing s src.toNat).trans rfl
    have hreclose : (clearLeft round (s.hearing src.toNat)).reclose = { s.reclose with leftRound := none } := by
      rw [clearLeft, State.withReclose_reclose, State.hearing, State.withRoster_reclose, State.heard_reclose]
    refine ⟨_, hexec, hreclose, ⟨TxFrame.new 0 (.abandon round), ?_, rfl⟩, hsite.charge, hsite.discharge, hsite.trips, habandoned⟩
    rw [show (clearLeft round (s.hearing src.toNat)).link.rounds = _ from Link.queueRound_rounds s.heard.link 0 _]
    simp

end Sys2Proof.Machine
end

section
/-!
SUPPORT. PROPOSE (R106 to R109): the answer each case draws, and what joins the round slot (R174).
-/
namespace Sys2Proof.Machine

/-! ### The round slot (R174) -/

/-- A round frame joins the slot; a full slot loses its older frame, cut off if it is being sent. -/
theorem Link.queueRound_slot (l : Link) (dst : Byte) (c : Content) :
    (l.queueRound dst c).rounds = (if l.rounds.length < 2 then l.rounds else l.rounds.tail) ++
      [{ dst := dst, content := c, collisions := 0 }] ∧
    (l.queueRound dst c).counters.roundsReplaced =
      (if l.rounds.length < 2 then l.counters.roundsReplaced else min (l.counters.roundsReplaced + 1) 65535) ∧
    (l.rounds.length < 2 ∨ l.sending ≠ some .round →
      (l.queueRound dst c).sending = l.sending ∧ (l.queueRound dst c).cut = l.cut) ∧
    (2 ≤ l.rounds.length → l.sending = some .round →
      (l.queueRound dst c).sending = none ∧ (l.queueRound dst c).cut = true) := by
  unfold Link.queueRound Link.cutOff TxFrame.new
  by_cases hroom : l.rounds.length < 2
  · simp [hroom]
  · by_cases hsending : l.sending = some .round <;> simp [hroom, hsending, Counters.roundReplaced, satAdd]

theorem Link.queueRound_others (l : Link) (dst : Byte) (c : Content) :
    (l.queueRound dst c).notices = l.notices ∧ (l.queueRound dst c).beat = l.beat ∧ (l.queueRound dst c).reply = l.reply := by
  rw [l.queueRound_frame]
  exact ⟨rfl, rfl, rfl⟩

/-! ### Which PROPOSE it is -/

theorem proposeMalformed_iff (n : Nat) (round paths closer : Byte) :
    proposeMalformed n round.toNat paths.toNat closer.toNat = true ↔
      round = 0 ∨ paths = 0 ∨ 3 < paths.toNat ∨ closer = 0 ∨ n < closer.toNat := by
  have hzero (b : Byte) : b.toNat = 0 ↔ b = 0 := ⟨fun h => BitVec.eq_of_toNat_eq h, fun h => h ▸ rfl⟩
  simp [proposeMalformed, hzero, or_assoc]

theorem PathSet.code_eq_iff (ps : PathSet) {n : Nat} (h1 : 1 ≤ n) (h3 : n ≤ 3) : ps.code = n ↔ ps = PathSet.ofCode n := by
  obtain ⟨charge, discharge⟩ := ps
  interval_cases n <;> cases charge <;> cases discharge <;> simp [PathSet.code, PathSet.ofCode]

theorem Round.repeats_iff (r : Round) (src : Nat) (paths closer count crc : Byte) (h1 : 1 ≤ paths.toNat) (h3 : paths.toNat ≤ 3) :
    r.repeats src paths closer count crc = true ↔
      r.coordinator = src ∧ r.stage = .ANSWERED ∧ r.paths = PathSet.ofCode paths.toNat ∧ r.closer = closer.toNat ∧
        r.digestCount = count.toNat ∧ r.digestCrc = crc := by
  simp [Round.repeats, PathSet.code_eq_iff r.paths h1 h3, and_assoc]

/-- The nine checks of R107, as the statements write them. -/
theorem proposeReason_eq (s : State) (src : Nat) (ps : PathSet) (count crc : Byte) :
    proposeReason s src ps count crc =
      if s.phase ≠ .OPERATING then 7
      else if s.coordinator ≠ some src then 1
      else if s.stop.sense = true then 8
      else if s.trips.full = true then 5
      else if s.charge.state = .FAULTED ∨ s.discharge.state = .FAULTED ∨
          (ps.charge = true ∧ s.charge.state = .OPENING) ∨ (ps.discharge = true ∧ s.discharge.state = .OPENING) then 9
      else if (ps.charge = true ∧ s.blocked .charge = true) ∨ (ps.discharge = true ∧ s.blocked .discharge = true) then 2
      else if s.watchMeets ps = true then 3
      else if s.latched = true ∧ (∃ k ∈ retirementSet s.trips.records ps, k.kind.currentClass = true) then 6
      else if (retirementSet s.trips.records ps).length ≠ count.toNat ∨ retirementCrc (retirementSet s.trips.records ps) ≠ crc then 4
      else 0 := by
  unfold proposeReason State.anyOpening
  simp only [Bool.or_eq_true, Bool.and_eq_true, beq_iff_eq, List.any_eq_true]

/-- The checks of R107 read of the roster the coordinator alone. -/
theorem proposeReason_beside (s : State) (l : List Entry) (src : Nat) (ps : PathSet) (count crc : Byte)
    (h : (s.heard.withRoster l).coordinator = s.coordinator) :
    proposeReason (s.heard.withRoster l) src ps count crc = proposeReason s src ps count crc := by
  unfold proposeReason
  rw [h]
  rfl

/-! ### Taken in IDLE (R107, R108) -/

/-- The round that an accepted PROPOSE stores (R108). -/
def State.accepted (s : State) (src : Nat) (round paths closer count crc : Byte) : Round :=
  { stage := .ANSWERED, number := round.toNat, paths := PathSet.ofCode paths.toNat, coordinator := src, closer := closer.toNat
    role := if closer.toNat = s.rank then .closer else .member
    retire := retirementSet s.trips.records (PathSet.ofCode paths.toNat), digestCount := count.toNat, digestCrc := crc
    accepts := [], closedHeld := [], closedSet := { charge := false, discharge := false }
    window := .running (3 * s.cfg.tBeat) }

/-- The ANSWER to a PROPOSE, by the reason its checks give (R107). -/
def proposeAnswer (round : Byte) (reason : Nat) : Content :=
  if reason = 0 then .answer round 1 0 else .answer round 2 (byteOf reason)

/-- The station answers a PROPOSE and stores the round `r` if it accepts (R108). -/
def answerAndStore (src round : Byte) (reason : Nat) (r : Round) (s : State) : State :=
  (queueRound src (proposeAnswer round reason) s).withReclose
    { s.reclose with round := if reason = 0 then some r else none }

theorem answerPropose_eq (src round paths closer count crc : Byte) (s : State) (hr : s.reclose.round = none) :
    answerPropose src.toNat round paths closer count crc s =
      answerAndStore src round (proposeReason s src.toNat (PathSet.ofCode paths.toNat) count crc)
        (s.accepted src.toNat round paths closer count crc) s := by
  unfold answerPropose answerAndStore proposeAnswer answerTo
  rw [byteOf_toNat]
  by_cases hreason : proposeReason s src.toNat (PathSet.ofCode paths.toNat) count crc = 0
  · simp only [hreason, if_true]
    rfl
  · simp only [hreason, if_false, ← hr]
    rfl

theorem recloseTakes_propose (src round paths closer count crc : Byte) (s : State) (h : s.isRosterRank src.toNat = true) :
    recloseTakes (toAll src (.propose round paths closer count crc)) s = takePropose src.toNat round paths closer count crc s := by
  unfold recloseTakes
  simp only [toAll, h, Bool.not_true, Bool.false_eq_true, if_false]

theorem propose_brings (src round paths closer count crc : Byte) :
    BringsFrame src (.propose src round paths closer count crc) (toAll src (.propose round paths closer count crc)) :=
  toAll_brings (fun _ => rfl) rfl rfl

theorem takePropose_malformed (src round paths closer count crc : Byte) (s : State)
    (h : round = 0 ∨ paths = 0 ∨ 3 < paths.toNat ∨ closer = 0 ∨ s.cfg.memberCount < closer.toNat) :
    takePropose src.toNat round paths closer count crc s = s := by
  unfold takePropose
  rw [if_pos ((proposeMalformed_iff _ _ _ _).2 h)]

theorem takePropose_idle (src round paths closer count crc : Byte) (s : State) (hr : s.reclose.round = none)
    (h : ¬ (round = 0 ∨ paths = 0 ∨ 3 < paths.toNat ∨ closer = 0 ∨ s.cfg.memberCount < closer.toNat)) :
    takePropose src.toNat round paths closer count crc s =
      answerAndStore src round (proposeReason s src.toNat (PathSet.ofCode paths.toNat) count crc)
        (s.accepted src.toNat round paths closer count crc) s := by
  have hround : s.round = none := hr
  unfold takePropose
  rw [if_neg (mt (proposeMalformed_iff _ _ _ _).1 h)]
  simp only [hround]
  exact answerPropose_eq src round paths closer count crc s hr

/-- The PROPOSE's row in IDLE (R107, R108). -/
theorem exec_propose_idle {src round paths closer count crc : Byte} {s : State} {e : Entry} (hw : s.working = true)
    (hlisten : s.link.discarding = false) (hformed : Formed s) (hsrc : rankByteOk src = true) (hown : src.toNat ≠ s.rank)
    (he : s.entry src.toNat = some e) (hpresent : e.status = .PRESENT) (hr : s.reclose.round = none)
    (h : ¬ (round = 0 ∨ paths = 0 ∨ 3 < paths.toNat ∨ closer = 0 ∨ s.cfg.memberCount < closer.toNat)) :
    exec (.propose src round paths closer count crc) s = .next (settle s.heard
      (answerAndStore src round (proposeReason s src.toNat (PathSet.ofCode paths.toNat) count crc)
        (s.accepted src.toNat round paths closer count crc) (s.hearing src.toNat))) := by
  refine roundFrame_alike _ (propose_brings ..) rfl hsrc hw hlisten hformed hown he hpresent (fun l hl hcoordinator => ?_)
    (fun _ _ => rfl)
  rw [recloseTakes_propose _ _ _ _ _ _ _ (hl.isRosterRank he), takePropose_idle _ _ _ _ _ _ (s.heard.withRoster l) hr h,
    proposeReason_beside s l _ _ _ _ hcoordinator]
  rfl

theorem sameSite_answered (src round : Byte) (reason : Nat) (r : Round) (s : State) (n : Nat) :
    SameSite s (answerAndStore src round reason r (s.hearing n)) :=
  (sameSite_hearing s n).trans rfl

/-- What the answered PROPOSE leaves of reclose controller and link: the closing checks see either an unchanged station in IDLE, or a
station in a round. -/
theorem answerAndStore_settled {src round : Byte} {reason : Nat} {r : Round} {s : State} {e : Entry} (hformed : Formed s)
    (hw : s.working = true) (he : s.entry src.toNat = some e) (hpresent : e.status = .PRESENT) (hr : s.reclose.round = none) :
    (settle s.heard (answerAndStore src round reason r (s.hearing src.toNat))).reclose =
      { s.reclose with round := if reason = 0 then some r else none } ∧
    (settle s.heard (answerAndStore src round reason r (s.hearing src.toNat))).link =
      s.heard.link.queueRound src (proposeAnswer round reason) := by
  by_cases hreason : reason = 0
  · have hround : (answerAndStore src round reason r (s.hearing src.toNat)).reclose.round = some r := if_pos hreason
    have hpack (p : Path) : (answerAndStore src round reason r (s.hearing src.toNat)).packClosed p = s.heard.packClosed p := by
      have hsite := sameSite_answered src round reason r s src.toNat
      rw [(s.hasRoster_heard src.toNat s.cfg.silenceTime).packClosed _ hsite.switch rfl p,
        s.hasRoster_self.packClosed s.heard (sameSite_heard s s.roster).switch rfl p]
    exact settle_keeps_reclose s.heard _ r hround hpack
  · have hstart : (answerAndStore src round reason r (s.hearing src.toNat)).startInputs = (s.hearing src.toNat).startInputs := by
      unfold answerAndStore
      rw [if_neg hreason, ← hr]
      rfl
    rw [settle_hearing hformed hw he hpresent hstart]
    exact ⟨rfl, rfl⟩

/-- A PROPOSE answered in IDLE, with the closing checks (R107, R108, R172, R174). -/
theorem proposeIdle_settled {src round : Byte} (reason : Nat) (r : Round) {s : State} {e : Entry} (hformed : Formed s)
    (hw : s.working = true) (he : s.entry src.toNat = some e) (hpresent : e.status = .PRESENT) (hr : s.reclose.round = none) :
    let t := settle s.heard (answerAndStore src round reason r (s.hearing src.toNat))
    t.reclose = { s.reclose with round := if reason = 0 then some r else none } ∧
    t.link.rounds = (if s.link.rounds.length < 2 then s.link.rounds else s.link.rounds.tail) ++
      [{ dst := src, content := proposeAnswer round reason, collisions := 0 }] ∧
    t.link.counters.roundsReplaced =
      (if s.link.rounds.length < 2 then s.link.counters.roundsReplaced
       else min (s.link.counters.roundsReplaced + 1) 65535) ∧
    (s.link.rounds.length < 2 ∨ s.link.sending ≠ some .round →
      t.link.sending = s.link.sending ∧ t.link.cut = s.link.cut) ∧
    (2 ≤ s.link.rounds.length → s.link.sending = some .round → t.link.sending = none ∧ t.link.cut = true) ∧
    t.charge = s.charge ∧ t.discharge = s.discharge ∧ t.trips = s.trips ∧ t.conds = s.conds ∧ t.stop = s.stop ∧
    t.budget.epoch = s.budget.epoch ∧ t.budget.count = s.budget.count ∧ t.phase = s.phase ∧ t.meas = s.meas := by
  intro t
  have hsite := sameSite_answered src round reason r s src.toNat
  obtain ⟨hreclose, hlink⟩ := answerAndStore_settled (round := round) (reason := reason) (r := r) hformed hw he hpresent hr
  obtain ⟨hrounds, hreplaced, hkept, hcut⟩ := s.heard.link.queueRound_slot src (proposeAnswer round reason)
  rw [← hlink] at hrounds hreplaced hkept hcut
  exact ⟨hreclose, hrounds, hreplaced, hkept, hcut, (settle_charge _ _).trans hsite.charge,
    (settle_discharge _ _).trans hsite.discharge, (settle_trips _ _).trans hsite.trips, (settle_conds _ _).trans hsite.conds,
    (settle_stop _ _).trans hsite.stop, (settle_budget_epoch _ _).trans (congrArg Budget.epoch hsite.budget),
    (settle_budget_count _ _).trans (congrArg Budget.count hsite.budget), (settle_phase _ _).trans hsite.phase,
    (settle_meas _ _).trans hsite.meas⟩

/-! ### Taken in a round (R109) -/

theorem takePropose_round (src round paths closer count crc : Byte) (s : State) (r : Round) (hr : s.reclose.round = some r)
    (h : ¬ (round = 0 ∨ paths = 0 ∨ 3 < paths.toNat ∨ closer = 0 ∨ s.cfg.memberCount < closer.toNat)) :
    takePropose src.toNat round paths closer count crc s =
      if r.number ≠ round.toNat then s
      else if r.repeats src.toNat paths closer count crc = true then queueRound src (.answer round 1 0) s
      else queueRound src (.answer round 2 10) s := by
  have hround : s.round = some r := hr
  unfold takePropose answerTo
  rw [if_neg (mt (proposeMalformed_iff _ _ _ _).1 h), byteOf_toNat]
  simp only [hround]
  rfl

/-- A PROPOSE that the reclose controller passes over only shows its source alive (R106, R109). -/
theorem exec_propose_ignored {src round paths closer count crc : Byte} {s : State} {e : Entry} (hw : s.working = true)
    (hlisten : s.link.discarding = false) (hformed : Formed s) (hsrc : rankByteOk src = true) (hown : src.toNat ≠ s.rank)
    (he : s.entry src.toNat = some e) (hpresent : e.status = .PRESENT)
    (h : ∀ l, takePropose src.toNat round paths closer count crc (s.heard.withRoster l) = s.heard.withRoster l) :
    exec (.propose src round paths closer count crc) s = .next (s.hearing src.toNat) := by
  have hexec := roundFrame_alike id (propose_brings src round paths closer count crc) rfl hsrc hw hlisten hformed hown he hpresent
    (fun l hl _ => by
      rw [recloseTakes_propose _ _ _ _ _ _ _ (hl.isRosterRank he), h]
      rfl)
    (fun _ _ => rfl)
  rwa [id, settle_hearing hformed hw he hpresent rfl] at hexec

/-- A PROPOSE that the reclose controller answers in a round shows its source alive and joins an ANSWER to the round slot (R109). -/
theorem exec_propose_answered {src round paths closer count crc : Byte} {s : State} {e : Entry} (answer : Content)
    (hw : s.working = true) (hlisten : s.link.discarding = false) (hformed : Formed s) (hsrc : rankByteOk src = true)
    (hown : src.toNat ≠ s.rank) (he : s.entry src.toNat = some e) (hpresent : e.status = .PRESENT)
    (h : ∀ l, takePropose src.toNat round paths closer count crc (s.heard.withRoster l) =
      queueRound src answer (s.heard.withRoster l)) :
    exec (.propose src round paths closer count crc) s = .next (queueRound src answer (s.hearing src.toNat)) := by
  have hexec := roundFrame_alike (queueRound src answer) (propose_brings src round paths closer count crc) rfl hsrc hw hlisten
    hformed hown he hpresent (fun l hl _ => by rw [recloseTakes_propose _ _ _ _ _ _ _ (hl.isRosterRank he), h]) (fun _ _ => rfl)
  rwa [settle_hearing (u := queueRound src answer (s.hearing src.toNat)) hformed hw he hpresent rfl] at hexec

/-- The station that has taken a frame, as the statements write it. -/
theorem hearing_eq (s : State) (r : Nat) : s.hearing r = { s with
    roster := s.roster.map (fun e =>
      if e.rank = r then { e with status := .PRESENT, silence := .running (s.cfg.lossLimit * s.cfg.tBeat) } else e)
    link := { s.link with counters :=
      { s.link.counters with framesGood := min (s.link.counters.framesGood + 1) 65535 } } } := by
  unfold State.hearing
  rw [updateEntry_eq]
  rfl

/-- The ANSWER joins the round slot, and nothing else of the station changes (R109, R174). -/
theorem queueRound_answers (src : Byte) (answer : Content) (u : State) :
    (queueRound src answer u).link.rounds =
      (if u.link.rounds.length < 2 then u.link.rounds else u.link.rounds.tail) ++ [{ dst := src, content := answer, collisions := 0 }] ∧
    { queueRound src answer u with link := u.link } = u ∧ (queueRound src answer u).link.notices = u.link.notices ∧
    (queueRound src answer u).link.beat = u.link.beat ∧ (queueRound src answer u).link.reply = u.link.reply := by
  obtain ⟨hrounds, -⟩ := u.link.queueRound_slot src answer
  exact ⟨hrounds, rfl, u.link.queueRound_others src answer⟩

/-- Settles O37: the reclose controller's answer does not meet the member's silence timer, and the closing checks add nothing. -/
theorem proposeAnswered : Obligations.ProposeAnswered := by
  have hzero {b : Byte} (h : b ≠ 0) : 1 ≤ b.toNat :=
    Nat.one_le_iff_ne_zero.2 fun hb => h (BitVec.eq_of_toNat_eq hb)
  constructor
  · intro src round paths closer count crc s e hw hlisten hformed hsrc hown he hpresent hr hround hp1 hp3 hc1 hcn
    have hwell : ¬ (round = 0 ∨ paths = 0 ∨ 3 < paths.toNat ∨ closer = 0 ∨ s.cfg.memberCount < closer.toNat) := by
      rintro (h | rfl | h | rfl | h)
      · exact hround h
      · exact absurd hp1 (by decide)
      · exact absurd hp3 (Nat.not_le.2 h)
      · exact absurd hc1 (by decide)
      · exact absurd hcn (Nat.not_le.2 h)
    refine ⟨_, exec_propose_idle hw hlisten hformed hsrc hown he hpresent hr hwell, ?_⟩
    rw [proposeReason_eq]
    exact proposeIdle_settled _ _ hformed hw he hpresent hr
  · intro src round paths closer count crc s e hw hlisten hformed hsrc hown he hpresent malformed counted heard
    have hheard : s.hearing src.toNat = heard := hearing_eq s src.toNat
    rw [← hheard]
    refine ⟨fun hbad => ?_, fun r hr hwell => ?_⟩
    · exact exec_propose_ignored hw hlisten hformed hsrc hown he hpresent fun l =>
        takePropose_malformed src round paths closer count crc (s.heard.withRoster l) hbad
    intro repeats answered
    have htakes (l : List Entry) := takePropose_round src round paths closer count crc (s.heard.withRoster l) r hr hwell
    have hrepeats : r.repeats src.toNat paths closer count crc = true ↔ repeats := by
      refine r.repeats_iff src.toNat paths closer count crc (hzero fun h => hwell (.inr (.inl h))) ?_
      exact Nat.not_lt.1 fun h => hwell (.inr (.inr (.inl h)))
    have hanswered (answer : Content) (h : ∀ l, takePropose src.toNat round paths closer count crc (s.heard.withRoster l) =
        queueRound src answer (s.heard.withRoster l)) : answered answer :=
      ⟨_, exec_propose_answered answer hw hlisten hformed hsrc hown he hpresent h,
        queueRound_answers src answer (s.hearing src.toNat)⟩
    refine ⟨fun hother => ?_, fun hsame hagain => ?_, fun hsame hnew => ?_⟩
    · exact exec_propose_ignored hw hlisten hformed hsrc hown he hpresent fun l => by rw [htakes, if_pos hother]
    · exact hanswered _ fun l => by rw [htakes, if_neg (not_not.2 hsame), if_pos (hrepeats.2 hagain)]
    · exact hanswered _ fun l => by rw [htakes, if_neg (not_not.2 hsame), if_neg (mt hrepeats.1 hnew)]

end Sys2Proof.Machine
end

section
/-!
SUPPORT. What the budget lives through (R126 to R136): in every operation but a BEAT's merging and a new epoch it keeps its epoch, and
its count at most rises within its bound; the subjects of MEMBER LOST stay with it (R28).
-/
namespace Sys2Proof.Machine

/-! ### A budget that keeps its epoch -/

/-- The budget `b` is `a` in the same epoch: it may have joined, and its count may have risen, within the bound of the limit. -/
structure Budget.Rises (limit : Nat) (a b : Budget) : Prop where
  epoch : b.epoch = a.epoch
  quiet : b.quiet = a.quiet
  joined : a.joined = true → b.joined = true
  count : a.count ≤ b.count
  bound : a.count ≤ countBound limit → b.count ≤ countBound limit

theorem Budget.Rises.refl (limit : Nat) (b : Budget) : b.Rises limit b := ⟨rfl, rfl, id, Nat.le_refl _, id⟩

theorem Budget.Rises.trans {limit : Nat} {a b c : Budget} (h : a.Rises limit b) (g : b.Rises limit c) : a.Rises limit c :=
  ⟨g.epoch.trans h.epoch, g.quiet.trans h.quiet, g.joined ∘ h.joined, Nat.le_trans h.count g.count, g.bound ∘ h.bound⟩

theorem count_le_raiseCount (limit count n : Nat) : count ≤ raiseCount limit count n := by
  unfold raiseCount
  split <;> omega

theorem raiseCount_le_bound (limit count n : Nat) (h : count ≤ countBound limit) :
    raiseCount limit count n ≤ countBound limit := by
  unfold raiseCount
  split <;> omega

theorem Budget.raise_rises (limit n : Nat) (b : Budget) : b.Rises limit (b.raise limit n) :=
  ⟨rfl, rfl, id, count_le_raiseCount limit b.count n, raiseCount_le_bound limit b.count n⟩

/-- The subjects of the MEMBER LOST conditions (R28). -/
def Conds.subjects (c : Conds) : List Nat := c.lost.map (·.subject)

theorem subjects_set (c : Conds) (id : CondId) (v : Cond) : (c.set id v).subjects = c.subjects := by
  obtain ⟨kind, subject⟩ := id
  cases kind
  case memberLost =>
    show (c.lost.map fun l => if some l.subject == subject then { l with cond := v } else l).map (·.subject) =
      c.lost.map (·.subject)
    rw [List.map_map]
    refine List.map_congr_left fun l _ => ?_
    simp only [Function.comp_apply]
    split <;> rfl
  all_goals rfl

/-- From `s` to `t` configuration and MEMBER LOST subjects stay, and the budget in its epoch; at the end of it in no phase that
counts, the station is in the phase it was in and the budget is the same (R128). -/
structure Rises (s t : State) : Prop where
  cfg : t.cfg = s.cfg
  subjects : t.conds.subjects = s.conds.subjects
  budget : s.budget.Rises s.cfg.latchLimit t.budget
  still : t.phase ≠ .OPERATING → t.phase ≠ .CONFINED → t.phase = s.phase ∧ t.budget = s.budget

theorem Rises.trans {s t u : State} (h : Rises s t) (g : Rises t u) : Rises s u := by
  refine ⟨g.cfg.trans h.cfg, g.subjects.trans h.subjects, h.budget.trans (h.cfg ▸ g.budget), fun ho hc => ?_⟩
  obtain ⟨hphase, hbudget⟩ := g.still ho hc
  obtain ⟨hphase', hbudget'⟩ := h.still (hphase ▸ ho) (hphase ▸ hc)
  exact ⟨hphase.trans hphase', hbudget.trans hbudget'⟩

theorem rises_of_same {s t : State} (hcfg : t.cfg = s.cfg) (hsubjects : t.conds.subjects = s.conds.subjects)
    (hbudget : t.budget = s.budget) (hphase : t.phase = s.phase) : Rises s t :=
  ⟨hcfg, hsubjects, hbudget ▸ .refl _ _, fun _ _ => ⟨hphase, hbudget⟩⟩

theorem Rises.refl (s : State) : Rises s s := rises_of_same rfl rfl rfl rfl

theorem Rises.guarded {s t : State} {c : Prop} [Decidable c] (h : c → Rises s t) : Rises s (if c then t else s) := by
  split
  · exact h ‹_›
  · exact .refl s

theorem RoundReach.rises {s t : State} (h : RoundReach s t) : Rises s t := by
  refine rises_of_same ?_ ?_ ?_ ?_ <;> rw [h]

theorem withConds_rises (s : State) (c : Conds) (h : c.subjects = s.conds.subjects) : Rises s (s.withConds c) :=
  rises_of_same rfl h rfl rfl
theorem withStop_rises (s : State) (l : StopLine) : Rises s (s.withStop l) := rises_of_same rfl rfl rfl rfl
theorem withMeas_rises (s : State) (m : Meas) : Rises s (s.withMeas m) := rises_of_same rfl rfl rfl rfl
theorem withLink_rises (s : State) (l : Link) : Rises s (s.withLink l) := rises_of_same rfl rfl rfl rfl
theorem withBeats_rises (s : State) (b : Beats) : Rises s (s.withBeats b) := rises_of_same rfl rfl rfl rfl
theorem withTrips_rises (s : State) (v : TripList) : Rises s (s.withTrips v) := rises_of_same rfl rfl rfl rfl
theorem withRoster_rises (s : State) (l : List Entry) : Rises s (s.withRoster l) := rises_of_same rfl rfl rfl rfl
theorem withFormation_rises (s : State) (t : Timer) : Rises s (s.withFormation t) := rises_of_same rfl rfl rfl rfl
theorem withReclose_rises (s : State) (r : Reclose) : Rises s (s.withReclose r) := rises_of_same rfl rfl rfl rfl
theorem withFreeCount_rises (s : State) (n : Nat) : Rises s (s.withFreeCount n) := rises_of_same rfl rfl rfl rfl

/-! ### The trip list -/

theorem takeOffers_rises (ch : Change) (s : State) : Rises s (takeOffers ch s) := by
  unfold takeOffers
  refine .guarded fun hp => ⟨rfl, rfl, Budget.raise_rises _ _ _, fun ho hc => ?_⟩
  exact absurd hp (not_or.2 ⟨ho, hc⟩)

/-- Beyond the offers a report opens paths and leaves a round (R22). -/
theorem listReport_rises (ch : Change) (s : State) : Rises s (listReport ch s) := by
  obtain ⟨_, _, hbudget, hstill⟩ := takeOffers_rises ch s
  have hphase : (takeOffers ch s).phase = s.phase := by rw [takeOffers_reach ch s]
  have hreach := listReport_reach ch s
  have hphase' : (listReport ch s).phase = s.phase := by rw [hreach]
  refine ⟨by rw [hreach], by rw [hreach], listReport_budget ch s ▸ hbudget, fun ho hc => ⟨hphase', ?_⟩⟩
  rw [hphase'] at ho hc
  exact (listReport_budget ch s).trans (hstill (hphase ▸ ho) (hphase ▸ hc)).2

theorem changeRecords_rises (out : List Record × Bool) (s : State) : Rises s (changeRecords out s) := by
  have hreport : Rises s (listReport { before := s.trips.records, activated := [] }
      (s.withTrips { s.trips with records := out.1 })) := (withTrips_rises s _).trans (listReport_rises _ _)
  unfold changeRecords
  simp only
  split
  · exact hreport.trans (refuseAddition_reach _).rises
  · exact hreport

theorem listTakes_rises (f : RxFrame) (s : State) : Rises s (listTakes f s) := by
  unfold listTakes
  split
  · exact .refl s
  · split
    · exact changeRecords_rises _ s
    · simp only
      split
      · exact .refl s
      · exact changeRecords_rises _ s
    · exact .refl s

/-! ### The condition monitor -/

theorem reportConds_rises (cleared tripped : List CondId) (s : State) : Rises s (reportConds cleared tripped s) := by
  obtain ⟨order, m, _, heq⟩ := reportConds_eq cleared tripped s
  have hown : Rises s (ownChanged cleared order m s) := by
    refine rises_of_same ?_ ?_ ?_ ?_ <;> rw [ownChanged_eq]
  rw [heq]
  exact hown.trans (listReport_rises _ _)

theorem reportNew_rises (c : Conds) (cleared tripped : List CondId) (s : State) (h : c.subjects = s.conds.subjects) :
    Rises s (reportConds cleared tripped (s.withConds c)) :=
  (withConds_rises s c h).trans (reportConds_rises _ _ _)

theorem tripped_subjects (ids : List CondId) (c : Conds) :
    (ids.foldl (fun c id => c.set id .tripped) c).subjects = c.subjects := by
  induction ids generalizing c with
  | nil => rfl
  | cons id ids ih => exact (ih _).trans (subjects_set c id _)

theorem tripConds_rises (ids : List CondId) (s : State) : Rises s (tripConds ids s) :=
  reportNew_rises _ [] ids s (tripped_subjects ids s.conds)

theorem clearCond_rises (id : CondId) (s : State) : Rises s (clearCond id s) :=
  reportNew_rises _ [id] [] s (subjects_set s.conds id _)

theorem join_subjects (id : CondId) (f : Cond → Cond × CondEvent) (e : Evaluated) :
    (e.join id f).conds.subjects = e.conds.subjects := by
  rw [Evaluated.join_conds, subjects_set]

theorem evaluateScan_rises (r : ScanResult) (s : State) : Rises s (evaluateScan r s) := by
  refine reportNew_rises _ _ _ s ?_
  rw [join_subjects, join_subjects, join_subjects, join_subjects, join_subjects]
  rfl

theorem evaluateSample_rises (x : Int) (s : State) : Rises s (evaluateSample x s) := by
  refine reportNew_rises _ _ _ s ?_
  rw [join_subjects, join_subjects]
  rfl

theorem joinImbalance_subjects (s : State) (e : Evaluated) : (joinImbalance s e).conds.subjects = e.conds.subjects := by
  unfold joinImbalance
  split
  · exact join_subjects _ _ e
  · exact join_subjects _ _ e

theorem joinMismatch_subjects (s : State) (e : Evaluated) : (joinMismatch s e).conds.subjects = e.conds.subjects := by
  unfold joinMismatch
  split
  · exact join_subjects _ _ e
  · exact join_subjects _ _ e

theorem evaluatePack_rises (s : State) : Rises s (evaluatePack s) := by
  refine reportNew_rises _ _ _ s ?_
  rw [joinMismatch_subjects, joinImbalance_subjects]
  rfl

theorem tripShort_rises (s : State) : Rises s (tripShort s) :=
  (tripConds_rises [ownCond .short] s).trans (withStop_rises _ _)

theorem shortSettles_rises (s : State) : Rises s (shortSettles s) := by
  unfold shortSettles
  exact .guarded fun _ => withConds_rises s _ rfl

theorem shortAsserted_rises (s : State) : Rises s (shortAsserted s) := by
  unfold shortAsserted
  split
  · split
    · exact tripShort_rises s
    · exact withConds_rises s _ rfl
  · exact .refl s
  · exact .refl s
  · exact withConds_rises s _ rfl

theorem shortReleased_rises (s : State) : Rises s (shortReleased s) := by
  unfold shortReleased
  split
  · exact .refl s
  · exact withConds_rises s _ rfl
  · exact shortSettles_rises s
  · exact withConds_rises s _ rfl

theorem releaseIfDone_rises (s : State) : Rises s (releaseIfDone s) := by
  unfold releaseIfDone
  exact .guarded fun _ => (withStop_rises s _).trans (shortSettles_rises _)

theorem switchFaultReport_rises (s : State) : Rises s (switchFaultReport s) := by
  unfold switchFaultReport
  exact .guarded fun _ => tripConds_rises _ s

theorem setReleaseTimer_rises (t : Timer) (s : State) : Rises s (setReleaseTimer t s) := by
  unfold setReleaseTimer
  exact .guarded fun _ => withConds_rises s _ rfl

theorem unexplainedReport_rises (s : State) : Rises s (unexplainedReport s) := by
  have htrip := tripConds_rises [ownCond .unexplainedStop] s
  unfold unexplainedReport
  refine .guarded fun _ => ?_
  simp only
  split
  · exact htrip
  · exact htrip.trans (setReleaseTimer_rises _ _)

theorem membersLost_rises (rs : List Nat) (s : State) : Rises s (membersLost rs s) := tripConds_rises _ s

theorem memberFound_rises (r : Nat) (s : State) : Rises s (memberFound r s) := by
  unfold memberFound
  exact .guarded fun _ => clearCond_rises _ s

theorem placeHold_rises (ps : PathSet) (s : State) : Rises s (placeHold ps s) := by
  unfold placeHold
  simp only
  split
  · exact .refl s
  · exact (withConds_rises s { s.conds with holdPaths := some ps } rfl).trans (tripConds_rises [ownCond .hold] _)

theorem releaseHold_rises (s : State) : Rises s (releaseHold s) :=
  (clearCond_rises (ownCond .hold) s).trans (withConds_rises _ _ rfl)

/-! ### The phase and the roster -/

/-- Out of FORMING an unjoined budget counts what FORMING left uncounted, and joins (R128). -/
theorem settleForming_budget_rises (s : State) : s.budget.Rises s.cfg.latchLimit (settleForming s).budget := by
  unfold settleForming
  simp only
  split
  · exact .refl _ _
  · rename_i hjoined
    obtain ⟨hepoch, hquiet, _, hcount, hbound⟩ := Budget.raise_rises s.cfg.latchLimit
      (s.trips.records.filter fun r => r.kind.currentClass && !r.counted).length s.budget
    exact ⟨hepoch, hquiet, fun h => absurd h hjoined, hcount, hbound⟩

theorem changePhase_budget_rises (p : Phase) (s : State) : s.budget.Rises s.cfg.latchLimit (changePhase p s).budget := by
  by_cases hf : s.phase = .FORMING
  · have hsettle := settleForming_budget_rises (s.withPhase p)
    rw [changePhase_of_forming p s hf]
    split
    · exact hsettle
    · exact hsettle
  · exact changePhase_budget p s hf ▸ .refl _ _

/-- A change of phase leads to a phase that counts. -/
theorem changePhase_rises (p : Phase) (s : State) (hp : p = .OPERATING ∨ p = .CONFINED) : Rises s (changePhase p s) := by
  have hwithin := changePhase_within p s
  have hconds : (changePhase p s).conds = s.conds := hwithin.rest .conds (by decide)
  refine ⟨hwithin.rest .cfg (by decide), hconds ▸ rfl, changePhase_budget_rises p s, fun ho hc => ?_⟩
  rw [changePhase_phase] at ho hc
  exact absurd hp (not_or.2 ⟨ho, hc⟩)

theorem phase_counts {p : Phase} (hp : p.working = true) (hforming : p ≠ .FORMING) : p = .OPERATING ∨ p = .CONFINED := by
  cases p <;> simp_all [Phase.working]

theorem phaseChecks_rises (s : State) : Rises s (phaseChecks s) := by
  rcases phaseChecks_cases s with e | ⟨p, _, hforming, hp, _, e⟩ <;> rw [e]
  · exact .refl s
  · exact changePhase_rises p s (phase_counts hp hforming)

theorem rankConflict_rises (s : State) : Rises s (rankConflict s) := by
  have hflag : Rises s (s.withConflict true) := rises_of_same rfl rfl rfl rfl
  unfold rankConflict
  split
  · exact .refl s
  · simp only
    split
    · exact hflag.trans (changePhase_rises _ _ (.inr rfl))
    · exact hflag.trans (changePhase_rises _ _ (.inr rfl))
    · exact hflag
    · exact hflag
    · exact hflag

theorem memberHeard_rises (f : RxFrame) (e : Entry) (s : State) : Rises s (memberHeard f e s) := by
  unfold memberHeard
  simp only
  split
  · exact ((withRoster_rises s _).trans (memberFound_rises _ _)).trans (withTrips_rises _ _)
  · exact withRoster_rises s _

theorem takeFromMember_eq (f : RxFrame) (e : Entry) (s : State) : takeFromMember f e s =
    if f.content.beat?.isSome ∨ e.status ≠ .PRESENT then phaseChecks (memberHeard f e s) else memberHeard f e s := rfl

theorem takeFromMember_rises (f : RxFrame) (e : Entry) (s : State) : Rises s (takeFromMember f e s) := by
  rw [takeFromMember_eq]
  exact (memberHeard_rises f e s).trans (.guarded fun _ => phaseChecks_rises _)

theorem membershipTakes_rises (f : RxFrame) (s : State) : Rises s (membershipTakes f s) := by
  unfold membershipTakes
  split
  · exact rankConflict_rises s
  · split
    · exact takeFromMember_rises f _ s
    · exact .refl s

theorem entryLost_rises (r : Nat) (s : State) : Rises s (entryLost r s) :=
  (((withRoster_rises s _).trans (membersLost_rises _ _)).trans (withTrips_rises _ _)).trans (phaseChecks_rises _)

theorem formationExpired_rises (s : State) : Rises s (formationExpired s) :=
  ((withRoster_rises s _).trans (withFormation_rises _ _)).trans (membersLost_rises _ _)

/-! ### Switches, beats and the stop line -/

theorem switchEvent_rises (p : Path) (out : Switch × Bool) (s : State) : Rises s (switchEvent p out s) := by
  have hmove := (moveSwitch_reach p out.1 s).rises
  unfold switchEvent
  simp only
  split
  · exact hmove.trans (switchFaultReport_rises _)
  · exact hmove

theorem lineAsserted_rises (unexplained : Bool) (s : State) : Rises s (lineAsserted unexplained s) :=
  ((withStop_rises s _).trans (setReleaseTimer_rises _ _)).trans (holdBoth_reach _).rises

theorem inAnyOrder_rises (acts : List (State → State)) (h : ∀ g ∈ acts, ∀ s, Rises s (g s)) (s : State) :
    Rises s (inAnyOrder acts s) :=
  inAnyOrder_keeps (Rises s) acts (fun t n ht => ht.trans (withFreeCount_rises t n)) (fun g hg t ht => ht.trans (h g hg t)) s
    (.refl s)

theorem beatPeriod_rises (s : State) : Rises s (beatPeriod s) := by
  refine ((withMeas_rises s _).trans (inAnyOrder_rises _ (fun g hg t => ?_) _)).trans (withBeats_rises _ _)
  simp only [List.mem_cons, List.not_mem_nil, or_false] at hg
  rcases hg with rfl | rfl
  · exact evaluatePack_rises t
  · exact (withLink_rises t _).trans (withBeats_rises _ _)

end Sys2Proof.Machine
end

section
/-!
SUPPORT. What a command's operations leave before its closing checks: a roster without a mismatched member in OPERATING (R94), and the
budget in its epoch or a newer one (R129 to R134).
-/
namespace Sys2Proof.Machine

/-! ### OPERATING without a mismatched member (R94) -/

/-- In OPERATING no PRESENT entry holds digest match NO. -/
def Agreed (s : State) : Prop := s.phase = .OPERATING → ¬ s.anyMismatched

theorem agreed_of_same {s t : State} (hphase : t.phase = s.phase) (hroster : t.roster = s.roster) (h : Agreed s) :
    Agreed t := by
  unfold Agreed State.anyMismatched
  rw [hphase, hroster]
  exact h

theorem not_anyMismatched_of_allFormed {s : State} (h : s.allFormed) : ¬ s.anyMismatched := by
  rintro ⟨e, he, _, hno⟩
  exact absurd ((h e he).2.symm.trans hno) (by decide)

/-- The phase checks leave a mismatched member out of OPERATING, whatever they find. -/
theorem phaseChecks_agreed (s : State) : Agreed (phaseChecks s) := by
  obtain ⟨hforming, hoperating, hconfined⟩ := phaseChecks_phase s
  have hroster : (phaseChecks s).roster = s.roster := (phaseChecks_within s).rest .roster (by decide)
  intro hp
  have hsame : (phaseChecks s).anyMismatched ↔ s.anyMismatched := by
    unfold State.anyMismatched
    rw [hroster]
  rw [hsame]
  cases hs : s.phase with
  | FORMING => exact not_anyMismatched_of_allFormed ((hforming hs).1.1 hp)
  | OPERATING => exact fun hany => absurd (hp.symm.trans ((hoperating hs).1.2 hany)) (by decide)
  | CONFINED => exact ((hconfined hs).1.1 hp).2
  | HALTED =>
      rw [show phaseChecks s = s by simp [phaseChecks, hs], hs] at hp
      exact absurd hp (by decide)
  | LOADING =>
      rw [show phaseChecks s = s by simp [phaseChecks, hs], hs] at hp
      exact absurd hp (by decide)

/-- A roster of different ranks finds each of its entries. -/
theorem entry_of_mem {s : State} (hnodup : s.members.Nodup) {e : Entry} (he : e ∈ s.roster) : s.entry e.rank = some e := by
  unfold State.entry
  cases hf : s.roster.find? fun x => x.rank == e.rank with
  | none => exact absurd (List.find?_eq_none.1 hf e he) (by simp)
  | some x =>
      have hx : x.rank = e.rank := by simpa using List.find?_some hf
      rw [List.inj_on_of_nodup_map hnodup (List.mem_of_find?_eq_some hf) he hx]

/-- A frame that is no BEAT leaves the digest match. -/
theorem takeFrame_digest (silence : Nat) (digest : Half) {c : Content} (h : c.beat? = none) (e : Entry) :
    (e.takeFrame silence digest c).beat = e.beat := by
  unfold Entry.takeFrame
  rw [h]
  rfl

/-- A frame of a PRESENT member that is no BEAT brings no digest match. -/
theorem memberHeard_agreed (f : RxFrame) (e : Entry) (s : State) (he : s.entry f.src.toNat = some e)
    (hcontent : f.content.beat? = none) (hpresent : e.status = .PRESENT) (hnodup : s.members.Nodup) (h : Agreed s) :
    Agreed (memberHeard f e s) := by
  intro hp
  rw [memberHeard_phase] at hp
  unfold State.anyMismatched
  rw [memberHeard_roster, heardRoster, updateEntry_eq]
  rintro ⟨x, hx, hshown, hno⟩
  obtain ⟨y, hy, rfl⟩ := List.mem_map.1 hx
  refine h hp ⟨y, hy, ?_⟩
  by_cases hr : y.rank = f.src.toNat
  · obtain rfl : y = e := Option.some.inj ((entry_of_mem hnodup hy).symm.trans (hr ▸ he))
    rw [if_pos hr, takeFrame_digest _ _ hcontent] at hno
    exact ⟨hpresent, hno⟩
  · rw [if_neg hr] at hshown hno
    exact ⟨hshown, hno⟩

theorem membershipTakes_agreed (f : RxFrame) (s : State) (hnodup : s.members.Nodup) (h : Agreed s) :
    Agreed (membershipTakes f s) := by
  unfold membershipTakes
  split
  · have hflag : Agreed (s.withConflict true) := h
    have hconfined (u : State) : Agreed (changePhase .CONFINED u) := fun hp => by
      rw [changePhase_phase] at hp
      exact absurd hp (by decide)
    unfold rankConflict
    split
    · exact h
    · simp only
      split
      · exact hconfined _
      · exact hconfined _
      · exact hflag
      · exact hflag
      · exact hflag
  · split
    · rename_i e he
      rw [takeFromMember_eq]
      split
      · exact phaseChecks_agreed _
      · rename_i hcheck
        obtain ⟨hbeat, hpresent⟩ := not_or.1 hcheck
        exact memberHeard_agreed f e s he (by simpa using hbeat) (Decidable.not_not.1 hpresent) hnodup h
    · exact h

/-- The formation timeout makes no entry PRESENT. -/
theorem formationExpired_agreed (s : State) (h : Agreed s) : Agreed (formationExpired s) := by
  have hwithin := membersLost_within (expectedRanks s.roster) ((s.withRoster (lostRoster s.roster)).withFormation .stopped)
  have hroster : (formationExpired s).roster = lostRoster s.roster := hwithin.rest .roster (by decide)
  have hphase : (formationExpired s).phase = s.phase := hwithin.rest .phase (by decide)
  intro hp
  unfold State.anyMismatched
  rw [hroster]
  rintro ⟨x, hx, hpresent, hno⟩
  obtain ⟨y, hy, rfl⟩ := List.mem_map.1 hx
  refine h (hphase ▸ hp) ⟨y, hy, ?_⟩
  split at hpresent <;> rename_i hexpected
  · exact absurd hpresent (by simp [Entry.goLost])
  · rw [if_neg hexpected] at hno
    exact ⟨hpresent, hno⟩

/-! ### A command's operations -/

/-- From `s` to `t` the budget keeps its epoch, and the station its members, its supply and its agreement. -/
structure Works (s t : State) : Prop extends Rises s t where
  scope : ListScope s t
  agrees : s.members.Nodup → Agreed s → Agreed t

theorem Works.refl (s : State) : Works s s := ⟨.refl s, .refl s, fun _ => id⟩

theorem Works.trans {s t u : State} (h : Works s t) (g : Works t u) : Works s u :=
  ⟨h.toRises.trans g.toRises, h.scope.trans g.scope, fun hn => g.agrees (h.scope.members ▸ hn) ∘ h.agrees hn⟩

/-- Work that leaves phase and roster. -/
structure Stays (s t : State) : Prop extends Rises s t where
  scope : ListScope s t
  phase : t.phase = s.phase
  roster : t.roster = s.roster

theorem Stays.refl (s : State) : Stays s s := ⟨.refl s, .refl s, rfl, rfl⟩

theorem Stays.trans {s t u : State} (h : Stays s t) (g : Stays t u) : Stays s u :=
  ⟨h.toRises.trans g.toRises, h.scope.trans g.scope, g.phase.trans h.phase, g.roster.trans h.roster⟩

theorem Stays.works {s t : State} (h : Stays s t) : Works s t :=
  ⟨h.toRises, h.scope, fun _ => agreed_of_same h.phase h.roster⟩

theorem Rises.stays {s t : State} {bs : List Block} (h : Rises s t) (hscope : ListScope s t) (hwithin : Within bs s t)
    (hphase : Block.phase ∉ bs := by decide) (hroster : Block.roster ∉ bs := by decide) : Stays s t :=
  ⟨h, hscope, hwithin.rest .phase hphase, hwithin.rest .roster hroster⟩

/-- What reaches neither phase nor roster agrees as before. -/
theorem Rises.works {s t : State} {bs : List Block} (h : Rises s t) (hscope : ListScope s t) (hwithin : Within bs s t)
    (hphase : Block.phase ∉ bs := by decide) (hroster : Block.roster ∉ bs := by decide) : Works s t :=
  (h.stays hscope hwithin hphase hroster).works

theorem withLink_works (s : State) (l : Link) : Works s (s.withLink l) :=
  (withLink_rises s l).works (withLink_scope s l) (withLink_within s l)

theorem withFreeCount_works (s : State) (n : Nat) : Works s (s.withFreeCount n) :=
  (withFreeCount_rises s n).works (withFreeCount_scope s n) (withFreeCount_within s n)

theorem membershipTakes_works_any (f : RxFrame) (s : State) : Works s (membershipTakes f s) :=
  ⟨membershipTakes_rises f s, membershipTakes_scope f s, membershipTakes_agreed f s⟩

theorem listTakes_works (f : RxFrame) (s : State) : Works s (listTakes f s) :=
  (listTakes_rises f s).works (listTakes_scope f s) (listTakes_reach f s).within

theorem recloseTakes_works (f : RxFrame) (s : State) : Works s (recloseTakes f s) :=
  (recloseTakes_reach f s).rises.works ((recloseTakes_reach f s).list.cond.scope_of_sublist (recloseTakes_sublist f s))
    (recloseTakes_reach f s).list.within

theorem windowTakes_works (f : RxFrame) (s : State) : Works s (windowTakes f s) := by
  unfold windowTakes
  split
  · split
    · exact (withStop_rises s _).works (withStop_scope s _) (withStop_within s _)
    · exact .refl s
  · exact .refl s

/-! ### Service -/

theorem clearCounts_agreed (s : State) (l : Link) (h : Agreed s) :
    Agreed ((s.withLink l).withRoster (s.roster.map Entry.clearCounts)) := by
  intro hp
  rintro ⟨x, hx, hmismatch⟩
  obtain ⟨y, hy, rfl⟩ := List.mem_map.1 hx
  exact h hp ⟨y, hy, hmismatch⟩

/-- A request works within its epoch, but for a RESET BUDGET at the coordinator, which starts a new one (R134). -/
theorem serveCode_works (code : Nat) (args : List Byte) (s : State) :
    Works s (serveCode code args s).state ∨ s.isCoordinator = true ∧ (serveCode code args s).state = newEpoch s := by
  unfold serveCode
  split
  · exact .inl (.refl s)
  · unfold serveReadList
    simp only
    split <;> exact .inl (.refl s)
  · unfold serveReadRoster
    repeat' split
    all_goals exact .inl (.refl s)
  · exact .inl (.refl s)
  · exact .inl (.refl s)
  · refine .inl ⟨(withLink_rises s { s.link with counters := .zero }).trans (withRoster_rises _ _), ?_,
      fun _ => clearCounts_agreed s { s.link with counters := .zero }⟩
    exact (withLink_scope s { s.link with counters := .zero }).trans
      (withRoster_scope _ _ (map_rank_of_keeps Entry.clearCounts (fun _ => rfl) s.roster))
  · exact .inl (.refl s)
  · unfold servePlaceHold
    simp only
    repeat' split
    · exact .inl (.refl s)
    · exact .inl (.refl s)
    · exact .inl ((placeHold_rises _ s).works (placeHold_scope _ s) (placeHold_reach _ s).within)
  · unfold serveReleaseHold
    repeat' split
    · exact .inl (.refl s)
    · exact .inl (.refl s)
    · exact .inl ((releaseHold_rises s).works (releaseHold_scope s) (releaseHold_reach s).within)
  · unfold serveClearTripped
    repeat' split
    · exact .inl (.refl s)
    · exact .inl (.refl s)
    · exact .inl (.refl s)
    · exact .inl (.refl s)
    · exact .inl ((clearCond_rises _ s).works (clearCond_scope _ s) (clearCond_within _ s))
  · unfold serveResetBudget
    split
    · exact .inl (.refl s)
    · rename_i hown
      split
      · exact .inl (.refl s)
      · exact .inr ⟨by simpa using hown, rfl⟩
  · exact .inl ⟨rises_of_same rfl rfl rfl rfl, ⟨rfl, rfl, rfl, .inl rfl, rfl, .refl _⟩, fun _ => agreed_of_same rfl rfl⟩
  · exact .inl (.refl s)

theorem serviceTakes_works (f : RxFrame) (s : State) :
    Works s (serviceTakes f s) ∨ s.isCoordinator = true ∧ ∃ l, serviceTakes f s = (newEpoch s).withLink l := by
  have hserve (p : List Byte) :
      Works s (serve p s).state ∨ s.isCoordinator = true ∧ (serve p s).state = newEpoch s := by
    unfold serve
    repeat' split
    · exact .inl (.refl s)
    · exact .inl (.refl s)
    · exact .inl (.refl s)
    · exact serveCode_works _ _ s
  unfold serviceTakes
  repeat' split
  · exact .inl (.refl s)
  · exact .inl (withLink_works s _)
  · rename_i payload _ _ _
    rcases hserve payload with h | ⟨hown, heq⟩
    · exact .inl (h.trans (withLink_works _ _))
    · exact .inr ⟨hown, _, congrArg (State.withLink · _) heq⟩
  · exact .inl (.refl s)

/-! ### A new epoch at most once -/

/-- What a command's operations leave of a station: its budget in the epoch, or at most once in a newer one (R131). -/
structure Turns (s t : State) : Prop where
  scope : ListScope s t
  subjects : t.conds.subjects = s.conds.subjects
  agrees : s.members.Nodup → Agreed s → Agreed t
  bound : s.budget.count ≤ countBound s.cfg.latchLimit → t.budget.count ≤ countBound s.cfg.latchLimit
  quiet : t.budget.quiet = s.budget.quiet ∨ t.budget.quiet = .stopped ∧ t.budget.epoch = s.budget.epoch + 1
  epoch : s.budget.joined = true →
    t.budget.joined = true ∧ (t.budget.epoch = s.budget.epoch ∨ newer t.budget.epoch s.budget.epoch = true)

theorem Works.turns {s t : State} (h : Works s t) : Turns s t := by
  obtain ⟨⟨_, hsubjects, hbudget, _⟩, hscope, hagrees⟩ := h
  exact ⟨hscope, hsubjects, hagrees, hbudget.bound, .inl hbudget.quiet, fun hj => ⟨hbudget.joined hj, .inl hbudget.epoch⟩⟩

theorem Works.then_turns {s t u : State} (h : Works s t) (g : Turns t u) : Turns s u := by
  obtain ⟨⟨hcfg, hsubjects, hbudget, _⟩, hscope, hagrees⟩ := h
  obtain ⟨gscope, gsubjects, gagrees, gbound, gquiet, gepoch⟩ := g
  rw [hcfg] at gbound
  rw [hbudget.quiet, hbudget.epoch] at gquiet
  rw [hbudget.epoch] at gepoch
  exact ⟨hscope.trans gscope, gsubjects.trans hsubjects, fun hn => gagrees (hscope.members ▸ hn) ∘ hagrees hn,
    gbound ∘ hbudget.bound, gquiet, gepoch ∘ hbudget.joined⟩

theorem Turns.then_works {s t u : State} (h : Turns s t) (g : Works t u) : Turns s u := by
  obtain ⟨⟨_, gsubjects, gbudget, _⟩, gscope, gagrees⟩ := g
  obtain ⟨hscope, hsubjects, hagrees, hbound, hquiet, hepoch⟩ := h
  refine ⟨hscope.trans gscope, gsubjects.trans hsubjects, fun hn => gagrees (hscope.members ▸ hn) ∘ hagrees hn,
    fun hs => hscope.cfg ▸ gbudget.bound (hscope.cfg ▸ hbound hs), ?_, fun hj => ?_⟩
  · rw [gbudget.quiet, gbudget.epoch]
    exact hquiet
  · rw [gbudget.epoch]
    exact (hepoch hj).imp gbudget.joined id

/-- The epoch after an epoch is newer (R125). -/
theorem newer_next (e : Byte) : newer (e + 1) e = true := by
  unfold newer
  rw [decide_eq_true_eq]
  bv_omega

/-- What changes nothing but the budget. -/
theorem turns_of_budget (s : State) (b : Budget)
    (hbound : s.budget.count ≤ countBound s.cfg.latchLimit → b.count ≤ countBound s.cfg.latchLimit)
    (hquiet : b.quiet = s.budget.quiet ∨ b.quiet = .stopped ∧ b.epoch = s.budget.epoch + 1)
    (hepoch : s.budget.joined = true →
      b.joined = true ∧ (b.epoch = s.budget.epoch ∨ newer b.epoch s.budget.epoch = true)) : Turns s (s.withBudget b) :=
  ⟨withBudget_scope s b, rfl, fun _ => agreed_of_same rfl rfl, hbound, hquiet, hepoch⟩

theorem newEpoch_turns (s : State) : Turns s (newEpoch s) :=
  turns_of_budget s _ (fun _ => Nat.zero_le _) (.inr ⟨rfl, rfl⟩) fun hj => ⟨hj, .inr (newer_next _)⟩

/-- A count taken is within the bound, and an epoch taken is newer, or the budget had not joined (R126, R129, R130). -/
theorem takeBeat_turns (limit : Nat) (e : Byte) (c : Nat) (b : Budget) :
    (b.count ≤ countBound limit → (b.takeBeat limit e c).count ≤ countBound limit) ∧
    (b.takeBeat limit e c).quiet = b.quiet ∧ (b.takeBeat limit e c).joined = true ∧
    (b.joined = true → (b.takeBeat limit e c).epoch = b.epoch ∨ newer (b.takeBeat limit e c).epoch b.epoch = true) := by
  have hbounded : boundCount limit c ≤ countBound limit := Nat.min_le_right _ _
  unfold Budget.takeBeat
  cases hj : b.joined with
  | false => exact ⟨fun _ => hbounded, rfl, rfl, fun h => absurd h (by decide)⟩
  | true =>
      simp only [Bool.not_true, Bool.false_eq_true, if_false]
      split
      · exact ⟨fun hb => Nat.max_le.2 ⟨hb, hbounded⟩, rfl, rfl, fun _ => .inl rfl⟩
      · split
        · rename_i hnew
          exact ⟨fun _ => hbounded, rfl, rfl, fun _ => .inr hnew⟩
        · exact ⟨id, rfl, hj, fun _ => .inl rfl⟩

theorem budgetTakes_turns (f : RxFrame) (s : State) : Turns s (budgetTakes f s) := by
  unfold budgetTakes
  split
  · rename_i b _
    split
    · obtain ⟨hbound, hquiet, hjoined, hepoch⟩ := takeBeat_turns s.cfg.latchLimit b.epoch b.count.toNat s.budget
      exact turns_of_budget s _ hbound (.inl hquiet) fun hj => ⟨hjoined, hepoch hj⟩
    · exact (Works.refl s).turns
  · exact (Works.refl s).turns

theorem serviceTakes_turns (f : RxFrame) (s : State) : Turns s (serviceTakes f s) := by
  rcases serviceTakes_works f s with h | ⟨_, l, e⟩
  · exact h.turns
  · rw [e]
    exact (newEpoch_turns s).then_works (withLink_works _ l)

/-! ### Frames -/

/-- In whatever order, one of the acts is run between some of the others and the rest of them. -/
theorem inAnyOrder_between {x : State → State} {acts others : List (State → State)} (hperm : acts.Perm (x :: others))
    (s : State) : ∃ pre post : List (State → State), ∃ n, (pre ++ post).Perm others ∧
      (inAnyOrder acts s = runAll post (x (runAll pre s)) ∨
        inAnyOrder acts s = (runAll post (x (runAll pre s))).withFreeCount n) := by
  obtain ⟨order, n, horder, heq⟩ := inAnyOrder_spec acts s
  have hx : x ∈ order := (horder.trans hperm).mem_iff.2 List.mem_cons_self
  obtain ⟨pre, post, rfl⟩ := List.append_of_mem hx
  refine ⟨pre, post, n, (List.perm_middle.symm.trans (horder.trans hperm)).cons_inv, ?_⟩
  rwa [runAll_append, runAll_cons] at heq

theorem runAll_works (acts : List (State → State)) (h : ∀ g ∈ acts, ∀ s, Works s (g s)) (s : State) :
    Works s (runAll acts s) :=
  runAll_keeps (Works s) acts (fun g hg t ht => ht.trans (h g hg t)) s (.refl s)

/-- The blocks that take a frame: one that may start a new epoch, and others that work within theirs. -/
theorem takers_split (f : RxFrame) : ∃ x others, (takers f).Perm (x :: others) ∧ (∀ s, Turns s (x s)) ∧
    ∀ g ∈ others, ∀ s, Works s (g s) := by
  have hm := membershipTakes_works_any f
  have hl := listTakes_works f
  have hr := recloseTakes_works f
  have hw := windowTakes_works f
  unfold takers
  split
  · refine ⟨budgetTakes f, [membershipTakes f, listTakes f, recloseTakes f], ?_, budgetTakes_turns f, by simp [hm, hl, hr]⟩
    exact (List.perm_middle (l₁ := [membershipTakes f, listTakes f]))
  · exact ⟨_, _, .refl _, fun s => (hm s).turns, by simp [hl, hw]⟩
  · exact ⟨_, _, .refl _, fun s => (hm s).turns, by simp [hr]⟩
  · exact ⟨_, _, .refl _, fun s => (hm s).turns, by simp [hr]⟩
  · exact ⟨_, _, .refl _, fun s => (hm s).turns, by simp [hr]⟩
  · exact ⟨_, _, .refl _, fun s => (hm s).turns, by simp [hr]⟩
  · exact ⟨_, _, .refl _, fun s => (hm s).turns, by simp [hr]⟩
  · exact ⟨_, _, .refl _, fun s => (hm s).turns, by simp [hr]⟩
  · exact ⟨_, _, .swap _ _ _, serviceTakes_turns f, by simp [hm]⟩
  · exact ⟨_, _, .refl _, fun s => (hm s).turns, by simp⟩

theorem frame_turns (f : RxFrame) (s : State) : Turns s (inAnyOrder (takers f) s) := by
  obtain ⟨x, others, hperm, hx, hothers⟩ := takers_split f
  obtain ⟨pre, post, n, hsplit, heq⟩ := inAnyOrder_between hperm s
  have hbefore : Works s (runAll pre s) :=
    runAll_works pre (fun g hg => hothers g (hsplit.subset (List.mem_append_left _ hg))) s
  have hafter : Works (x (runAll pre s)) (runAll post (x (runAll pre s))) :=
    runAll_works post (fun g hg => hothers g (hsplit.subset (List.mem_append_right _ hg))) _
  have hrun := (hbefore.then_turns (hx _)).then_works hafter
  rcases heq with e | e <;> rw [e]
  · exact hrun
  · exact hrun.then_works (withFreeCount_works _ n)

end Sys2Proof.Machine
end

section
/-!
SUPPORT. How every command and every step leaves the budget: within its reach, after its operations and closing checks, by a request
in HALTED, by a reset or by a load (R126 to R136, R197 to R205).
-/
namespace Sys2Proof.Machine

/-! ### Commands without closing checks -/

/-- The parts a command without closing checks reaches; the budget and all it watches are none of them. -/
def besideReach : List Block := [.meas, .beats, .link, .conds, .stop]

/-- From `s` to `t` only parts change that the budget does not watch. -/
structure Passes (s t : State) : Prop where
  within : Within besideReach s t
  subjects : t.conds.subjects = s.conds.subjects

theorem Passes.refl (s : State) : Passes s s := ⟨.refl _ s, rfl⟩

theorem Passes.trans {s t u : State} (h : Passes s t) (g : Passes t u) : Passes s u :=
  ⟨h.within.trans g.within, g.subjects.trans h.subjects⟩

theorem withLink_passes (s : State) (l : Link) : Passes s (s.withLink l) := ⟨(withLink_within s l).mono (by decide), rfl⟩

theorem releaseIfDone_passes (s : State) : Passes s (releaseIfDone s) :=
  ⟨(releaseIfDone_within s).mono (by decide), (releaseIfDone_rises s).subjects⟩

theorem Passes.works {s t : State} (h : Passes s t) : Works s t := by
  obtain ⟨hw, hsubjects⟩ := h
  have hcfg : t.cfg = s.cfg := hw.rest .cfg (by decide)
  have hphase : t.phase = s.phase := hw.rest .phase (by decide)
  have hroster : t.roster = s.roster := hw.rest .roster (by decide)
  have hload : t.load = s.load := hw.rest .load (by decide)
  have htrips : t.trips = s.trips := hw.rest .trips (by decide)
  refine (rises_of_same hcfg hsubjects (hw.rest .budget (by decide)) hphase).works ⟨hcfg, ?_, hw.rest .supply (by decide),
    .inl hphase, ?_, htrips ▸ .refl _⟩ hw
  · unfold State.rank
    rw [hload]
  · unfold State.members
    rw [hroster]

/-! ### Every command -/

/-- How a command leaves the budget of a station that it does not reset and that does not load. -/
inductive WorkOutcome (s t : State) : Prop
  | passed (h : Passes s t)
  | closed (hw : s.working = true) (u : State) (h : Turns s u) (ht : t = settle s u)
  | served (hp : s.phase = .HALTED) (h : Turns s t) (hmember : s.isCoordinator = false → Works s t)

/-- How a command leaves the budget. -/
inductive BudgetOutcome (s t : State) : Prop
  | worked (h : WorkOutcome s t)
  | reset (hp : t.phase = .LOADING) (hb : t.budget = Budget.reset)
  | loading (hs : s.supplyLow = true) (ht : t = beginLoading s)
  | loaded (i : LoadInputs) (ht : t = endLoading i s)

theorem WorkOutcome.refl (s : State) : WorkOutcome s s := .passed (.refl s)

/-- A command taken only at work, with its closing checks. -/
theorem BudgetOutcome.command {s u : State} {c : Prop} [Decidable c] (hc : c → s.working = true) (h : c → Works s u) :
    BudgetOutcome s (if c then settle s u else s) := by
  split
  · rename_i hyes
    exact .worked (.closed (hc hyes) u (h hyes).turns rfl)
  · exact .worked (.refl s)

/-- A command under its guard, without closing checks. -/
theorem Passes.command {s t : State} {c : Prop} [Decidable c] (h : Passes s t) : BudgetOutcome s (if c then t else s) := by
  split
  · exact .worked (.passed h)
  · exact .worked (.refl s)

/-- The budget does not watch the link. -/
theorem WorkOutcome.after_link {s t : State} (l : Link) (h : WorkOutcome (s.withLink l) t) : WorkOutcome s t := by
  have hlink := withLink_works s l
  cases h with
  | passed h => exact .passed ((withLink_passes s l).trans h)
  | closed hw u h ht => exact .closed hw u (hlink.then_turns h) ht
  | served hp h hmember => exact .served hp (hlink.then_turns h) fun hc => hlink.trans (hmember hc)

theorem count_outcome (s : State) (f : Counters → Counters) : WorkOutcome s (s.count f) := .passed (withLink_passes s _)

theorem distribute_outcome (f : RxFrame) (s : State) : WorkOutcome s (distribute f s) := by
  have key (hw : s.working = true) : WorkOutcome s (settle s (inAnyOrder (takers f) s)) :=
    .closed hw _ (frame_turns f s) rfl
  unfold distribute
  cases hp : s.phase with
  | LOADING => exact .refl s
  | HALTED =>
      refine .served hp (serviceTakes_turns f s) fun hmember => ?_
      rcases serviceTakes_works f s with h | ⟨hown, _⟩
      · exact h
      · exact absurd (hmember.symm.trans hown) (by decide)
  | FORMING => exact key (State.working_of_phase hp rfl)
  | OPERATING => exact key (State.working_of_phase hp rfl)
  | CONFINED => exact key (State.working_of_phase hp rfl)

theorem receive_outcome (f : RxFrame) (s : State) : WorkOutcome s (receive f s) := by
  unfold receive
  split
  · exact .refl s
  · split
    · exact (distribute_outcome f (s.count Counters.good)).after_link _
    · exact count_outcome s _

theorem mediumIdle_outcome (s : State) : WorkOutcome s (mediumIdle s) := by
  unfold mediumIdle
  split
  · exact .refl s
  · refine WorkOutcome.after_link s.link.goIdle ?_
    generalize s.withLink s.link.goIdle = u
    unfold judgeEnded
    repeat' split
    · exact .refl u
    · exact count_outcome u _
    · exact .refl u
    · exact count_outcome u _
    · exact count_outcome u _
    · exact .refl u
    · exact receive_outcome _ u

theorem replyLeft_budget {s u : State} (h : Passes s u) : BudgetOutcome s (replyLeft u) := by
  unfold replyLeft
  split
  · exact .reset rfl rfl
  · exact .worked (.passed h)

theorem collided_budget {s u : State} (k : TxClass) (f : TxFrame) (h : Passes s u) : BudgetOutcome s (collided k f u) := by
  have hcount := h.trans (withLink_passes u { u.link with counters := u.link.counters.collided })
  unfold collided
  simp only
  split
  · exact .worked (.passed (hcount.trans (withLink_passes _ _)))
  · split
    · exact replyLeft_budget ((hcount.trans (withLink_passes _ _)).trans (withLink_passes _ _))
    · exact .worked (.passed ((hcount.trans (withLink_passes _ _)).trans (withLink_passes _ _)))

theorem reportSent_budget {s u : State} (k : TxClass) (f : TxFrame) (h : Passes s u) :
    BudgetOutcome s (reportSent k f u) := by
  unfold reportSent
  split
  · have hstop : Passes u (u.withStop { u.stop with confirmed := true }) := ⟨(withStop_within u _).mono (by decide), rfl⟩
    exact .worked (.passed ((h.trans hstop).trans (releaseIfDone_passes _)))
  · split
    · exact replyLeft_budget h
    · exact .worked (.passed h)

theorem withStop_works (s : State) (l : StopLine) : Works s (s.withStop l) :=
  (withStop_rises s l).works (withStop_scope s l) (withStop_within s l)

theorem withMeas_works (s : State) (m : Meas) : Works s (s.withMeas m) :=
  (withMeas_rises s m).works (withMeas_scope s m) (withMeas_within s m)

theorem withReclose_works (s : State) (r : Reclose) : Works s (s.withReclose r) :=
  (withReclose_rises s r).works (withReclose_scope s r) (withReclose_within s r)

theorem tripShort_works (s : State) : Works s (tripShort s) :=
  (tripShort_rises s).works (tripShort_scope s) (tripShort_reach s).within

theorem clearCond_works (id : CondId) (s : State) : Works s (clearCond id s) :=
  (clearCond_rises id s).works (clearCond_scope id s) (clearCond_within id s)

theorem switchEvent_works (p : Path) (out : Switch × Bool) (s : State) : Works s (switchEvent p out s) :=
  (switchEvent_rises p out s).works (switchEvent_scope p out s) (switchEvent_within p out s)

theorem unexplainedReport_works (s : State) : Works s (unexplainedReport s) :=
  (unexplainedReport_rises s).works (unexplainedReport_scope s) (unexplainedReport_within s)

theorem entryLost_works (r : Nat) (s : State) (h : r ∈ s.members) : Works s (entryLost r s) :=
  ⟨entryLost_rises r s, entryLost_scope r s h, fun _ _ => phaseChecks_agreed _⟩

theorem formationExpired_works (s : State) : Works s (formationExpired s) :=
  ⟨formationExpired_rises s, formationExpired_scope s, fun _ => formationExpired_agreed s⟩

/-- What every command does to the budget. -/
theorem exec_budget (c : Instr) (s : State) : ∃ t, exec c s = .next t ∧ BudgetOutcome s t := by
  cases c
  case supplyReset => exact ⟨_, rfl, .reset rfl rfl⟩
  case supplyResetEnd =>
    refine ⟨_, rfl, ?_⟩
    split
    · rename_i hlow
      exact .loading hlow rfl
    · exact .worked (.refl s)
  case loadingEnd i => exact ⟨_, rfl, .loaded i rfl⟩
  case checkIntervalExpiry => exact ⟨_, rfl, Passes.command ⟨(withMeas_within s _).mono (by decide), rfl⟩⟩
  case scanResult m =>
    exact ⟨_, rfl, .command id fun _ => (withMeas_works s _).trans
      ((evaluateScan_rises _ _).works (evaluateScan_scope _ _) (reportEvaluated_within _ _))⟩
  case currentSample x =>
    exact ⟨_, rfl, .command id fun _ => (withMeas_works s _).trans
      ((evaluateSample_rises _ _).works (evaluateSample_scope _ _) (reportEvaluated_within _ _))⟩
  case comparatorAssertion x =>
    exact ⟨_, rfl, .command (·.1) fun _ => (withMeas_works s _).trans
      ((shortAsserted_rises _).works (shortAsserted_scope _) (shortAsserted_reach _).within)⟩
  case comparatorRelease x =>
    exact ⟨_, rfl, .command (·.1) fun _ => (withMeas_works s _).trans
      ((shortReleased_rises _).works (shortReleased_scope _) (shortReleased_within _))⟩
  case shortDelayExpiry => exact ⟨_, rfl, .command (·.1) fun _ => tripShort_works s⟩
  case recoveryTimerExpiry k => exact ⟨_, rfl, .command (·.1) fun _ => clearCond_works _ s⟩
  case releaseTimerExpiry => exact ⟨_, rfl, .command (·.1) fun _ => clearCond_works _ s⟩
  case beatPeriodEvent =>
    exact ⟨_, rfl, .command id fun _ => (beatPeriod_rises s).works (beatPeriod_scope s) (beatPeriod_within s)⟩
  case haltedBeat =>
    exact ⟨_, rfl, Passes.command ⟨((placeBeat_within _ s).trans ((withBeats_within _ _).mono (by decide))).mono (by decide), rfl⟩⟩
  case silenceTimerExpiry r =>
    refine ⟨_, rfl, ?_⟩
    split
    · rename_i e he
      exact .command (·.1) fun _ => entryLost_works r s (mem_members_of_entry r e s he)
    · exact .worked (.refl s)
  case formationTimeout => exact ⟨_, rfl, .command (·.1) fun _ => formationExpired_works s⟩
  case holdOffExpiry p =>
    exact ⟨_, rfl, .command (·.1) fun _ => withReclose_works s _⟩
  case windowTimerExpiry =>
    exact ⟨_, rfl, .command id fun _ =>
      (windowExpired_reach s).rises.works (windowExpired_scope s) (windowExpired_within s)⟩
  case listFullTimerExpiry =>
    exact ⟨_, rfl, .command (·.1) fun _ =>
      (withTrips_rises s _).works ⟨rfl, rfl, rfl, .inl rfl, rfl, .refl _⟩ (withTrips_within s _)⟩
  case quietTimerExpiry =>
    refine ⟨_, rfl, ?_⟩
    split
    · rename_i h
      exact .worked (.closed h.1 _ (newEpoch_turns s) rfl)
    · exact .worked (.refl s)
  case feedbackOn p => exact ⟨_, rfl, .command id fun _ => switchEvent_works p _ s⟩
  case feedbackOff p => exact ⟨_, rfl, .command id fun _ => switchEvent_works p _ s⟩
  case closeLimitExpiry p => exact ⟨_, rfl, .command id fun _ => switchEvent_works p _ s⟩
  case openLimitExpiry p => exact ⟨_, rfl, .command id fun _ => switchEvent_works p _ s⟩
  case stopLineGoingAsserted =>
    exact ⟨_, rfl, .command id fun _ =>
      (lineAsserted_rises false s).works (lineAsserted_scope false s) (lineAsserted_within false s)⟩
  case stopLineGoingReleased =>
    exact ⟨_, rfl, .command id fun _ => (withStop_works s _).trans
      ((setReleaseTimer_rises _ _).works (setReleaseTimer_scope _ _) (setReleaseTimer_within _ _))⟩
  case minimumTimerExpiry =>
    have hstop : Passes s (s.withStop { s.stop with minTimer := .expired }) :=
      ⟨(withStop_within s _).mono (by decide), rfl⟩
    exact ⟨_, rfl, Passes.command (hstop.trans (releaseIfDone_passes _))⟩
  case driverLimitExpiry =>
    exact ⟨_, rfl, Passes.command ⟨(releaseLine_within s).mono (by decide),
      ((withStop_rises s s.stop.release).trans (shortSettles_rises _)).subjects⟩⟩
  case explanationWindowExpiry =>
    exact ⟨_, rfl, .command (·.1) fun _ => (withStop_works s _).trans (unexplainedReport_works _)⟩
  case stuckTimerExpiry =>
    exact ⟨_, rfl, .command (·.1) fun _ => (withStop_works s _).trans (unexplainedReport_works _)⟩
  case mediumIdle => exact ⟨_, rfl, .worked (mediumIdle_outcome s)⟩
  case frameStart =>
    refine ⟨_, rfl, ?_⟩
    split
    · exact Passes.command (withLink_passes s _)
    · exact .worked (.refl s)
  case collision matched echo =>
    refine ⟨_, rfl, ?_⟩
    split
    · exact .worked (.refl s)
    · simp only
      split
      · exact .worked (.refl s)
      · split
        · exact .worked (.refl s)
        · exact collided_budget _ _ (withLink_passes s _)
  case frameSent =>
    refine ⟨_, rfl, ?_⟩
    split
    · exact .worked (.refl s)
    · exact reportSent_budget _ _ (withLink_passes s _)
  case characterReceived e =>
    refine ⟨_, rfl, ?_⟩
    split
    · exact .worked (.refl s)
    · exact .worked (.passed (withLink_passes s _))
  all_goals exact ⟨_, rfl, .worked (receive_outcome _ s)⟩

/-- A step is a command on the rest of the queue, or one microsecond (log entries 5 and 23). -/
theorem step_budget {s t : State} (h : step s = .next t) :
    t = s.tick ∨ ∃ rest, BudgetOutcome { s with pending := rest } t := by
  unfold step at h
  split at h
  · exact .inl (by simpa using h.symm)
  · rename_i c rest _
    obtain ⟨u, hu, ho⟩ := exec_budget c { s with pending := rest }
    obtain rfl : t = u := by simpa [hu] using h.symm
    exact .inr ⟨rest, ho⟩

/-! ### The end of LOADING -/

/-- A block that passes its checks is within its ranges and relations (R197, R200). -/
theorem haltCauseOf_checks (b : List Byte) (rank : Nat) (h : haltCauseOf b rank = 0) :
    (Cfg.ofBlock b).rangesOk = true ∧ (Cfg.ofBlock b).relationsOk = true := by
  unfold haltCauseOf at h
  repeat' split at h
  · exact absurd h (by decide)
  · exact absurd h (by decide)
  · exact absurd h (by decide)
  · rename_i hok _
    simp only [Bool.not_eq_true', Bool.not_eq_false, Bool.and_eq_true] at hok
    obtain ⟨⟨hranges, _⟩, hrelations⟩ := hok
    exact ⟨hranges, hrelations⟩

theorem withFreeCount_stays (s : State) (n : Nat) : Stays s (s.withFreeCount n) :=
  (withFreeCount_rises s n).stays (withFreeCount_scope s n) (withFreeCount_within s n)

theorem startRun_stays (shunt : Int) (s : State) : Stays s (startRun shunt s) := by
  have hmeas (u : State) (m : Meas) : Stays u (u.withMeas m) :=
    (withMeas_rises u m).stays (withMeas_scope u m) (withMeas_within u m)
  have hstart : Stays s ((startScan s).withMeas { (startScan s).meas with
      sampleTimer := .running 250, sum := 0, number := 0, comparator := comparatorRises s.cfg shunt }) :=
    (hmeas s _).trans (hmeas _ _)
  unfold startRun
  simp only
  split
  · exact hstart.trans ((shortAsserted_rises _).stays (shortAsserted_scope _) (shortAsserted_reach _).within)
  · exact hstart

theorem readStopLine_stays (asserted : Bool) (s : State) : Stays s (readStopLine asserted s) := by
  unfold readStopLine
  split
  · exact (lineAsserted_rises true s).stays (lineAsserted_scope true s) (lineAsserted_within true s)
  · exact .refl s

theorem readFeedback_stays (i : LoadInputs) (s : State) : Stays s (readFeedback i s) := by
  have hmove (b : Bool) (p : Path) (u : State) : Stays u (if b then moveSwitch p (u.switch p).feedbackOn u else u) := by
    have hreach := moveSwitch_reach p (u.switch p).feedbackOn u
    split
    · exact hreach.rises.stays (hreach.list.cond.scope_of_sublist (moveSwitch_sublist p _ u)) hreach.list.within
    · exact .refl u
  exact (hmove i.feedbackCharge .charge s).trans (hmove i.feedbackDischarge .discharge _)

/-- The end of LOADING forms a station only on a configuration within its ranges (R200); the start of the blocks leaves phase and roster. -/
theorem endLoading_stays (i : LoadInputs) (s : State) : endLoading i s = s ∨ s.phase = .LOADING ∧ s.supplyLow = false ∧
    ∃ l : Load, endLoading i s = enterHalted l (s.withStore (s.store.read i.block)) ∨
      ∃ c : Cfg, c.rangesOk = true ∧ c.relationsOk = true ∧ l.strap.toNat + 1 ≤ c.memberCount ∧
        Stays (enterForming c l (s.withStore (s.store.read i.block))) (endLoading i s) := by
  unfold endLoading
  split
  · rename_i hphase
    refine .inr ⟨hphase.1, hphase.2, loaded (s.store.read i.block).block.toList i.strap, ?_⟩
    simp only
    split
    · exact .inl rfl
    · rename_i hcause
      have hcause : haltCauseOf (s.store.read i.block).block.toList (i.strap.toNat + 1) = 0 := Decidable.not_not.1 hcause
      obtain ⟨hranges, hrelations⟩ := haltCauseOf_checks _ _ hcause
      refine .inr ⟨Cfg.ofBlock (s.store.read i.block).block.toList, hranges, hrelations,
        (haltCauseOf_passes _ _ hcause).2, ?_⟩
      refine inAnyOrder_keeps (Stays _) _ (fun t n h => h.trans (withFreeCount_stays t n)) (fun g hg t h => h.trans ?_) _
        (.refl _)
      simp only [List.mem_cons, List.not_mem_nil, or_false] at hg
      rcases hg with rfl | rfl | rfl
      · exact startRun_stays _ t
      · exact readStopLine_stays _ t
      · exact readFeedback_stays i t
  · exact .inl rfl

end Sys2Proof.Machine
end

section
/-!
SUPPORT. The proof that a joined budget's epoch never becomes older (R131).
-/
namespace Sys2Proof.Machine

/-- The epoch of the budget `b` is that of `a`, or newer. -/
def Budget.NotOlder (a b : Budget) : Prop :=
  b.epoch = a.epoch ∨ 1 ≤ (b.epoch - a.epoch).toNat ∧ (b.epoch - a.epoch).toNat ≤ 127

theorem Turns.notOlder {s t : State} (h : Turns s t) (hj : s.budget.joined = true) : s.budget.NotOlder t.budget := by
  rcases (h.epoch hj).2 with e | hnew
  · exact .inl e
  · exact .inr (of_decide_eq_true hnew)

theorem Works.notOlder {s t : State} (h : Works s t) : s.budget.NotOlder t.budget := .inl h.budget.epoch

/-- The closing checks keep the epoch. -/
theorem notOlder_settle {b s t : State} (h : s.budget.NotOlder t.budget) : s.budget.NotOlder (settle b t).budget := by
  unfold Budget.NotOlder
  rw [settle_budget_epoch]
  exact h

theorem WorkOutcome.notOlder {s t : State} (h : WorkOutcome s t) (hj : s.budget.joined = true) :
    s.budget.NotOlder t.budget := by
  cases h with
  | passed h => exact h.works.notOlder
  | closed _ u h ht => exact ht ▸ notOlder_settle (h.notOlder hj)
  | served _ h _ => exact h.notOlder hj

theorem endLoading_notOlder (i : LoadInputs) (s : State) : s.budget.NotOlder (endLoading i s).budget := by
  rcases endLoading_stays i s with e | ⟨_, _, l, e | ⟨_, _, _, _, h⟩⟩
  · exact .inl (by rw [e])
  · exact .inl (by rw [e]; rfl)
  · exact h.works.notOlder

theorem BudgetOutcome.notOlder {s t : State} (h : BudgetOutcome s t) (hj : s.budget.joined = true) :
    t.budget.joined = false ∧ t.phase = .LOADING ∨ s.budget.NotOlder t.budget := by
  cases h with
  | worked h => exact .inr (h.notOlder hj)
  | reset hp hb => exact .inl ⟨hb ▸ rfl, hp⟩
  | loading _ ht => exact .inr (.inl (ht ▸ rfl))
  | loaded i ht => exact .inr (ht ▸ endLoading_notOlder i s)

/-- Settles O58: a command merges one beat or starts one new epoch, which is newer than the epoch held, and else keeps the epoch
or resets the budget. -/
theorem epochNeverOlder : Obligations.EpochNeverOlder := by
  intro s t hjoined hstep
  rcases step_budget hstep with rfl | ⟨rest, h⟩
  · exact .inr (.inl rfl)
  · exact h.notOlder hjoined

end Sys2Proof.Machine
end

section
/-!
SUPPORT. The proof that every step keeps what a load leaves, the budget within its bound, and the quiet timer to its four conditions
(R28, R73, R91, R93, R94, R126, R132, R136, R200, R201, R203).
-/
namespace Sys2Proof.Machine

/-! ### What a load leaves for good -/

theorem ListScope.resetIsLoading {s t : State} (h : ListScope s t) (hs : ResetIsLoading s) : ResetIsLoading t := by
  intro hlow
  have hp := hs (h.supply ▸ hlow)
  rcases h.phase with e | ⟨hw, _⟩
  · exact e.trans hp
  · exact absurd (hw.symm.trans (not_working_of_loading hp)) (by decide)

theorem not_working_of_halted {s : State} (h : s.phase = .HALTED) : s.working = false := by
  simp [State.working, h, Phase.working]

/-- Out of work a scope leaves the phase. -/
theorem ListScope.phase_of_idle {s t : State} (h : ListScope s t) (ht : t.working = false) : t.phase = s.phase := by
  rcases h.phase with e | ⟨_, hw⟩
  · exact e
  · exact absurd (hw.symm.trans ht) (by decide)

theorem roster_of_members {s t : State} (h : t.members = s.members) (hs : s.roster = []) : t.roster = [] := by
  have hempty : t.members = [] := by
    rw [h]
    unfold State.members
    rw [hs]
    rfl
  exact List.map_eq_nil_iff.1 hempty

/-- Work that keeps the subjects of MEMBER LOST, and agreement on a roster of different ranks, keeps the station formed. -/
theorem Formed.of_scope {s t : State} (h : Formed s) (hscope : ListScope s t) (hsubjects : t.conds.subjects = s.conds.subjects)
    (hagrees : s.members.Nodup → Agreed s → Agreed t) : Formed t := by
  obtain ⟨hreset, hhalted, hwork, hmatched⟩ := id h
  have hagreed : Agreed s := fun hp ⟨e, he, hno⟩ => hmatched hp e he hno
  refine ⟨hscope.resetIsLoading hreset, fun hp => ?_, fun hw => ?_, fun hp e he hno => ?_⟩
  · have hphase := hscope.phase_of_idle (not_working_of_halted hp)
    exact roster_of_members hscope.members (hhalted (hphase ▸ hp))
  · rw [hscope.cfg, hscope.rank]
    obtain ⟨hranges, hrelations, hrank, hranks, hlost⟩ := hwork (hscope.working ▸ hw)
    exact ⟨hranges, hrelations, hrank, hscope.members.trans hranks, hsubjects.trans hlost⟩
  · have hw : s.working = true := hscope.working ▸ State.working_of_phase hp rfl
    obtain ⟨hnodup, _⟩ := h.members hw
    exact hagrees hnodup hagreed hp ⟨e, he, hno⟩

theorem Works.formed {s t : State} (h : Works s t) (hs : Formed s) : Formed t := hs.of_scope h.scope h.subjects h.agrees

theorem Turns.formed {s t : State} (h : Turns s t) (hs : Formed s) : Formed t := hs.of_scope h.scope h.subjects h.agrees

theorem formed_settle (b : State) {s : State} (h : Formed s) : Formed (settle b s) :=
  h.of_scope (settle_scope b s) (congrArg Conds.subjects (settle_conds b s)) fun _ =>
    agreed_of_same (settle_phase b s) (settle_roster b s)

theorem formed_of_loading {s : State} (h : s.phase = .LOADING) : Formed s :=
  ⟨fun _ => h, fun hp => absurd (h.symm.trans hp) (by decide),
    fun hw => absurd ((not_working_of_loading h).symm.trans hw) (by decide), fun hp => absurd (h.symm.trans hp) (by decide)⟩

theorem WorkOutcome.formed {s t : State} (h : WorkOutcome s t) (hs : Formed s) : Formed t := by
  cases h with
  | passed h => exact h.works.formed hs
  | closed _ u h ht => exact ht ▸ formed_settle s (h.formed hs)
  | served _ h _ => exact h.formed hs

/-- A load that passes its checks forms the station (R28, R73, R200). -/
theorem enterForming_formed (c : Cfg) (l : Load) (s : State) (hranges : c.rangesOk = true) (hrelations : c.relationsOk = true)
    (hrank : l.strap.toNat + 1 ≤ c.memberCount) (hlow : s.supplyLow = false) : Formed (enterForming c l s) := by
  refine ⟨fun h => absurd (hlow.symm.trans h) (by decide), fun h => Phase.noConfusion h, fun _ => ?_,
    fun h => Phase.noConfusion h⟩
  refine ⟨hranges, hrelations, hrank, formRoster_ranks _ _ _, ?_⟩
  show ((rosterRanks c.memberCount (l.strap.toNat + 1)).map fun r => { subject := r, cond := .quiet : LostCond }).map
    (·.subject) = rosterRanks c.memberCount (l.strap.toNat + 1)
  rw [List.map_map]
  exact List.map_id _

theorem endLoading_formed (i : LoadInputs) (s : State) (hs : Formed s) : Formed (endLoading i s) := by
  rcases endLoading_stays i s with e | ⟨_, hlow, l, e | ⟨c, hranges, hrelations, hrank, h⟩⟩
  · rw [e]
    exact hs
  · rw [e]
    exact ⟨fun h => absurd (hlow.symm.trans h) (by decide), fun _ => rfl, fun h => Bool.noConfusion h,
      fun h => Phase.noConfusion h⟩
  · exact h.works.formed (enterForming_formed c l _ hranges hrelations hrank hlow)

theorem BudgetOutcome.formed {s t : State} (h : BudgetOutcome s t) (hs : Formed s) : Formed t := by
  cases h with
  | worked h => exact h.formed hs
  | reset hp _ => exact formed_of_loading hp
  | loading _ ht => exact ht ▸ formed_of_loading rfl
  | loaded i ht => exact ht ▸ endLoading_formed i s hs

/-- One microsecond moves timers alone (log entry 5). -/
theorem tick_scope (s : State) : ListScope s s.tick :=
  ⟨rfl, rfl, rfl, .inl rfl, map_rank_of_keeps (fun e => { e with silence := e.silence.tick }) (fun _ => rfl) s.roster, .refl _⟩

theorem tick_agreed (s : State) (h : Agreed s) : Agreed s.tick := by
  intro hp ⟨x, hx, hmismatch⟩
  obtain ⟨y, hy, rfl⟩ := List.mem_map.1 hx
  exact h hp ⟨y, hy, hmismatch⟩

theorem step_formed {s t : State} (hstep : step s = .next t) (hs : Formed s) : Formed t := by
  rcases step_budget hstep with rfl | ⟨rest, h⟩
  · exact hs.of_scope (tick_scope s) rfl fun _ => tick_agreed s
  · exact h.formed hs

/-! ### The bound of the count (R126, R136) -/

/-- The budget that a station out of work holds. -/
def Budget.Blank (b : Budget) : Prop := b.epoch = 0 ∧ b.count = 0 ∧ b.joined = false

theorem Budget.Blank.bound {b : Budget} (h : b.Blank) (n : Nat) : b.count ≤ n := by
  obtain ⟨_, hcount, _⟩ := h
  exact hcount ▸ Nat.zero_le n

/-- The count is within its bound, and the budget blank out of work. -/
def CountBounded (s : State) : Prop :=
  s.budget.count ≤ countBound s.cfg.latchLimit ∧ (s.working = false → s.budget.Blank)

theorem Works.countBounded {s t : State} (h : Works s t) (hs : CountBounded s) : CountBounded t := by
  obtain ⟨⟨hcfg, _, hbudget, hstill⟩, hscope, _⟩ := h
  refine ⟨hcfg ▸ hbudget.bound hs.1, fun ht => ?_⟩
  have hne {p : Phase} (hp : p.working = true) : t.phase ≠ p := fun e =>
    absurd ((State.working_of_phase e hp).symm.trans ht) (by decide)
  rw [(hstill (hne rfl) (hne rfl)).2]
  exact hs.2 (hscope.working ▸ ht)

theorem not_coordinator_of_halted {s : State} (hp : s.phase = .HALTED) (hroster : s.roster = []) :
    s.isCoordinator = false := by
  simp [State.isCoordinator, State.coordinator, State.candidates, hp, hroster, lowestRank]

theorem WorkOutcome.countBounded {s t : State} (h : WorkOutcome s t) (hformed : Formed s) (hs : CountBounded s) :
    CountBounded t := by
  cases h with
  | passed h => exact h.works.countBounded hs
  | closed hw u h ht =>
      subst ht
      refine ⟨?_, fun hidle => ?_⟩
      · rw [settle_budget_count, settle_cfg, h.scope.cfg]
        exact h.bound hs.1
      · exact absurd (((h.scope.settle s).working.trans hw).symm.trans hidle) (by decide)
  | served hp _ hmember =>
      obtain ⟨_, hhalted, _⟩ := hformed
      exact (hmember (not_coordinator_of_halted hp (hhalted hp))).countBounded hs

theorem countBounded_of_blank {s : State} (h : s.budget.Blank) : CountBounded s := ⟨h.bound _, fun _ => h⟩

theorem endLoading_countBounded (i : LoadInputs) (s : State) (hs : CountBounded s) : CountBounded (endLoading i s) := by
  rcases endLoading_stays i s with e | ⟨hp, _, l, e | ⟨c, _, _, _, h⟩⟩
  · rw [e]
    exact hs
  · exact e ▸ countBounded_of_blank (hs.2 (not_working_of_loading hp))
  · have hblank := hs.2 (not_working_of_loading hp)
    exact h.works.countBounded (countBounded_of_blank hblank)

theorem BudgetOutcome.countBounded {s t : State} (h : BudgetOutcome s t) (hformed : Formed s) (hs : CountBounded s) :
    CountBounded t := by
  cases h with
  | worked h => exact h.countBounded hformed hs
  | reset _ hb => exact countBounded_of_blank (hb ▸ ⟨rfl, rfl, rfl⟩)
  | loading hlow ht =>
      obtain ⟨hreset, _⟩ := hformed
      exact ht ▸ countBounded_of_blank (hs.2 (not_working_of_loading (hreset hlow)))
  | loaded i ht => exact ht ▸ endLoading_countBounded i s hs

theorem step_countBounded {s t : State} (hstep : step s = .next t) (hformed : Formed s) (hs : CountBounded s) :
    CountBounded t := by
  rcases step_budget hstep with rfl | ⟨rest, h⟩
  · exact hs
  · exact h.countBounded hformed hs

/-! ### The quiet timer (R132) -/

/-- The four conditions of R132 at a working station. -/
def QuietRuns (s : State) : Prop :=
  s.working = true ∧ s.coordinator = some s.rank ∧ 0 < s.budget.count ∧ s.packClosed .charge = true ∧
    s.packClosed .discharge = true ∧ ∀ r ∈ s.trips.records, r.kind.currentClass = false

theorem quietHolds_iff {s : State} (hw : s.working = true) : s.quietHolds = true ↔ QuietRuns s := by
  simp [State.quietHolds, State.isCoordinator, QuietRuns, hw, and_assoc]

/-- The conditions are told by the inputs of the start test and the rank. -/
theorem quietRuns_of_inputs {s t : State} (hrank : t.rank = s.rank) (h : s.startInputs = t.startInputs) :
    QuietRuns t ↔ QuietRuns s := by
  have hphase : s.phase = t.phase := congrArg StartInputs.phase h
  have hcoordinator : s.coordinator = t.coordinator := congrArg StartInputs.coordinator h
  have hcount : s.budget.count = t.budget.count := congrArg StartInputs.count h
  have hcharge : s.packClosed .charge = t.packClosed .charge := congrArg StartInputs.packCharge h
  have hdischarge : s.packClosed .discharge = t.packClosed .discharge := congrArg StartInputs.packDischarge h
  have hrecords : s.trips.records = t.trips.records := congrArg StartInputs.records h
  unfold QuietRuns
  rw [hrank, working_congr hphase, hcoordinator, hcount, hcharge, hdischarge, hrecords]

/-- The conditions look at phase, rank, roster, switches, records and count alone. -/
theorem quietRuns_congr {s t : State} (hphase : t.phase = s.phase) (hload : t.load = s.load) (hroster : t.roster = s.roster)
    (hcharge : t.charge = s.charge) (hdischarge : t.discharge = s.discharge) (htrips : t.trips = s.trips)
    (hcount : t.budget.count = s.budget.count) : QuietRuns t ↔ QuietRuns s := by
  have hrank : t.rank = s.rank := congrArg (fun l : Load => l.strap.toNat + 1) hload
  have hcoordinator : t.coordinator = s.coordinator := by
    unfold State.coordinator State.candidates
    rw [hphase, hrank, hroster]
  have hpack (p : Path) : t.packClosed p = s.packClosed p := by
    cases p <;> simp only [State.packClosed, State.switch, hroster, hcharge, hdischarge]
  unfold QuietRuns
  rw [working_congr hphase, hcoordinator, hrank, hcount, hpack, hpack, htrips]

theorem quietRuns_settle (b s : State) : QuietRuns (settle b s) ↔ QuietRuns s :=
  quietRuns_congr (settle_phase b s) (settle_load b s) (settle_roster b s) (settle_charge b s) (settle_discharge b s)
    (settle_trips b s) (settle_budget_count b s)

/-- The quiet timer as the closing checks leave it where an input changed (R132). -/
def State.quietTested (s : State) : Timer :=
  if s.quietHolds then if s.budget.quiet.isRunning then s.budget.quiet else .running s.cfg.quietTimeUs else .stopped

theorem quietRetest_quiet (s : State) : (quietRetest s).budget.quiet = s.quietTested := by
  unfold quietRetest State.quietTested
  split
  · split <;> rfl
  · rfl

theorem packEdge_quietTested (b : State) (p : Path) (s : State) : (packEdge b p s).quietTested = s.quietTested := by
  unfold packEdge
  split <;> rfl

theorem settle_quiet (b s : State) :
    (settle b s).budget.quiet = if b.startInputs = s.startInputs then s.budget.quiet else s.quietTested := by
  unfold settle
  split
  · rfl
  · rw [startTest_budget, quietRetest_quiet, packEdge_quietTested, packEdge_quietTested]

/-- The quiet timer runs while its conditions hold. -/
def TimerTold (s : State) : Prop := s.budget.quiet.isRunning = true ↔ QuietRuns s

/-- The quiet timer is told by its conditions, and where it was stopped it is so or starts from the full quiet time. -/
structure TimerKept (s t : State) : Prop where
  told : TimerTold t
  full : s.budget.quiet = .stopped → t.budget.quiet = .stopped ∨ t.budget.quiet = .running (t.cfg.quietTime * 1000000)

theorem stopped_of_not_running {t : Timer} (h : t.isRunning = false) : t = .stopped := by
  cases t with
  | stopped => rfl
  | running n => exact absurd h (by simp [Timer.isRunning])

theorem TimerKept.of_stopped {s t : State} (hquiet : t.budget.quiet.isRunning = false) (h : ¬ QuietRuns t) : TimerKept s t :=
  ⟨by unfold TimerTold; simp [hquiet, h], fun _ => .inl (stopped_of_not_running hquiet)⟩

theorem not_quietRuns_of_idle {s : State} (h : s.working = false) : ¬ QuietRuns s :=
  fun hq => absurd (h.symm.trans hq.1) (by decide)

theorem TimerTold.stopped_of_idle {s : State} (h : TimerTold s) (hw : s.working = false) :
    s.budget.quiet.isRunning = false := by
  cases hrun : s.budget.quiet.isRunning with
  | false => rfl
  | true => exact absurd (h.1 hrun) (not_quietRuns_of_idle hw)

theorem TimerKept.of_same {s t : State} (hs : TimerTold s) (hquiet : t.budget.quiet = s.budget.quiet)
    (hruns : QuietRuns t ↔ QuietRuns s) : TimerKept s t := by
  refine ⟨?_, fun h => .inl (hquiet.trans h)⟩
  unfold TimerTold
  rw [hquiet, hruns]
  exact hs

/-- The closing checks retest the timer (R132). -/
theorem quietTested_running (s : State) (hw : s.working = true) : s.quietTested.isRunning = true ↔ QuietRuns s := by
  rw [← quietHolds_iff hw]
  unfold State.quietTested
  split <;> rename_i hholds
  · split <;> rename_i hrun
    · simp [hrun, hholds]
    · simp [Timer.isRunning, hholds]
  · simp [Timer.isRunning, hholds]

theorem quietTested_full (s : State) (h : s.budget.quiet = .stopped) :
    s.quietTested = .stopped ∨ s.quietTested = .running (s.cfg.quietTime * 1000000) := by
  unfold State.quietTested
  rw [h]
  split
  · exact .inr rfl
  · exact .inl rfl

/-- The closing checks of a command that kept the timer, or stopped it at a new epoch. -/
theorem Turns.timerKept {s u : State} (h : Turns s u) (hw : s.working = true) (hs : TimerTold s) :
    TimerKept s (settle s u) := by
  have huw : u.working = true := h.scope.working.trans hw
  by_cases hinputs : s.startInputs = u.startInputs
  · have hepoch : s.budget.epoch = u.budget.epoch := congrArg StartInputs.epoch hinputs
    have hquiet : u.budget.quiet = s.budget.quiet := by
      rcases h.quiet with e | ⟨_, e⟩
      · exact e
      · rw [hepoch] at e
        exact absurd e (by bv_omega)
    rw [settle_same s u hinputs]
    exact .of_same hs hquiet (quietRuns_of_inputs h.scope.rank hinputs)
  · have hquiet : (settle s u).budget.quiet = u.quietTested := by rw [settle_quiet, if_neg hinputs]
    refine ⟨?_, fun hstopped => ?_⟩
    · unfold TimerTold
      rw [hquiet, quietRuns_settle]
      exact quietTested_running u huw
    · have hu : u.budget.quiet = .stopped := by
        rcases h.quiet with e | ⟨e, _⟩
        · exact e.trans hstopped
        · exact e
      rw [hquiet, settle_cfg]
      exact quietTested_full u hu

theorem Passes.timerKept {s t : State} (h : Passes s t) (hs : TimerTold s) : TimerKept s t := by
  have hw := h.within
  have hbudget : t.budget = s.budget := hw.rest .budget (by decide)
  exact .of_same hs (congrArg Budget.quiet hbudget)
    (quietRuns_congr (hw.rest .phase (by decide)) (hw.rest .load (by decide)) (hw.rest .roster (by decide))
      (hw.rest .charge (by decide)) (hw.rest .discharge (by decide)) (hw.rest .trips (by decide))
      (congrArg Budget.count hbudget))

theorem WorkOutcome.timerKept {s t : State} (h : WorkOutcome s t) (hs : TimerTold s) : TimerKept s t := by
  cases h with
  | passed h => exact h.timerKept hs
  | closed hw u h ht => exact ht ▸ h.timerKept hw hs
  | served hp h _ =>
      have hidle := not_working_of_halted hp
      refine .of_stopped ?_ (not_quietRuns_of_idle (h.scope.working.trans hidle))
      rcases h.quiet with e | ⟨e, _⟩
      · rw [e]
        exact hs.stopped_of_idle hidle
      · rw [e]
        rfl

/-- A station in FORMING whose roster is EXPECTED has no coordinator (R87). -/
theorem coordinator_of_expected {s : State} (hp : s.phase ≠ .OPERATING) (h : ∀ e ∈ s.roster, e.status = .EXPECTED) :
    s.coordinator = none := by
  have hnone : s.roster.filter Entry.candidate = [] :=
    List.filter_eq_nil_iff.2 fun e he => by simp [Entry.candidate, h e he]
  simp [State.coordinator, State.candidates, hp, hnone, lowestRank]

theorem formRoster_expected (n own : Nat) (old : List Entry) : ∀ e ∈ formRoster n own old, e.status = .EXPECTED := by
  intro e he
  obtain ⟨r, _, rfl⟩ := List.mem_map.1 he
  split <;> rfl

theorem endLoading_timerKept (i : LoadInputs) (s : State) (hs : TimerTold s) : TimerKept s (endLoading i s) := by
  rcases endLoading_stays i s with e | ⟨hp, _, l, e | ⟨c, _, _, _, h⟩⟩
  · rw [e]
    exact ⟨hs, .inl⟩
  · rw [e]
    exact .of_stopped (hs.stopped_of_idle (not_working_of_loading hp)) (not_quietRuns_of_idle rfl)
  · have hphase : (endLoading i s).phase = .FORMING := h.phase
    have hroster := h.roster
    refine .of_stopped ?_ fun ⟨_, hcoordinator, _⟩ => ?_
    · rw [h.budget.quiet]
      exact hs.stopped_of_idle (not_working_of_loading hp)
    · have hnone : (endLoading i s).coordinator = none :=
        coordinator_of_expected (by simp [hphase]) (hroster ▸ formRoster_expected _ _ _)
      exact absurd (hnone.symm.trans hcoordinator) (by simp)

theorem BudgetOutcome.timerKept {s t : State} (h : BudgetOutcome s t) (hreset : ResetIsLoading s) (hs : TimerTold s) :
    TimerKept s t := by
  cases h with
  | worked h => exact h.timerKept hs
  | reset hp hb => exact .of_stopped (hb ▸ rfl) (not_quietRuns_of_idle (not_working_of_loading hp))
  | loading hlow ht =>
      have hidle := hs.stopped_of_idle (not_working_of_loading (hreset hlow))
      exact ht ▸ .of_stopped hidle (not_quietRuns_of_idle rfl)
  | loaded i ht => exact ht ▸ endLoading_timerKept i s hs

theorem tick_isRunning (t : Timer) : t.tick.isRunning = t.isRunning := by cases t <;> rfl

theorem tick_quietRuns (s : State) : QuietRuns s.tick ↔ QuietRuns s := by
  have hcandidates : (s.tick.roster.filter Entry.candidate).map (·.rank) = (s.roster.filter Entry.candidate).map (·.rank) := by
    show ((s.roster.map fun e => { e with silence := e.silence.tick }).filter Entry.candidate).map (·.rank) = _
    rw [List.filter_map, List.map_map]
    rfl
  have hcoordinator : s.tick.coordinator = s.coordinator := by
    unfold State.coordinator State.candidates
    rw [hcandidates]
    rfl
  have hpack (p : Path) : s.tick.packClosed p = s.packClosed p := by
    have hclosed : s.tick.roster.all (Entry.closed p) = s.roster.all (Entry.closed p) := by
      show (s.roster.map fun e => { e with silence := e.silence.tick }).all (Entry.closed p) = _
      rw [List.all_map]
      rfl
    unfold State.packClosed
    rw [hclosed]
    cases p <;> rfl
  unfold QuietRuns
  rw [hcoordinator, hpack, hpack]
  rfl

theorem step_timerKept {s t : State} (hstep : step s = .next t) (hreset : ResetIsLoading s) (hs : TimerTold s) :
    TimerKept s t := by
  rcases step_budget hstep with rfl | ⟨rest, h⟩
  · refine ⟨?_, fun h => .inl ?_⟩
    · show s.budget.quiet.tick.isRunning = true ↔ QuietRuns s.tick
      rw [tick_isRunning, tick_quietRuns]
      exact hs
    · show s.budget.quiet.tick = .stopped
      rw [h]
      rfl
  · obtain ⟨told, full⟩ := h.timerKept hreset hs
    exact ⟨told, full⟩

/-- Every step keeps a reset station in LOADING (R204). -/
theorem step_resetIsLoading {s t : State} (hstep : step s = .next t) (hs : ResetIsLoading s) : ResetIsLoading t := by
  obtain ⟨rest, h⟩ := step_outcome s t hstep
  cases h with
  | moved h => exact h.toListScope.resetIsLoading hs
  | emptied _ hp _ => exact resetIsLoading_of_phase t hp
  | loading _ ht => exact ht ▸ resetIsLoading_of_phase _ rfl
  | loaded i ht =>
      subst ht
      rcases endLoading_cases i { s with pending := rest } with e | ⟨l, _, hlow, e | ⟨b, _, _, h⟩⟩
      · rw [e]
        exact hs
      · rw [e]
        exact fun h => absurd (hlow.symm.trans h) (by decide)
      · exact fun hl => absurd (hlow.symm.trans (h.supply ▸ hl)) (by decide)

/-- Settles O57: operations at work keep the members, their agreement and the bound, the closing checks retest the timer where an
input changed, in HALTED no request reaches the budget, and a load forms the station with a blank budget and no coordinator. -/
theorem stepKeepsBudgetBounded : Obligations.StepKeepsBudgetBounded := by
  refine ⟨fun s t hs hstep => step_formed hstep hs, fun s t hformed ⟨_, hbound⟩ hstep => ?_, fun s t ⟨hreset, htold⟩ hstep => ?_⟩
  · obtain ⟨hreset, _⟩ := step_formed hstep hformed
    exact ⟨hreset, step_countBounded hstep hformed hbound⟩
  · obtain ⟨told, full⟩ := step_timerKept hstep hreset htold
    exact ⟨⟨step_resetIsLoading hstep hreset, told⟩, full⟩

end Sys2Proof.Machine
end

section
/-!
SUPPORT. A request from outside the roster (R163, R179 to R182), and RESET BUDGET (R134, R194).
-/
namespace Sys2Proof.Machine

/-! ### A request from outside the roster -/

theorem entry_eq_none_iff (s : State) (r : Nat) : s.entry r = none ↔ r ∉ s.members := by
  unfold State.entry State.members
  rw [List.find?_eq_none]
  simp

/-- A request from outside the roster is served alone: the membership unit passes it over, before and after. -/
theorem requestTakers_of_stranger (code : Byte) (h : ReqHead) (args : List Byte) (s : State) (hown : h.src.toNat ≠ s.rank)
    (hnone : s.entry h.src.toNat = none) :
    inAnyOrder (takers (requestFrame code h args)) s = serviceTakes (requestFrame code h args) s := by
  have hscope := serviceTakes_scope (requestFrame code h args) s
  have hbefore : membershipTakes (requestFrame code h args) s = s := membershipTakes_of_stranger _ s hown hnone
  have hafter : membershipTakes (requestFrame code h args) (serviceTakes (requestFrame code h args) s) =
      serviceTakes (requestFrame code h args) s := by
    refine membershipTakes_of_stranger _ _ (hscope.rank ▸ hown) ?_
    rw [entry_eq_none_iff, hscope.members, ← entry_eq_none_iff]
    exact hnone
  have hpair := inAnyOrder_pair (membershipTakes (requestFrame code h args)) (serviceTakes (requestFrame code h args)) s
    (hafter.trans (congrArg _ hbefore.symm))
  exact hpair.trans (congrArg _ hbefore)

/-- A request from outside the roster is counted and served; at work the closing checks follow (R161 to R163). -/
theorem request_of_stranger (code : Byte) (h : ReqHead) (args : List Byte) (s : State) (hphase : s.phase ≠ .LOADING)
    (hlisten : s.link.discarding = false) (hvalid : (requestFrame code h args).valid = true) (hown : h.src.toNat ≠ s.rank)
    (hnone : s.entry h.src.toNat = none) :
    receive (requestFrame code h args) s =
      if s.phase = .HALTED then serviceTakes (requestFrame code h args) s.heard
      else settle s.heard (serviceTakes (requestFrame code h args) s.heard) := by
  have htakers := requestTakers_of_stranger code h args s.heard hown hnone
  rw [receive_listening _ s hphase hlisten, if_pos hvalid]
  show distribute (requestFrame code h args) s.heard = _
  have hp : s.heard.phase = s.phase := rfl
  unfold distribute
  rw [hp, htakers]
  cases hcase : s.phase with
  | LOADING => exact absurd hcase hphase
  | HALTED => rfl
  | FORMING => rfl
  | OPERATING => rfl
  | CONFINED => rfl

/-! ### RESET BUDGET -/

/-- The reply to a RESET BUDGET (R182, R194). -/
def resetReply (h : ReqHead) (status reason : Byte) : TxFrame :=
  { dst := h.src, content := .reply [11, h.tag, status, reason], collisions := 0 }

theorem serve_resetBudget (tag : Byte) (s : State) : serve [11, tag] s = serveResetBudget s := by
  simp [serve, serveCode, requestLength]

theorem requestFrame_valid (h : ReqHead) (s : State) (hsrc : rankByteOk h.src = true) (hdst : h.dst.toNat = s.rank) :
    (requestFrame 11 h []).valid = true := by
  have hfrom : 1 ≤ h.src.toNat ∧ h.src.toNat ≤ 20 := by simpa [rankByteOk] using hsrc
  have hto : 1 ≤ h.dst.toNat ∧ h.dst.toNat ≤ 20 := by
    have hle := rank_le s
    have hpos : 1 ≤ s.rank := Nat.le_add_left 1 _
    omega
  simp [RxFrame.valid, requestFrame, Content.dstOk, Content.bodyOk, hfrom, hto]

/-- A RESET BUDGET is served where the reply slot is free. -/
theorem serviceTakes_resetBudget (h : ReqHead) (s : State) (hdst : h.dst.toNat = s.rank) (hown : h.src.toNat ≠ s.rank)
    (hslot : s.link.reply = none) (status reason : Nat) (t : State)
    (hserve : serveResetBudget s = { state := t, status := status, reason := reason, data := [] }) :
    serviceTakes (requestFrame 11 h []) s = t.replying (resetReply h (byteOf status) (byteOf reason)) := by
  have hto : ¬ (h.dst.toNat ≠ s.rank ∨ h.src.toNat = s.rank) := fun hor => hor.elim (fun e => e hdst) hown
  unfold serviceTakes requestFrame
  simp only [if_neg hto, hslot]
  show takeRequest h.src [11, h.tag] s = _
  have hpayload : replyPayload [11, h.tag] { state := t, status := status, reason := reason, data := [] } =
      [11, h.tag, byteOf status, byteOf reason] := by
    simp [replyPayload, padded]
  unfold takeRequest
  simp only [serve_resetBudget, hserve, hpayload]
  rfl

theorem activeCurrent_iff (l : List Record) :
    activeCurrent l = true ↔ ∃ r ∈ l, r.phase = .ACTIVE ∧ r.kind.currentClass = true := by
  simp [activeCurrent]

/-- What a RESET BUDGET answers, by the two tests of R134. -/
theorem serveResetBudget_eq (s : State) : serveResetBudget s =
    if s.coordinator ≠ some s.rank then .refused 6 s
    else if ∃ r ∈ s.trips.records, r.phase = .ACTIVE ∧ r.kind.currentClass = true then .refused 7 s
    else .done [] (newEpoch s) := by
  unfold serveResetBudget
  simp only [State.isCoordinator, activeCurrent_iff, Bool.not_eq_true', beq_eq_false_iff_ne]

/-- A refused RESET BUDGET leaves the station with the reply placed and the frame counted, and no more (R181). -/
theorem exec_resetBudget_refused (h : ReqHead) (s : State) (reason : Nat) (hphase : s.phase ≠ .LOADING)
    (hlisten : s.link.discarding = false) (hsrc : rankByteOk h.src = true) (hdst : h.dst.toNat = s.rank)
    (hown : h.src.toNat ≠ s.rank) (hnone : s.entry h.src.toNat = none) (hslot : s.link.reply = none)
    (hserve : serveResetBudget s.heard = .refused reason s.heard) :
    exec (.resetBudget h []) s = .next (s.heard.replying (resetReply h 2 (byteOf reason))) := by
  have hserved := serviceTakes_resetBudget h s.heard hdst hown hslot 2 reason s.heard hserve
  have hreceive := request_of_stranger 11 h [] s hphase hlisten (requestFrame_valid h s hsrc hdst) hown hnone
  have hsettle : settle s.heard (s.heard.replying (resetReply h 2 (byteOf reason))) =
      s.heard.replying (resetReply h 2 (byteOf reason)) := settle_of_link _ _ rfl
  rw [show exec (.resetBudget h []) s = .next (receive (requestFrame 11 h []) s) from rfl, hreceive, hserved,
    show byteOf 2 = 2 from rfl, hsettle, ite_self]

/-- A RESET BUDGET done starts a new epoch, and at work the closing checks follow. -/
theorem exec_resetBudget_done (h : ReqHead) (s : State) (hphase : s.phase ≠ .LOADING)
    (hlisten : s.link.discarding = false) (hsrc : rankByteOk h.src = true) (hdst : h.dst.toNat = s.rank)
    (hown : h.src.toNat ≠ s.rank) (hnone : s.entry h.src.toNat = none) (hslot : s.link.reply = none)
    (hserve : serveResetBudget s.heard = .done [] (newEpoch s.heard)) :
    exec (.resetBudget h []) s = .next (if s.phase = .HALTED then (newEpoch s.heard).replying (resetReply h 1 0)
      else settle s.heard ((newEpoch s.heard).replying (resetReply h 1 0))) := by
  have hserved := serviceTakes_resetBudget h s.heard hdst hown hslot 1 0 (newEpoch s.heard) hserve
  have hreceive := request_of_stranger 11 h [] s hphase hlisten (requestFrame_valid h s hsrc hdst) hown hnone
  rw [show exec (.resetBudget h []) s = .next (receive (requestFrame 11 h []) s) from rfl, hreceive, hserved]
  rfl

/-- The budget a new epoch leaves, once the closing checks have found its count at 0 (R132). -/
theorem settle_newEpoch_budget (b s : State) :
    (settle b (newEpoch s)).budget = { s.budget with epoch := s.budget.epoch + 1, count := 0, quiet := .stopped } := by
  have hepoch := settle_budget_epoch b (newEpoch s)
  have hcount := settle_budget_count b (newEpoch s)
  have hjoined := settle_budget_joined b (newEpoch s)
  have hquiet := settle_newEpoch_quiet b s
  generalize (settle b (newEpoch s)).budget = d at hepoch hcount hjoined hquiet
  obtain ⟨epoch, count, joined, quiet⟩ := d
  obtain rfl : epoch = s.budget.epoch + 1 := hepoch
  obtain rfl : count = 0 := hcount
  obtain rfl : joined = s.budget.joined := hjoined
  obtain rfl : quiet = .stopped := hquiet
  rfl

theorem heard_replying (s : State) (f : TxFrame) : s.heard.replying f = { s with link := { s.link with
    reply := some f
    counters := { s.link.counters with framesGood := min (s.link.counters.framesGood + 1) 65535 } } } := rfl

/-- A new epoch and its reply leave list, conditions, switches, line, phase and roster. -/
theorem newEpoch_frame (s : State) (f : TxFrame) : ((newEpoch s.heard).replying f).trips = s.trips ∧
    ((newEpoch s.heard).replying f).conds = s.conds ∧ ((newEpoch s.heard).replying f).charge = s.charge ∧
    ((newEpoch s.heard).replying f).discharge = s.discharge ∧ ((newEpoch s.heard).replying f).stop = s.stop ∧
    ((newEpoch s.heard).replying f).phase = s.phase ∧ ((newEpoch s.heard).replying f).roster = s.roster := by
  simp [newEpoch, State.replying, State.heard, State.count]

/-- Settles O49: the request is served on the station that counted it; the two tests of R134 refuse it with nothing changed, and else
the new epoch's count of 0 keeps the quiet timer stopped through the closing checks. -/
theorem resetBudgetNewEpoch : Obligations.ResetBudgetNewEpoch := by
  intro h s hphase hlisten hsrc hdst hown hnone hslot
  have hserve : serveResetBudget s.heard = if s.coordinator ≠ some s.rank then .refused 6 s.heard
      else if ∃ r ∈ s.trips.records, r.phase = .ACTIVE ∧ r.kind.currentClass = true then .refused 7 s.heard
      else .done [] (newEpoch s.heard) := serveResetBudget_eq s.heard
  have hrefused (reason : Nat) (hr : serveResetBudget s.heard = .refused reason s.heard) :=
    exec_resetBudget_refused h s reason hphase hlisten hsrc hdst hown hnone hslot hr
  by_cases hself : s.coordinator = some s.rank
  · by_cases hactive : ∃ r ∈ s.trips.records, r.phase = .ACTIVE ∧ r.kind.currentClass = true
    · rw [if_neg (not_not.2 hself), if_pos hactive] at hserve
      exact ⟨_, hrefused 7 hserve, fun hne => absurd hself hne, fun _ _ => heard_replying s _, fun _ hno => absurd hactive hno,
        rfl, rfl, rfl, rfl, rfl, rfl, rfl⟩
    · rw [if_neg (not_not.2 hself), if_neg hactive] at hserve
      refine ⟨_, exec_resetBudget_done h s hphase hlisten hsrc hdst hown hnone hslot hserve, fun hne => absurd hself hne,
        fun _ ha => absurd ha hactive, fun _ _ hhalted => ?_, ?_⟩
      · rw [if_neg hhalted]
        exact ⟨settle_newEpoch_budget _ (s.heard.replying (resetReply h 1 0)), settle_link_reply _ _⟩
      · split
        · exact newEpoch_frame s (resetReply h 1 0)
        · simp only [settle_trips, settle_conds, settle_charge, settle_discharge, settle_stop, settle_phase, settle_roster]
          exact newEpoch_frame s (resetReply h 1 0)
  · rw [if_pos hself] at hserve
    exact ⟨_, hrefused 6 hserve, fun _ => heard_replying s _, fun hs => absurd hs hself, fun hs => absurd hs hself,
      rfl, rfl, rfl, rfl, rfl, rfl, rfl⟩

end Sys2Proof.Machine
end

section
/-!
SUPPORT. A BEAT at the retry budget and at an IDLE reclose controller (R99, R126, R127, R129, R130, R163): what the other blocks leave
of the budget, the round and the last round and closer, before and after it.
-/
namespace Sys2Proof.Machine

/-! ### The budget and a beat (R129, R130) -/

theorem Budget.takeBeat_unjoined (limit : Nat) (e : Byte) (c : Nat) (b : Budget) (hj : b.joined = false) :
    b.takeBeat limit e c = { b with epoch := e, count := boundCount limit c, joined := true } := by
  simp [Budget.takeBeat, hj]

theorem Budget.takeBeat_same (limit : Nat) (e : Byte) (c : Nat) (b : Budget) (hj : b.joined = true) (he : e = b.epoch) :
    b.takeBeat limit e c = { b with count := max b.count (boundCount limit c) } := by
  simp [Budget.takeBeat, hj, he]

theorem Budget.takeBeat_newer (limit : Nat) (e : Byte) (c : Nat) (b : Budget) (hj : b.joined = true)
    (he : 1 ≤ (e - b.epoch).toNat ∧ (e - b.epoch).toNat ≤ 127) :
    b.takeBeat limit e c = { b with epoch := e, count := boundCount limit c } := by
  have hne : e ≠ b.epoch := by bv_omega
  have hnew : newer e b.epoch = true := decide_eq_true he
  simp [Budget.takeBeat, hj, hne, hnew]

theorem Budget.takeBeat_older (limit : Nat) (e : Byte) (c : Nat) (b : Budget) (hj : b.joined = true)
    (he : 128 ≤ (e - b.epoch).toNat) : b.takeBeat limit e c = b := by
  have hne : e ≠ b.epoch := by bv_omega
  have hold : newer e b.epoch = false := decide_eq_false (by omega)
  simp [Budget.takeBeat, hj, hne, hold]

/-- What a beat of a roster rank does to the station: it merges into the budget or leaves it, by the phase it reports. -/
theorem budgetTakes_beat (src : Byte) (b : BeatFields) (a : State) (hmem : src.toNat ∈ a.members) :
    budgetTakes (toAll src (.beat b)) a = if b.phase = 2 ∨ b.phase = 3
      then a.withBudget (a.budget.takeBeat a.cfg.latchLimit b.epoch b.count.toNat) else a := by
  have hroster := isRosterRank_of_mem_members _ a hmem
  have hphase : (b.phase.toNat == 2 || b.phase.toNat == 3) = decide (b.phase = 2 ∨ b.phase = 3) := by
    rw [Bool.eq_iff_iff, Bool.or_eq_true, beq_iff_eq, beq_iff_eq, decide_eq_true_eq]
    bv_omega
  unfold budgetTakes toAll
  simp only [hroster, hphase, Bool.true_and, decide_eq_true_eq]

/-- A BEAT at the station `s`: the other blocks lead to `a`, which the budget takes it at, and from there to `u`. -/
structure BeatTaken (src : Byte) (b : BeatFields) (s a u : State) : Prop where
  before : Works s a
  after : Works (budgetTakes (toAll src (.beat b)) a) u

theorem beat_taken (src : Byte) (b : BeatFields) (s : State) :
    ∃ a, BeatTaken src b s a (inAnyOrder (takers (toAll src (.beat b))) s) := by
  have hperm : (takers (toAll src (.beat b))).Perm (budgetTakes (toAll src (.beat b)) ::
      [membershipTakes (toAll src (.beat b)), listTakes (toAll src (.beat b)), recloseTakes (toAll src (.beat b))]) :=
    List.perm_middle (l₁ := [membershipTakes (toAll src (.beat b)), listTakes (toAll src (.beat b))])
  have hothers : ∀ g ∈ [membershipTakes (toAll src (.beat b)), listTakes (toAll src (.beat b)),
      recloseTakes (toAll src (.beat b))], ∀ t, Works t (g t) := by
    simp [membershipTakes_works_any, listTakes_works, recloseTakes_works]
  obtain ⟨pre, post, n, hsplit, heq⟩ := inAnyOrder_between hperm s
  have hbefore := runAll_works pre (fun g hg => hothers g (hsplit.subset (List.mem_append_left _ hg))) s
  have hafter := runAll_works post (fun g hg => hothers g (hsplit.subset (List.mem_append_right _ hg)))
    (budgetTakes (toAll src (.beat b)) (runAll pre s))
  refine ⟨runAll pre s, hbefore, ?_⟩
  rcases heq with e | e <;> rw [e]
  · exact hafter
  · exact hafter.trans (withFreeCount_works _ n)

section
variable {src : Byte} {b : BeatFields} {s a u : State}

/-- The beat of an OPERATING or CONFINED member, as it merges with the budget the other blocks left. -/
theorem BeatTaken.merged (h : BeatTaken src b s a u) (hmem : src.toNat ∈ s.members) (hp : b.phase = 2 ∨ b.phase = 3) :
    (a.budget.takeBeat s.cfg.latchLimit b.epoch b.count.toNat).Rises s.cfg.latchLimit u.budget := by
  have hrises := h.after.budget
  rw [budgetTakes_beat src b a (h.before.scope.members ▸ hmem), if_pos hp] at hrises
  rw [← h.before.cfg]
  exact hrises

/-- The beat of any other member passes the budget by. -/
theorem BeatTaken.passed (h : BeatTaken src b s a u) (hmem : src.toNat ∈ s.members) (hp : ¬ (b.phase = 2 ∨ b.phase = 3)) :
    s.budget.Rises s.cfg.latchLimit u.budget := by
  have hrises := h.after.budget
  rw [budgetTakes_beat src b a (h.before.scope.members ▸ hmem), if_neg hp] at hrises
  exact h.before.budget.trans (h.before.cfg ▸ hrises)

/-- Where the station ends in FORMING the other blocks left the budget (R128). -/
theorem BeatTaken.forming (h : BeatTaken src b s a u) (hmem : src.toNat ∈ s.members) (hp : b.phase = 2 ∨ b.phase = 3)
    (hu : u.phase = .FORMING) : u.budget = s.budget.takeBeat s.cfg.latchLimit b.epoch b.count.toNat := by
  obtain ⟨hphase, hbudget⟩ := h.after.still (by simp [hu]) (by simp [hu])
  rw [budgetTakes_beat src b a (h.before.scope.members ▸ hmem), if_pos hp] at hphase hbudget
  have hphase : u.phase = a.phase := hphase
  have hbudget : u.budget = a.budget.takeBeat a.cfg.latchLimit b.epoch b.count.toNat := hbudget
  obtain ⟨_, hkept⟩ := h.before.still (by simp [← hphase, hu]) (by simp [← hphase, hu])
  rw [hbudget, hkept, h.before.cfg]

theorem BeatTaken.joined_newer (h : BeatTaken src b s a u) (hmem : src.toNat ∈ s.members) (hp : b.phase = 2 ∨ b.phase = 3)
    (hj : s.budget.joined = true)
    (he : 1 ≤ (b.epoch - s.budget.epoch).toNat ∧ (b.epoch - s.budget.epoch).toNat ≤ 127) :
    u.budget.epoch = b.epoch ∧ boundCount s.cfg.latchLimit b.count.toNat ≤ u.budget.count := by
  obtain ⟨hepoch, _, hjoined, _⟩ := h.before.budget
  have hmerged := h.merged hmem hp
  rw [Budget.takeBeat_newer _ _ _ _ (hjoined hj) (hepoch ▸ he)] at hmerged
  exact ⟨hmerged.epoch, hmerged.count⟩

theorem BeatTaken.joined_same (h : BeatTaken src b s a u) (hmem : src.toNat ∈ s.members) (hp : b.phase = 2 ∨ b.phase = 3)
    (hj : s.budget.joined = true) (he : b.epoch = s.budget.epoch) : u.budget.epoch = s.budget.epoch ∧
      max s.budget.count (boundCount s.cfg.latchLimit b.count.toNat) ≤ u.budget.count := by
  obtain ⟨hepoch, _, hjoined, hcount, _⟩ := h.before.budget
  have hmerged := h.merged hmem hp
  rw [Budget.takeBeat_same _ _ _ _ (hjoined hj) (he.trans hepoch.symm)] at hmerged
  have hmax : max a.budget.count (boundCount s.cfg.latchLimit b.count.toNat) ≤ u.budget.count := hmerged.count
  exact ⟨hmerged.epoch.trans hepoch, by omega⟩

theorem BeatTaken.joined_older (h : BeatTaken src b s a u) (hmem : src.toNat ∈ s.members) (hp : b.phase = 2 ∨ b.phase = 3)
    (hj : s.budget.joined = true) (he : 128 ≤ (b.epoch - s.budget.epoch).toNat) :
    u.budget.epoch = s.budget.epoch ∧ s.budget.count ≤ u.budget.count := by
  obtain ⟨hepoch, _, hjoined, hcount, _⟩ := h.before.budget
  have hmerged := h.merged hmem hp
  rw [Budget.takeBeat_older _ _ _ _ (hjoined hj) (hepoch ▸ he)] at hmerged
  exact ⟨hmerged.epoch.trans hepoch, Nat.le_trans hcount hmerged.count⟩

theorem BeatTaken.joins (h : BeatTaken src b s a u) (hmem : src.toNat ∈ s.members) (hp : b.phase = 2 ∨ b.phase = 3) :
    u.budget.joined = true := by
  obtain ⟨_, _, hjoined, _⟩ := takeBeat_turns s.cfg.latchLimit b.epoch b.count.toNat a.budget
  exact (h.merged hmem hp).joined hjoined

end

/-! ### A station in IDLE -/

/-- From `s` to `t` a station in IDLE keeps what it holds of rounds. -/
def KeepsIdle (s t : State) : Prop := s.reclose.round = none → t.reclose = s.reclose

theorem KeepsIdle.refl (s : State) : KeepsIdle s s := fun _ => rfl

theorem KeepsIdle.trans {s t u : State} (h : KeepsIdle s t) (g : KeepsIdle t u) : KeepsIdle s u := by
  intro hs
  have ht := h hs
  exact (g (ht ▸ hs)).trans ht

theorem keepsIdle_of_same {s t : State} (h : t.reclose = s.reclose) : KeepsIdle s t := fun _ => h

theorem KeepsIdle.guarded {s t : State} {c : Prop} [Decidable c] (h : c → KeepsIdle s t) :
    KeepsIdle s (if c then t else s) := by
  split
  · exact h ‹_›
  · exact .refl s

theorem leaveRound_keepsIdle (s : State) : KeepsIdle s (leaveRound s) := by
  intro hs
  unfold leaveRound State.round
  rw [hs]

theorem openPath_keepsIdle (p : Path) (s : State) : KeepsIdle s (openPath p s) := by
  intro hs
  have hset : (s.setSwitch p (s.switch p).openCommand).reclose = s.reclose := s.setSwitch_reclose p _
  rcases openPath_eq p s with e | e
  · rw [e, hset]
  · rw [e]
    unfold afterOpen State.round
    rw [hset, hs]
    exact hset

theorem openPaths_keepsIdle (ps : PathSet) (s : State) : KeepsIdle s (forPaths ps openPath s) := by
  have hpath (c : Bool) (p : Path) (u : State) : KeepsIdle u (if c then openPath p u else u) :=
    .guarded fun _ => openPath_keepsIdle p u
  exact (hpath ps.charge .charge s).trans (hpath ps.discharge .discharge _)

theorem holdBoth_keepsIdle (s : State) : KeepsIdle s (holdBoth s) :=
  ((openPath_keepsIdle .charge s).trans (openPath_keepsIdle .discharge _)).trans (leaveRound_keepsIdle _)

theorem listReport_keepsIdle (ch : Change) (s : State) : KeepsIdle s (listReport ch s) := by
  have hoffers : (takeOffers ch s).reclose = s.reclose := by
    unfold takeOffers
    split <;> rfl
  have hopen := (keepsIdle_of_same hoffers).trans
    (openPaths_keepsIdle (newlyBlocked ch.before (takeOffers ch s).trips.records) (takeOffers ch s))
  unfold listReport
  simp only
  split
  · exact hopen
  · exact hopen.trans (.guarded fun _ => leaveRound_keepsIdle _)

theorem changeRecords_keepsIdle (out : List Record × Bool) (s : State) : KeepsIdle s (changeRecords out s) := by
  have hreport : KeepsIdle s (reported out.1 s) :=
    (keepsIdle_of_same rfl : KeepsIdle s (s.withRecords out.1)).trans (listReport_keepsIdle _ _)
  have hrefuse (u : State) : KeepsIdle u (refuseAddition u) := by
    unfold refuseAddition
    simp only
    split
    · exact keepsIdle_of_same rfl
    · have hflag : KeepsIdle u (u.withTrips { u.trips with full := true, fullTimer := .running u.cfg.tBeat }) :=
        keepsIdle_of_same rfl
      exact hflag.trans (holdBoth_keepsIdle _)
  rw [changeRecords_eq]
  split
  · exact hreport.trans (hrefuse _)
  · exact hreport

theorem listTakes_keepsIdle (f : RxFrame) (s : State) : KeepsIdle s (listTakes f s) := by
  unfold listTakes
  split
  · exact .refl s
  · split
    · exact changeRecords_keepsIdle _ s
    · simp only
      split
      · exact .refl s
      · exact changeRecords_keepsIdle _ s
    · exact .refl s

theorem clearCond_keepsIdle (id : CondId) (s : State) : KeepsIdle s (clearCond id s) := by
  obtain ⟨order, m, _, heq⟩ := reportConds_eq [id] [] (s.withConds (s.conds.set id .quiet))
  have hown : (ownChanged [id] order m (s.withConds (s.conds.set id .quiet))).reclose = s.reclose := by
    rw [ownChanged_eq]
    rfl
  unfold clearCond
  rw [heq]
  exact (keepsIdle_of_same hown).trans (listReport_keepsIdle _ _)

theorem memberHeard_keepsIdle (f : RxFrame) (e : Entry) (s : State) : KeepsIdle s (memberHeard f e s) := by
  have hroster : KeepsIdle s (s.withRoster (heardRoster f s)) := keepsIdle_of_same rfl
  have hfound (r : Nat) (u : State) : KeepsIdle u (memberFound r u) := by
    unfold memberFound
    exact .guarded fun _ => clearCond_keepsIdle _ u
  have hstale (r : Nat) (u : State) : KeepsIdle u (markStale r false u) := keepsIdle_of_same rfl
  by_cases h : e.status = .LOST
  · rw [memberHeard_of_lost f e s h]
    exact (hroster.trans (hfound _ _)).trans (hstale _ _)
  · rw [memberHeard_of_not_lost f e s h]
    exact hroster

theorem changePhase_keepsIdle (p : Phase) (s : State) : KeepsIdle s (changePhase p s) := by
  have hsettle (u : State) : KeepsIdle u (settleForming u) := by
    refine keepsIdle_of_same ?_
    unfold settleForming
    simp only
    split <;> rfl
  have hphase : KeepsIdle s (s.withPhase p) := keepsIdle_of_same rfl
  by_cases hf : s.phase = .FORMING
  · rw [changePhase_of_forming p s hf]
    split
    · exact (hphase.trans (hsettle _)).trans (keepsIdle_of_same rfl)
    · exact hphase.trans (hsettle _)
  · have heq : changePhase p s = if s.phase = .OPERATING then holdBoth (s.withPhase p) else s.withPhase p := by
      simp [changePhase, hf]
    rw [heq]
    split
    · exact hphase.trans (holdBoth_keepsIdle _)
    · exact hphase

theorem membershipTakes_keepsIdle (f : RxFrame) (s : State) (hown : f.src.toNat ≠ s.rank)
    (hmem : f.src.toNat ∈ s.members) : KeepsIdle s (membershipTakes f s) := by
  obtain ⟨e, he⟩ := Option.isSome_iff_exists.1 (isRosterRank_of_mem_members _ s hmem)
  rcases membershipTakes_cases f e s hown he with h | ⟨p, _, _, _, _, h⟩ <;> rw [h]
  · exact memberHeard_keepsIdle f e s
  · exact (memberHeard_keepsIdle f e s).trans (changePhase_keepsIdle p _)

theorem budgetTakes_keepsIdle (f : RxFrame) (s : State) : KeepsIdle s (budgetTakes f s) := by
  rcases budgetTakes_eq f s with h | ⟨_, _, _, h⟩ <;> rw [h]
  · exact .refl s
  · exact keepsIdle_of_same rfl

end Sys2Proof.Machine
end

section
/-!
SUPPORT. The proof about a BEAT's budget and the last round and closer (R99, R126, R127, R129, R130, R163).
-/
namespace Sys2Proof.Machine

/-! ### The coordinator while the other blocks take a beat (R87, R99) -/

theorem coordinator_congr {s t : State} (hphase : t.phase = s.phase) (hrank : t.rank = s.rank)
    (hroster : t.roster = s.roster) : t.coordinator = s.coordinator := by
  unfold State.coordinator State.candidates
  rw [hphase, hrank, hroster]

/-- Trip list and budget leave the coordinator. -/
theorem act_coordinator (f : RxFrame) (i : Taker) (hi : i = .list ∨ i = .budget) (a : State) :
    (i.act f a).coordinator = a.coordinator := by
  rcases hi with rfl | rfl
  · have hreach := listTakes_reach f a
    refine coordinator_congr (s := a) (t := listTakes f a) ?_ hreach.cond.rank ?_
    · rw [hreach]
    · rw [hreach]
  · rcases budgetTakes_eq f a with e | ⟨_, _, _, e⟩
    · exact congrArg State.coordinator e
    · exact (congrArg State.coordinator e).trans rfl

theorem run_coordinator (f : RxFrame) (ids : List Taker) (h : ∀ i ∈ ids, i = .list ∨ i = .budget) (s : State) :
    (runAll (ids.map (Taker.act f)) s).coordinator = s.coordinator := by
  refine runAll_keeps (fun t => t.coordinator = s.coordinator) _ (fun g hg t ht => ?_) s rfl
  obtain ⟨i, hi, rfl⟩ := List.mem_map.1 hg
  exact (act_coordinator f i (h i hi) t).trans ht

/-- A run of the other blocks at a station in IDLE leaves what it holds of rounds, and its members. -/
theorem run_idle (f : RxFrame) (ids : List Taker) (h : ∀ i ∈ ids, i = .membership ∨ i = .list ∨ i = .budget) (s : State)
    (hidle : s.reclose.round = none) (hown : f.src.toNat ≠ s.rank) (hmem : f.src.toNat ∈ s.members) :
    (runAll (ids.map (Taker.act f)) s).reclose = s.reclose ∧ ListScope s (runAll (ids.map (Taker.act f)) s) := by
  refine runAll_keeps (fun t => t.reclose = s.reclose ∧ ListScope s t) _ (fun g hg t ⟨ht, hscope⟩ => ?_) s ⟨rfl, .refl s⟩
  obtain ⟨i, hi, rfl⟩ := List.mem_map.1 hg
  have hround : t.reclose.round = none := ht ▸ hidle
  rcases h i hi with rfl | rfl | rfl
  · have hkeeps := membershipTakes_keepsIdle f t (hscope.rank ▸ hown) (hscope.members ▸ hmem)
    exact ⟨(hkeeps hround).trans ht, hscope.trans (membershipTakes_scope f t)⟩
  · exact ⟨(listTakes_keepsIdle f t hround).trans ht, hscope.trans (listTakes_scope f t)⟩
  · exact ⟨(budgetTakes_keepsIdle f t hround).trans ht, hscope.trans (budgetTakes_turns f t).scope⟩

/-- In IDLE the beat of the coordinator alone gives the last round and the last closer (R99). -/
theorem recloseTakes_beat (src : Byte) (b : BeatFields) (a : State) (hidle : a.reclose.round = none)
    (hmem : src.toNat ∈ a.members) : recloseTakes (toAll src (.beat b)) a = if a.coordinator = some src.toNat
      then a.withReclose { a.reclose with lastRound := b.lastRound.toNat, lastCloser := b.lastCloser.toNat } else a := by
  have hroster := isRosterRank_of_mem_members _ a hmem
  unfold recloseTakes toAll State.round
  simp only [hroster, hidle, Option.isNone_none, true_and, Bool.not_true, Bool.false_eq_true, if_false]

/-- What a BEAT leaves of the last round and closer of a station that took `c` for the coordinator. -/
def LastTold (src : Byte) (b : BeatFields) (c : Option Nat) (s t : State) : Prop :=
  if c = some src.toNat then t.reclose.lastRound = b.lastRound.toNat ∧ t.reclose.lastCloser = b.lastCloser.toNat
  else t.reclose.lastRound = s.reclose.lastRound ∧ t.reclose.lastCloser = s.reclose.lastCloser

/-- The reclose controller takes a BEAT after the other blocks did, and they leave what it took. -/
theorem recloseTakes_told (src : Byte) (b : BeatFields) {s a u : State} (hidle : s.reclose.round = none)
    (hmem : src.toNat ∈ a.members) (ha : a.reclose = s.reclose)
    (hu : u.reclose = (recloseTakes (toAll src (.beat b)) a).reclose) : LastTold src b a.coordinator s u := by
  rw [recloseTakes_beat src b a (ha ▸ hidle) hmem] at hu
  unfold LastTold
  split <;> rename_i hc
  · rw [hu, if_pos hc]
    exact ⟨rfl, rfl⟩
  · rw [hu, if_neg hc, ha]
    exact ⟨rfl, rfl⟩

/-- The reclose controller leaves the coordinator. -/
theorem recloseTakes_coordinator (f : RxFrame) (a : State) : (recloseTakes f a).coordinator = a.coordinator := by
  have hreach := recloseTakes_reach f a
  refine coordinator_congr ?_ hreach.list.cond.rank ?_ <;> rw [hreach]

/-- In whatever order, the reclose controller takes a BEAT between some of the other blocks and the rest of them. -/
theorem beat_order (src : Byte) (b : BeatFields) (s : State) : ∃ pre post : List Taker, ∃ n,
    (pre ++ post).Perm [.membership, .list, .budget] ∧
    inAnyOrder (takers (toAll src (.beat b))) s = (runAll (post.map (Taker.act (toAll src (.beat b))))
      (recloseTakes (toAll src (.beat b)) (runAll (pre.map (Taker.act (toAll src (.beat b)))) s))).withFreeCount n := by
  obtain ⟨order, n, hperm, heq⟩ := inAnyOrder_named (toAll src (.beat b)) [.membership, .list, .budget, .reclose] s
  obtain ⟨pre, post, rfl⟩ := List.append_of_mem (hperm.mem_iff.2 (by simp : Taker.reclose ∈ _))
  have hlast : [Taker.membership, .list, .budget, .reclose].Perm [.reclose, .membership, .list, .budget] :=
    List.perm_append_comm (l₁ := [Taker.membership, .list, .budget])
  refine ⟨pre, post, n, (List.perm_middle.symm.trans (hperm.trans hlast)).cons_inv, ?_⟩
  rw [List.map_append, runAll_append] at heq
  exact heq

/-- A BEAT at a station in IDLE: the reclose controller takes it under the coordinator before the membership unit took it, or under
the one after (R163). -/
theorem beat_told (src : Byte) (b : BeatFields) (s : State) (hidle : s.reclose.round = none) (hown : src.toNat ≠ s.rank)
    (hmem : src.toNat ∈ s.members) : ∃ c,
      (c = s.coordinator ∨ c = (inAnyOrder (takers (toAll src (.beat b))) s).coordinator) ∧
      LastTold src b c s (inAnyOrder (takers (toAll src (.beat b))) s) := by
  obtain ⟨pre, post, n, hperm, heq⟩ := beat_order src b s
  have hnodup : (pre ++ post).Nodup := hperm.nodup_iff.2 (by decide)
  have hids (i : Taker) (hi : i ∈ pre ++ post) : i = .membership ∨ i = .list ∨ i = .budget := by
    simpa using hperm.subset hi
  obtain ⟨ha, hscope⟩ := run_idle (toAll src (.beat b)) pre (fun i hi => hids i (List.mem_append_left _ hi)) s hidle hown hmem
  have hbefore (h : Taker.membership ∉ pre) := run_coordinator (toAll src (.beat b)) pre
    (fun i hi => (hids i (List.mem_append_left _ hi)).resolve_left fun e => h (e ▸ hi)) s
  rw [heq]
  generalize runAll (pre.map (Taker.act (toAll src (.beat b)))) s = a at ha hscope hbefore
  have hreclose := hscope.trans (recloseTakes_works (toAll src (.beat b)) a).scope
  have hround : (recloseTakes (toAll src (.beat b)) a).reclose.round = none := by
    rw [recloseTakes_beat src b a (ha ▸ hidle) (hscope.members ▸ hmem)]
    split <;> exact ha ▸ hidle
  obtain ⟨hu, _⟩ := run_idle (toAll src (.beat b)) post (fun i hi => hids i (List.mem_append_right _ hi))
    (recloseTakes (toAll src (.beat b)) a) hround (hreclose.rank ▸ hown) (hreclose.members ▸ hmem)
  have hafter (h : Taker.membership ∉ post) := run_coordinator (toAll src (.beat b)) post
    (fun i hi => (hids i (List.mem_append_right _ hi)).resolve_left fun e => h (e ▸ hi)) (recloseTakes (toAll src (.beat b)) a)
  generalize runAll (post.map (Taker.act (toAll src (.beat b)))) (recloseTakes (toAll src (.beat b)) a) = u at hu hafter
  refine ⟨a.coordinator, ?_, recloseTakes_told (u := u.withFreeCount n) src b hidle (hscope.members ▸ hmem) ha hu⟩
  by_cases hfirst : Taker.membership ∈ pre
  · have hlast : Taker.membership ∉ post := fun h => List.disjoint_of_nodup_append hnodup hfirst h
    exact .inr ((hafter hlast).trans (recloseTakes_coordinator _ a)).symm
  · exact .inl (hbefore hfirst)

/-! ### A BEAT as a whole -/

theorem beat_exec (src : Byte) (b : BeatFields) (s : State) (hw : s.working = true) (hlisten : s.link.discarding = false)
    (hsrc : rankByteOk src = true) (hb : b.wf = true) :
    exec (.beat src b) s = .next (settle s.heard (inAnyOrder (takers (toAll src (.beat b))) s.heard)) := by
  have hbrings : BringsFrame src (.beat src b) (toAll src (.beat b)) :=
    ⟨rfl, fun _ => rfl, fun h => RxFrame.valid_of h rfl (beat_bodyOk b hb)⟩
  exact hbrings.taken hsrc hw hlisten

/-- Settles O35: the budget takes the beat between blocks that keep its epoch and only raise its count, and the reclose controller
under the coordinator of before or after the membership unit; the closing checks keep all of it. -/
theorem beatMergesBudget : Obligations.BeatMergesBudget := by
  refine ⟨fun src b s e hw hlisten hsrc hb hown he => ?_, fun src b s e hw hlisten hsrc hb hown he hidle => ?_⟩
  · obtain ⟨a, h⟩ := beat_taken src b s.heard
    have hmem : src.toNat ∈ s.heard.members := mem_members_of_entry src.toNat e s.heard he
    refine ⟨_, beat_exec src b s hw hlisten hsrc hb, ?_⟩
    simp only [settle_budget_epoch, settle_budget_count, settle_budget_joined, settle_phase]
    refine ⟨fun hp hj => ⟨h.joins hmem hp, h.joined_newer hmem hp hj, h.joined_same hmem hp hj, h.joined_older hmem hp hj⟩,
      fun hp hj => ⟨h.joins hmem hp, fun hforming => ?_⟩, fun hp => ?_⟩
    · rw [h.forming hmem hp hforming, Budget.takeBeat_unjoined _ _ _ s.heard.budget hj]
      exact ⟨rfl, rfl⟩
    · have hpassed := h.passed hmem fun hq => by
        rcases hp with hp | hp <;> rw [hp] at hq <;> exact absurd hq (by decide)
      exact ⟨hpassed.epoch, hpassed.count⟩
  · have hmem : src.toNat ∈ s.heard.members := mem_members_of_entry src.toNat e s.heard he
    obtain ⟨c, hc, htold⟩ := beat_told src b s.heard hidle hown hmem
    refine ⟨_, beat_exec src b s hw hlisten hsrc hb, ?_⟩
    have hcoordinator := coordinator_congr (settle_phase s.heard (inAnyOrder (takers (toAll src (.beat b))) s.heard))
      (settle_scope _ _).rank (settle_roster _ _)
    simp only [settle_reclose_lastRound, settle_reclose_lastCloser, hcoordinator]
    unfold LastTold at htold
    refine ⟨fun hs ht => ?_, fun hs ht => ?_, ?_⟩
    · have hself : c = some src.toNat := hc.elim (·.trans hs) (·.trans ht)
      rwa [if_pos hself] at htold
    · have hother : c ≠ some src.toNat := hc.elim (fun h => h ▸ hs) (fun h => h ▸ ht)
      rwa [if_neg hother] at htold
    · split at htold
      · exact .inl htold
      · exact .inr htold

end Sys2Proof.Machine
end
